-- ==== Sys2Proof/Syntax.lean ====
section
/-! DEFINITION. The commands of the switch as data: one constructor of `Instr` for each row of
spec/opcode_table.json, with the operands that the rule of the row needs, and the records that those
operands are made of. What a wire, a partner or a sensor shows is an operand; what the switch does
with it is the command's effect (Machine). A few operands have a default (log entry 162). -/

namespace Sys2Proof

/-- An access path of the Pattern Book (R45), as the dictionary engine sees a request arrive. -/
inductive Path
  | preocNone                                    -- Preoc datagram with SESSION_ID 0
  | preoc (k : Nat)                              -- Preoc session k, 0 to 7
  | mctpBus (secure : Bool)                      -- MCTP over I3C or SMBus
  | mctpVdm (port : Nat) (secure : Bool)         -- MCTP over PCIe VDM from a port
  | cci (v : Nat)                                -- mailbox CCI of virtual switch v
  deriving DecidableEq, Repr

/-- An end of a UDP exchange on a management Ethernet port: its IPv4 address and UDP port (R47). -/
structure UdpEnd where
  eth  : Nat
  addr : Nat
  port : Nat
  deriving DecidableEq, Repr

/-- A UDP datagram as a management Ethernet port receives it (R47): its sender, the UDP port that it names, the VLAN IDs of its 802.1Q
tags, the size of its Ethernet frame in bytes, and whether it is an IP fragment. -/
structure Udp where
  sender     : UdpEnd
  port       : Nat
  tags       : List Nat
  size       : Nat
  fragmented : Bool
  deriving DecidableEq, Repr

/-- A transport of MCTP (R54): the I3C or SMBus target, or PCIe VDMs from a port. -/
inductive Medium
  | bus
  | vdm (port : Nat)
  deriving DecidableEq, Repr

/-- The transport of an SPDM message (R58): a Preoc datagram, or MCTP. -/
inductive Carrier
  | preoc (u : Udp)
  | mctp (on : Medium)
  deriving DecidableEq, Repr

/-- The session that a datagram or a secured message names by its SESSION_ID, and whether its authentication holds (R48). -/
structure SessionTag where
  sid       : Nat
  authentic : Bool
  deriving DecidableEq, Repr

/-- An SPDM message within a session (R58). -/
structure SpdmIn where
  via : Carrier
  tag : SessionTag
  deriving DecidableEq, Repr

/-- A NOTIFY_ACK datagram (R53): the notification that it acknowledges, and its session. -/
structure AckIn where
  seq : Nat
  tag : SessionTag
  deriving DecidableEq, Repr

/-- The requester's certificate chain at FINISH (R58): whether it and the signature verify, and the digest of its root. -/
structure RootChain where
  ok   : Bool
  root : Nat
  deriving DecidableEq, Repr

/-- The five operations of the dictionary (R42). -/
inductive OpKind | read | write | compareWrite | blockRead | blockWrite
  deriving DecidableEq, Repr

/-- One operation record (the operation record table of chapter 2). Values are little-endian numbers. -/
structure DictOp where
  kind   : OpKind
  index  : Nat
  sub    : Nat
  len    : Nat
  offset : Nat
  expect : Nat
  value  : Nat
  deriving DecidableEq, Repr

/-- A Preoc PB_REQUEST datagram (R47 to R51). -/
structure Datagram where
  udp        : Udp
  sessionId  : Nat
  authentic  : Bool
  seq        : Nat
  atomic     : Bool
  ops        : List DictOp
  deriving DecidableEq, Repr

/-- A bit cell of a QDR die: its bank group, and the word address and bit within it (R12). -/
structure BitCell where
  bank : Nat
  word : Nat
  bit  : Nat
  deriving DecidableEq, Repr

/-- A memory or interface error that the silicon meets in a stitch (R30, R206, R301, R379, R461 and the
event tables of chapters 6 and 7). -/
inductive Defect
  | boltCorr (die : Nat) (cell : BitCell)
  | boltUncorr (packet swatch : Nat) (cell : BitCell)
  | swatchErr (packet bit : Nat)
  | dirCorr (die : Nat) (cell : BitCell)
  | ruleCorr (central : Bool) (port bank rule : Nat)
  | ruleUncorr (central : Bool) (port bank rule : Nat)
  | nocCorr (router : Nat)
  | nocHeader (router id : Nat)
  | nocBody (router id : Nat)
  | nocCredit (router : Nat)
  | ctrParity (i : Nat)
  | queueCorr (q : Nat)
  | queueUncorr (q : Nat)
  | creditErr (q : Nat)
  | funnelCorr (c : Nat)
  | funnelUncorr (c : Nat)
  | prbsErr (lane bits : Nat)
  | dictFault
  deriving DecidableEq, Repr

/-- What a block reports for one countable event in a stitch (R457): `slice` 65535 for none. -/
structure Increment where
  event  : Nat
  slice  : Nat
  amount : Nat
  deriving DecidableEq, Repr

/-- What the silicon meets in a stitch. `rx`: lanes in raw test mode and the symbols that arrive on their receive balls, the first in the
lowest place, two bits a level at the PAM4 rates (R112). -/
structure StitchEnv where
  defects : List Defect
  incs    : List Increment
  rx      : List (Nat × Nat)
  deriving DecidableEq, Repr

/-- A PAYLOAD frame as it arrives (R131): its 256 B, and the outputs of its swatches in this fabric. -/
structure FrameIn where
  bits : Nat
  outs : List Nat
  deriving DecidableEq, Repr

/-- The tag of a SWITCH lane command, and the frame slots that it leaves until the change (R144). -/
structure SwitchIn where
  tag  : Nat
  left : Nat
  deriving DecidableEq, Repr

/-- One slot tick's samples of a slot (R412, R422): pin levels are given as asserted or not. -/
structure SlotSample where
  slot     : Nat
  vin      : Nat
  vout     : Nat
  senseUv  : Int
  gateFull : Bool
  prsnt    : Bool
  btn      : Bool
  alert    : Bool
  auxOver  : Bool
  deriving DecidableEq, Repr

/-- One slot tick's samples (R400, R412, R485, R510). -/
structure TickEnv where
  volts  : List (Nat × Nat)
  slots  : List SlotSample
  senseP : Bool
  senseN : Bool
  board  : Bool
  deriving DecidableEq, Repr

/-- A request of the partner in equalisation, for a lane of the port: a preset 0 to 10, or coefficients in the layout of TX_FIR (R106). -/
structure EqReq where
  lane   : Nat
  preset : Option Nat
  fir    : Nat
  deriving DecidableEq, Repr

/-- What link training found at the partner (R70, R71). Bit i of `modes`: 0 256B standard,
1 256B latency-optimised, 2 68B, 3 PCIe non-flit. -/
structure Trained where
  modes   : Nat
  rate    : Nat
  lanes   : Nat
  partner : Nat
  lds     : Nat
  eq      : List EqReq
  deriving DecidableEq, Repr

/-- A CXL.io request at a port. `kind`: 0 memory read, 1 memory write, 2 AtomicOp, 3 configuration or
other non-posted request, 4 message or other posted request, 5 completion routed by ID. A request with
`byId` carries the bus, device and function in `keyId`; otherwise it carries an address. Kind 6 is the host's write of
the Command register of the USP function, with the value in `data` (R320); kind 7 is a Global Persistent Flush message (R70); kind 8 is
the host's write of the Slot Control register of vPPB `keyId`, with the value in `data` (R82). `slice` is the SLICE field of the swatch header of
a request that enters at a seam in twin role (R303). -/
structure IoReq where
  port     : Nat
  slice    : Nat
  ld       : Option Nat
  pbr      : Option Nat
  kind     : Nat
  byId     : Bool
  keyId    : Nat
  vcs      : Nat
  addr     : Nat
  len      : Nat
  data     : Nat
  poison   : Bool
  pasid    : Option Nat
  tc       : Nat
  tag      : Nat
  atomCode : Nat
  atomSize : Nat
  operand  : Nat
  compare  : Nat
  deriving DecidableEq, Repr

/-- The CXL.mem requests of a host (R211, R222). -/
inductive MemOp
  | memRd | memRdData | memInv | memInvNT | memSpecRd | memClnEvct | memWr | memWrPtl | biConflict
  deriving DecidableEq, Repr

/-- MetaValue of a CXL.mem request, or MetaField No-Op. -/
inductive Meta | i | s | a | noOp
  deriving DecidableEq, Repr

/-- A CXL.mem request of a host (R281). `pbr` is the source of a request that enters at a seam in fabric role, `slice` the
SLICE field of one that enters at a seam in twin role (R303, R304). -/
structure MemReq where
  port   : Nat
  pbr    : Option Nat
  slice  : Nat
  op     : MemOp
  mval   : Meta
  addr   : Nat
  tag    : Nat
  data   : Nat
  be     : Nat
  poison : Bool
  deriving DecidableEq, Repr

/-- A target's response to a forwarded request. `status`: 0 success, 1 Unsupported Request,
2 Completer Abort, 3 CXL.mem error. -/
structure Response where
  status : Nat
  data   : Nat
  poison : Bool
  deriving DecidableEq, Repr

/-- A packet, or further swatches of one, presented at an input of the fabric core (R167). -/
structure Present where
  id     : Nat
  input  : Nat
  output : Nat
  cls    : Nat
  slice  : Nat
  len    : Nat
  count  : Nat
  io     : Bool
  kind   : Nat          -- 0 MEM, 1 IO, 2 RSP, 3 CACHE, 4 NDR and BISnp (R314)
  fill   : Nat          -- FILL of the EOP swatch (R154)
  payload : Nat         -- 64 B for each swatch of the packet
  failed : Nat          -- bit k: swatch k comes marked failed (R129, R156, R206)
  deriving DecidableEq, Repr

/-- What a flit carries for the port engine: a request, or a response to one that it forwarded, or swatches of a packet. -/
inductive FlitItem
  | io (locked : Bool) (r : IoReq)
  | mem (r : MemReq)
  | cache (ld cacheId addr : Nat)
  | response (tag : Nat) (r : Response)
  | packet (k : Present)
  | birsp (bitag kind : Nat)
  deriving DecidableEq, Repr

/-- A received flit with the verdicts of its checks (R28), the SOP and EOP marks of its swatches, and what it carries. `retrain`: the
port goes into Recovery for its error. -/
structure Flit where
  port      : Nat
  proto     : Nat          -- 0 CXL.io, 1 CXL.mem, 2 CXL.cache
  corrected : Nat
  fecOk     : Bool
  crcOk     : Bool
  macOk     : Bool
  newKeySet : Bool
  swatches  : List (Bool × Bool)
  retrain   : Bool
  items     : List FlitItem
  deriving DecidableEq, Repr

/-- An INIT frame's record (R147). -/
structure InitRecord where
  version : Nat
  role    : Nat
  rate    : Nat
  mask    : Nat
  vcCount : Nat
  resume  : Bool
  vcMap   : Nat
  vcBuf   : Nat
  serial  : Nat
  deriving DecidableEq, Repr

/-- Who a coherence request comes from (R222): a caching agent, or a non-caching writer or reader. -/
inductive Requester
  | agent (a : Nat)
  | io (port : Nat)
  | needle (c : Nat)
  | mgmt (m : Nat)
  deriving DecidableEq, Repr

/-- A request as a coherence slice takes it (R222). `ecc`: 0 good directory read, 1 corrected,
2 word 0 uncorrectable, 3 word 1 uncorrectable (R243). -/
structure CohReq where
  addr     : Nat
  who      : Requester
  port     : Nat
  tag      : Nat
  slice    : Nat
  naks     : Nat
  mval     : Meta
  partialW : Bool
  data     : Nat
  be       : Nat
  poison   : Bool
  refused  : Option Nat
  ecc      : Nat
  atomCode : Nat
  atomSize : Nat
  operand  : Nat
  compare  : Nat
  deriving DecidableEq, Repr

/-- A BIRsp as a port engine forwards it (R223). `kind`: 0 BIRspI, 1 BIRspS, 2 BIRspE. -/
structure BiRsp where
  bitag   : Nat
  agent   : Nat
  kind    : Nat
  wbAhead : Nat
  deriving DecidableEq, Repr

/-- A home line cache message at a bolt store controller (R254). -/
structure HlcMsg where
  addr     : Nat
  data     : Nat
  be       : Nat
  keep     : Bool
  failed   : Bool
  atomic   : Bool
  atomCode : Nat
  atomSize : Nat
  operand  : Nat
  compare  : Nat
  deriving DecidableEq, Repr

/-- A check site of protection rules (R290). -/
inductive Site
  | central
  | gate (p : Nat)
  deriving DecidableEq, Repr

/-- A HELLO or HEARTBEAT message of the peer twin (R396). -/
structure PairMsg where
  role     : Nat
  state    : Nat
  incident : Nat
  ftime    : Nat
  serial   : Nat
  agents   : Nat
  digest   : Nat
  deriving DecidableEq, Repr

/-- A mirror record (R389), with the entry that follows an IMAGE. -/
structure MirrorRec where
  ty       : Nat
  lines    : Nat
  newState : Nat
  home     : Nat
  agent    : Nat
  slot     : Nat
  tag      : Nat
  slice    : Nat
  ce       : Nat
  entry    : Nat
  deriving DecidableEq, Repr

/-- The capture context that a raising block sends (R441). -/
structure Ctx where
  cause    : Nat
  slice    : Nat
  gen      : Nat
  addr     : Nat
  initKind : Nat
  initId   : Nat
  access   : Nat
  flags    : Nat
  level    : Nat
  kind     : Nat
  unit     : Nat
  die      : Nat
  quad     : Nat
  detail   : Nat
  deriving DecidableEq, Repr

/-- Occurrences of one source in one stitch (R438). -/
structure Occurrence where
  source : Nat
  count  : Nat
  ctx    : Ctx
  deriving DecidableEq, Repr

/-- Who asks for a life-cycle transition (R497). -/
inductive LcAsker | path (p : Path) | jtag
  deriving DecidableEq, Repr

/-- A write of LC_REQ or a tester request (R497). -/
structure LcReq where
  by_    : LcAsker
  target : Nat
  crc    : Nat
  deriving DecidableEq, Repr

/-- A PLDM for Firmware Update message (R61). -/
inductive PldmMsg
  | start
  | component (offset len data : Nat)
  | finish
  | cancel
  deriving DecidableEq, Repr

/-- A JTAG instruction or tester access (R499). -/
inductive JtagInstr
  | idcode
  | bypass
  | boundaryScan
  | debug
  | testMode
  | writeG0 (image : Nat)
  | transition (target crc : Nat)
  deriving DecidableEq, Repr

/-- The commands of the switch: one constructor per row of spec/opcode_table.json, in its order. -/
inductive Instr
  /-- STITCH_STROBE (R19). The stitch strobe starts a stitch, and the stitch runs its request, schedule, grant, commit and data phases. -/
  | stitchStrobe (env : StitchEnv)
  /-- SLOT_TICK (R11). A slot tick begins at every stitch whose number is a multiple of 125, and slot and sense sampling run in it. -/
  | slotTick (env : TickEnv)
  /-- REFILL_BOUNDARY (R23). At a refill boundary every bucket and bobbin refills. -/
  | refillBoundary
  /-- LOST_STITCH (R24). A stitch whose cycles do not finish before the next strobe is lost, and its grants are discarded. -/
  | lostStitch
  /-- FLIT_RECEIVED (R28). A flit arrives at a port, is checked by FEC, CRC or MAC, and its swatches are released or discarded. -/
  | flitReceived (f : Flit)
  /-- MANAGEMENT_RESET (R32). PD1 restarts, sessions close, and traffic continues. -/
  | managementReset
  /-- BOOT_COMPLETE (R486). The firmware runs, loads the settings image and applies the saved entries in order. -/
  | bootComplete
  /-- MANAGEMENT_WATCHDOG (R59). An unconfirmed boot reaches 60 s, and the watchdog causes a management reset. -/
  | managementWatchdog
  /-- READ (R35). A READ operation returns an entry's value. -/
  | read (path : Path) (index : Nat) (sub : Nat) (len : Nat)
  /-- WRITE (R517). A WRITE operation is checked and writes an entry. -/
  | write (path : Path) (index : Nat) (sub : Nat) (len : Nat) (value : Nat)
  /-- COMPARE_WRITE (R517). A COMPARE_WRITE operation writes only when the entry holds the expected value. -/
  | compareWrite (path : Path) (index : Nat) (sub : Nat) (len : Nat) (expect : Nat) (value : Nat)
  /-- BLOCK_READ (R518). A BLOCK_READ operation reads part of an OCTETS entry at an offset. -/
  | blockRead (path : Path) (index : Nat) (sub : Nat) (offset : Nat) (len : Nat)
  /-- BLOCK_WRITE (R518). A BLOCK_WRITE operation replaces part of an OCTETS entry at an offset. -/
  | blockWrite (path : Path) (index : Nat) (sub : Nat) (offset : Nat) (len : Nat) (data : Nat)
  /-- REGISTER_WRITE (R22). A write to a Pattern Book entry that has no row of its own is accepted and takes effect. -/
  | registerWrite (index : Nat) (sub : Nat) (value : Nat)
  /-- PB_REQUEST (R51). A Preoc PB_REQUEST datagram is authenticated, sequence-checked and its operations executed. -/
  | pbRequest (d : Datagram)
  /-- SPDM_GET_VERSION (R58). The SPDM responder answers GET_VERSION. -/
  | spdmGetVersion (via : Carrier)
  /-- SPDM_GET_CAPABILITIES (R58). The SPDM responder answers GET_CAPABILITIES. -/
  | spdmGetCapabilities (via : Carrier)
  /-- SPDM_NEGOTIATE_ALGORITHMS (R58). The SPDM responder answers NEGOTIATE_ALGORITHMS. -/
  | spdmNegotiateAlgorithms (via : Carrier) (supported : Bool)
  /-- SPDM_GET_DIGESTS (R58). The SPDM responder returns certificate digests. -/
  | spdmGetDigests (via : Carrier)
  /-- SPDM_GET_CERTIFICATE (R58). The SPDM responder returns a certificate chain. -/
  | spdmGetCertificate (via : Carrier) (slot : Nat) (offset : Nat) (len : Nat)
  /-- SPDM_CHALLENGE (R58). The SPDM responder answers a CHALLENGE. -/
  | spdmChallenge (via : Carrier) (slot : Nat) (nonce : Nat)
  /-- SPDM_GET_MEASUREMENTS (R58). The SPDM responder returns its measurements. -/
  | spdmGetMeasurements (via : Carrier) (which : Nat)
  /-- KEY_EXCHANGE (R50). A KEY_EXCHANGE opens a session or receives Busy when eight are open. -/
  | keyExchange (via : Carrier) (slot : Nat) (exchange : Nat)
  /-- SPDM_FINISH (R50). FINISH completes the session handshake and sets its privilege. -/
  | spdmFinish (via : Carrier) (k : Nat) (chain : RootChain)
  /-- KEY_UPDATE (R58). KEY_UPDATE replaces a session's keys. -/
  | keyUpdate (x : SpdmIn)
  /-- SPDM_HEARTBEAT (R58). An SPDM HEARTBEAT keeps a session alive. -/
  | spdmHeartbeat (x : SpdmIn)
  /-- END_SESSION (R58). END_SESSION closes a session. -/
  | endSession (x : SpdmIn)
  /-- KEEPALIVE (R50). A Preoc KEEPALIVE datagram keeps a session open. -/
  | keepalive (u : Udp) (tag : SessionTag)
  /-- SESSION_TIMEOUT (R50). A session with no datagram for three KEEPALIVE_MS is closed and its subscriptions dropped. -/
  | sessionTimeout (k : Nat)
  /-- SESSION_CLOSE (R50). A write of CLOSE closes a Preoc session. -/
  | sessionClose (k : Nat)
  /-- NOTIFY_ACK (R53). A NOTIFY_ACK acknowledges every notification up to its sequence number. -/
  | notifyAck (u : Udp) (ack : AckIn)
  /-- NOTIFY_RETRY_EXPIRY (R53). The oldest unacknowledged notification is resent, or dropped after NOTIFY_TRIES. -/
  | notifyRetryExpiry (k : Nat)
  /-- SET_ENDPOINT_ID (R54). The MCTP endpoint takes an assigned EID. -/
  | setEndpointId (eid : Nat) (on : Medium := .bus)
  /-- GET_ENDPOINT_ID (R54). The MCTP endpoint returns its EID. -/
  | getEndpointId (on : Medium := .bus)
  /-- GET_MCTP_VERSION_SUPPORT (R54). The MCTP endpoint returns its supported versions. -/
  | getMctpVersionSupport (on : Medium := .bus)
  /-- GET_MESSAGE_TYPE_SUPPORT (R54). The MCTP endpoint returns its supported message types. -/
  | getMessageTypeSupport (on : Medium := .bus)
  /-- VDM_DROP (R56). An MCTP PCIe VDM from a port other than FMH_PORT is discarded and counted. -/
  | vdmDrop (port : Nat)
  /-- PB_ACCESS (R55). The PB_ACCESS FM API command executes operation records over MCTP or a mailbox CCI. -/
  | pbAccess (path : Path) (atomic : Bool) (ops : List DictOp) (opcode : Nat := 0xC000)
  /-- IDENTIFY (R57). The Identify command returns identity entries. -/
  | identify (path : Path)
  /-- GET_EVENT_RECORDS (R451). Get Event Records returns event records, filtered by slice for a SLICE requester. -/
  | getEventRecords (path : Path)
  /-- CLEAR_EVENT_RECORDS (R451). Clear Event Records clears the sticky bits of the sources named. -/
  | clearEventRecords (path : Path) (sources : List Nat)
  /-- GET_FW_INFO (R57). Get FW Info returns the firmware slots. -/
  | getFwInfo (path : Path)
  /-- TRANSFER_FW (R60). Transfer FW writes the non-running firmware slot. -/
  | transferFw (path : Path) (offset : Nat) (len : Nat) (data : Nat)
  /-- ACTIVATE_FW (R60). Activate FW selects the new slot through FW_ACTIVATE. -/
  | activateFw (path : Path) (action : Nat)
  /-- GET_TIMESTAMP (R57). Get Timestamp returns fabric time. -/
  | getTimestamp (path : Path)
  /-- SET_TIMESTAMP (R6). Set Timestamp loads fabric time, unless this is twin B of a synchronised pair. -/
  | setTimestamp (path : Path) (time : Nat)
  /-- GET_SUPPORTED_LOGS (R57). Get Supported Logs lists the event log. -/
  | getSupportedLogs (path : Path)
  /-- GET_LOG (R57). Get Log returns event log data. -/
  | getLog (path : Path) (offset : Nat) (len : Nat)
  /-- IDENTIFY_SWITCH_DEVICE (R57). Identify Switch Device returns switch identity and port entries. -/
  | identifySwitchDevice (path : Path)
  /-- GET_PHYSICAL_PORT_STATE (R57). Get Physical Port State returns port entries. -/
  | getPhysicalPortState (path : Path) (port : Nat)
  /-- PHYSICAL_PORT_CONTROL (R57). Physical Port Control acts on port control entries. -/
  | physicalPortControl (path : Path) (port : Nat) (action : Nat)
  /-- SEND_PPB_CXL_IO_CONFIGURATION_REQUEST (R57). A CXL.io configuration request is passed to a port. -/
  | sendPpbCxlIoConfigurationRequest (path : Path) (port : Nat) (payload : Nat)
  /-- GET_VIRTUAL_CXL_SWITCH_INFO (R57). Get Virtual CXL Switch Info returns virtual switch entries. -/
  | getVirtualCxlSwitchInfo (path : Path) (v : Nat)
  /-- BIND_VPPB (R81). Bind vPPB starts a background bind through BIND_REQ. -/
  | bindVppb (path : Path) (v : Nat) (vppb : Nat) (port : Nat) (ld : Nat) (ldValid : Bool)
  /-- UNBIND_VPPB (R83). Unbind vPPB starts a background unbind through BIND_REQ. -/
  | unbindVppb (path : Path) (v : Nat) (vppb : Nat) (mode : Nat)
  /-- GENERATE_AER_EVENT (R57). Generate AER Event raises an AER event in a vPPB. -/
  | generateAerEvent (path : Path) (vppb : Nat) (error : Nat)
  /-- TUNNEL_MANAGEMENT_COMMAND (R78). A management command is tunnelled to the device behind a port without interpretation. -/
  | tunnelManagementCommand (path : Path) (port : Nat) (payload : Nat)
  /-- SEND_LD_CXL_IO_CONFIGURATION_REQUEST (R57). A CXL.io configuration request is passed to an LD. -/
  | sendLdCxlIoConfigurationRequest (path : Path) (port : Nat) (ld : Nat) (payload : Nat)
  /-- SEND_LD_CXL_IO_MEMORY_REQUEST (R57). A CXL.io memory request is passed to an LD. -/
  | sendLdCxlIoMemoryRequest (path : Path) (port : Nat) (ld : Nat) (payload : Nat)
  /-- FW_IMAGE_WRITE (R60). A block write of FW_IMAGE fills the non-running slot at the next expected offset. -/
  | fwImageWrite (pldm : Option Medium) (offset : Nat) (len : Nat) (data : Nat)
  /-- FW_VERIFY (R60). A write of 1 to FW_VERIFY starts verifying the new image. -/
  | fwVerify
  /-- FW_VERIFY_DONE (R60). Verification ends and FW_VERIFY reads good or bad. -/
  | fwVerifyDone (good : Bool) (version : Nat) (svn : Nat)
  /-- FW_ACTIVATE_NEXT (R60). FW_ACTIVATE 1 sets FW_NEXT to the new slot for the next management reset. -/
  | fwActivateNext
  /-- FW_ACTIVATE_NOW (R60). FW_ACTIVATE 2 sets FW_NEXT and begins a management reset at once. -/
  | fwActivateNow
  /-- FW_CONFIRM (R59). FW_CONFIRM confirms the running boot. -/
  | fwConfirm
  /-- SVN_COMMIT (R491). SVN_COMMIT burns SVN bits up to the running image's security version. -/
  | svnCommit
  /-- PLDM_ACTIVATE_FIRMWARE (R61). PLDM ActivateFirmware performs FW_ACTIVATE value 1 or 2. -/
  | pldmActivateFirmware (selfContained : Bool) (on : Medium := .bus)
  /-- SETTINGS_SAVE (R38). SETTINGS_SAVE starts writing the saved entries to the older flash copy. -/
  | settingsSave
  /-- SETTINGS_SAVE_DONE (R38). A settings save finishes and its copy takes the next generation. -/
  | settingsSaveDone
  /-- LOG_FLUSH_TIMER (R62). FLUSH_MS passes since a page's first record, and the page is written to flash. -/
  | logFlushTimer (flashOk : Bool)
  /-- LOG_CLEAR (R62). CLEAR empties the event log ring while SEQ continues. -/
  | logClear
  /-- MW_ACCESS (R64). A management core access through a fabric window is mapped, swapped, checked and issued. -/
  | mwAccess (m : Nat) (write : Bool) (offset : Nat) (len : Nat) (data : Nat)
  /-- MW_DISABLE (R66). MW_ENABLE is cleared once every access made through the window has completed. -/
  | mwDisable (m : Nat)
  /-- PORT_ENABLE (R69). ENABLE 0 to 1 applies the width and starts link training at Detect. -/
  | portEnable (p : Nat)
  /-- PORT_DISABLE (R69). ENABLE 1 to 0 ends open transactions, disables the link and resets credits. -/
  | portDisable (p : Nat)
  /-- LINK_RETRAIN (R520). LINK_CTRL 1 takes a link in L0 or L1 into Recovery. -/
  | linkRetrain (p : Nat)
  /-- LINK_HOT_RESET (R520). LINK_CTRL 2 sends a hot reset on the port. -/
  | linkHotReset (p : Nat)
  /-- LINK_DISABLE (R520). LINK_CTRL 3 takes the link to Disabled while ENABLE stays 1. -/
  | linkDisable (p : Nat)
  /-- LINK_ENABLE (R520). LINK_CTRL 4 restarts training at Detect from Disabled or rest. -/
  | linkEnable (p : Nat)
  /-- LINK_TRAINING_DONE (R71). Training ends with the link at L0 or, with no common mode, back in Detect. -/
  | linkTrainingDone (p : Nat) (t : Trained)
  /-- L0P_WIDTH_CHANGE (R73). The port narrows or widens its active width under L0p. -/
  | l0pWidthChange (p : Nat) (lanes : Nat)
  /-- KEY_GO (R74). KEY_GO loads the written IDE key and IV into the selected stream. -/
  | keyGo (p : Nat)
  /-- VCS_ENABLE (R76). A virtual switch is enabled after checks of its USP and vPPB range. -/
  | vcsEnable (v : Nat)
  /-- VCS_DISABLE (R516). A virtual switch is disabled, and its USP stops presenting a switch function. -/
  | vcsDisable (v : Nat)
  /-- CXL_CACHE_REQUEST (R79). A device's CXL.cache request is routed to its virtual switch's USP or discarded. -/
  | cxlCacheRequest (p : Nat) (ld : Nat) (cacheId : Nat) (addr : Nat)
  /-- BIND (R81). BIND_REQ OP 1 checks and binds a port or LD to a vPPB. -/
  | bind (v : Nat) (vppb : Nat) (port : Nat) (ld : Nat) (ldValid : Bool)
  /-- UNBIND (R83). BIND_REQ OP 2 begins unbinding a vPPB under its UNBIND_MODE. -/
  | unbind (v : Nat) (vppb : Nat) (mode : Nat)
  /-- SECONDARY_BUS_WRITE (R82). The host writes a vPPB's secondary bus, and the switch adds the HBR to PBR entry. -/
  | secondaryBusWrite (vppb : Nat) (bus : Nat)
  /-- VPPB_LINK_DOWN (R83). The host takes a vPPB's link down, and a waiting unbind continues. -/
  | vppbLinkDown (vppb : Nat)
  /-- UNBIND_REMOVAL_TIMEOUT (R83). A managed removal waits CPL_TIMEOUT_US for the host, and the unbind continues. -/
  | unbindRemovalTimeout
  /-- UNBIND_DRAIN_DONE (R83). Every open transaction of an unbinding vPPB has closed, and its entries are removed. -/
  | unbindDrainDone
  /-- PERST_HOLD_EXPIRY (R85). 100 ms after power-good, PERST_N is released and the port trains. -/
  | perstHoldExpiry (p : Nat)
  /-- PERST_REQUEST (R86). A write of PERST changes the group's PERST_N request. -/
  | perstRequest (g : Nat) (value : Bool)
  /-- LINK_LOST (R87). A link is lost without request, and transactions end and vPPBs or the agent go down. -/
  | linkLost (p : Nat)
  /-- CXL_IO_REQUEST (R90). A CXL.io request is translated by the edge bridge and routed, or refused. -/
  | cxlIoRequest (r : IoReq)
  /-- LOCKED_READ (R91). A host MRdLk takes, waits for or is refused the target's semaphore. -/
  | lockedRead (r : IoReq)
  /-- UNLOCK (R91). The holder's Unlock releases the semaphore and waiting requests proceed. -/
  | unlock (p : Nat) (target : Nat)
  /-- LOCK_LIMIT_EXPIRY (R91). A semaphore held for LOCK_LIMIT_US is released and counted. -/
  | lockLimitExpiry (target : Nat)
  /-- CPL_TIMEOUT (R93). A non-posted CXL.io request waits CPL_TIMEOUT_US, and its context closes. -/
  | cplTimeout (p : Nat) (tag : Nat)
  /-- TARGET_RESPONSE (R224). A target's response to a forwarded request is built and presented, and CmpN is sent. -/
  | targetResponse (p : Nat) (tag : Nat) (r : Response)
  /-- FAR_ERROR_OPEN (R94). An error arrives for an open transaction and the requester is answered with an error. -/
  | farErrorOpen (p : Nat) (tag : Nat) (status : Nat)
  /-- FAR_ERROR_CLOSED (R95). A response for a closed transaction is discarded and counted. -/
  | farErrorClosed (p : Nat) (tag : Nat)
  /-- CXL_MEM_REQUEST (R281). A host CXL.mem request is mapped, policed, decoded, checked and routed. -/
  | cxlMemRequest (r : MemReq)
  /-- REFCLK_WINDOW (R103). A 10 µs reference measurement window ends and a reference fault is declared or cleared. -/
  | refclkWindow (b : Nat) (ppm : Int)
  /-- REFCLK_EDGE_LOSS (R103). No reference edge arrives for 1 µs, and the block declares a reference fault. -/
  | refclkEdgeLoss (b : Nat)
  /-- PLL_UNLOCK (R104). A lane-block PLL loses lock, and its lanes stop. -/
  | pllUnlock (b : Nat)
  /-- PLL_RELOCK (R104). The PLL relocks, and enabled ports train again. -/
  | pllRelock (b : Nat)
  /-- DOZE_ENTRY (R108). A lane enters deep doze, and the block PLL stops when every lane is dozing. -/
  | dozeEntry (n : Nat) (level : Nat := 2) (pm : Bool := false)
  /-- DOZE_EXIT_REQUEST (R109). CLKREQ_N, a seam command or DOZE 0 asks a lane to leave deep doze. -/
  | dozeExitRequest (n : Nat)
  /-- DOZE_EXIT_DONE (R109). A lane finishes waking and is ready, late or not. -/
  | dozeExitDone (n : Nat) (us : Nat)
  /-- LANE_MODE_SET (R111). LANE_MODE enters or leaves raw test mode. -/
  | laneModeSet (n : Nat) (raw : Bool)
  /-- CHK_LOCK (R114). The PRBS checker locks after 256 matching bits. -/
  | chkLock (n : Nat)
  /-- CHK_LOST (R114). The checker loses lock on too many errors and reseeds. -/
  | chkLost (n : Nat)
  /-- PRBS_COUNTERS_STOP (R115). PRBS_BITS reaches its maximum and both counters stop. -/
  | prbsCountersStop (n : Nat)
  /-- PRBS_CLEAR (R115). PRBS_CLEAR zeroes both counters. -/
  | prbsClear (n : Nat)
  /-- PRBS_SNAP (R116). PRBS_SNAP copies the counters and stitch number. -/
  | prbsSnap (n : Nat)
  /-- PRBS_INJECT (R117). PRBS_INJECT inverts one generator bit. -/
  | prbsInject (n : Nat)
  /-- SLIP (R118). SLIP moves the receive word boundary one unit interval. -/
  | slip (n : Nat)
  /-- SLIP_DONE (R118). A slip takes effect and SLIP_POS counts it. -/
  | slipDone (n : Nat)
  /-- ALIGN_DETECT (R119). The alignment detector reports match after 16 equal words or mismatch on one differing word. -/
  | alignDetect (n : Nat) (word : Nat) (more : List Nat)
  /-- SEAM_FRAME_SLOT (R142). For each frame slot the sender chooses a replay, payload, control or idle frame. -/
  | seamFrameSlot (s : Nat)
  /-- PAYLOAD_FRAME (R131). A good PAYLOAD frame is accepted in order, discarded with NAK, or re-acknowledged. -/
  | payloadFrame (s : Nat) (f : FrameIn)
  /-- CONTROL_FRAME (R134). A CONTROL frame's acknowledgement, NAK, credits and lane command are applied. -/
  | controlFrame (s : Nat) (bits : Nat)
  /-- INIT_FRAME (R148). An INIT frame is received during training and checked against this side. -/
  | initFrame (s : Nat) (bits : Nat)
  /-- IDLE_FRAME (R125). An IDLE frame fills the line and carries nothing. -/
  | idleFrame (s : Nat) (bits : Nat)
  /-- REPLAY_TIMER (R136). The replay timer expires and a replay starts, or the seam retrains after five. -/
  | replayTimer (s : Nat)
  /-- ACK_TIMER (R133). 64 stitches pass or ACK_BATCH frames arrive, and a CONTROL frame is sent. -/
  | ackTimer (s : Nat)
  /-- LCMD_PROPOSE (R143). A received PROPOSE is answered with ACCEPT or REFUSE. -/
  | lcmdPropose (s : Nat) (mask : Nat) (tag : Nat) (aligned : Bool)
  /-- LCMD_ACCEPT (R144). A received ACCEPT starts the SWITCH countdown. -/
  | lcmdAccept (s : Nat) (mask : Nat) (tag : Nat)
  /-- LCMD_REFUSE (R143). A received REFUSE ends the proposal as refused. -/
  | lcmdRefuse (s : Nat) (mask : Nat) (tag : Nat)
  /-- LCMD_SWITCH (R144). A received SWITCH starts the countdown to the new lane set. -/
  | lcmdSwitch (s : Nat) (mask : Nat) (x : SwitchIn)
  /-- LCMD_WAKE (R145). A received WAKE brings inactive blocks into standby. -/
  | lcmdWake (s : Nat) (mask : Nat)
  /-- LCMD_DOZE (R145). A received DOZE puts inactive blocks into deep doze. -/
  | lcmdDoze (s : Nat) (mask : Nat)
  /-- LCMD_TIMEOUT (R143). A PROPOSE unanswered for 256 stitches is abandoned. -/
  | lcmdTimeout (s : Nat)
  /-- LANE_ERR_WINDOW (R146). A 1 ms window ends and a lane past LANE_ERR_LIMIT is marked marginal and a narrower mask proposed. -/
  | laneErrWindow (s : Nat)
  /-- SEAM_ENABLE (R147). SEAM_ENABLE 0 to 1 starts seam training. -/
  | seamEnable (s : Nat)
  /-- SEAM_DISABLE (R150). SEAM_ENABLE is cleared and the seam stops. -/
  | seamDisable (s : Nat)
  /-- MANUAL_GO (R147). MANUAL_GO continues training from the manual state. -/
  | manualGo (s : Nat)
  /-- SEAM_ACTIVE (R147). 64 good INIT frames at the final rate make the seam active. -/
  | seamActive (s : Nat)
  /-- TRAINING_TIMEOUT (R147). Training not finished within 10 ms fails. -/
  | trainingTimeout (s : Nat)
  /-- SEAM_DOWN_RETRY (R150). Every 100 ms a down seam starts full training again. -/
  | seamDownRetry (s : Nat)
  /-- SEAM_RETRAIN (R149). A retrain condition repeats deskew and INIT exchange at the current rate. -/
  | seamRetrain (s : Nat)
  /-- LANE_SIGNAL_LOSS (R149). An active lane without signal for 1 µs causes a retrain. -/
  | laneSignalLoss (s : Nat) (lane : Nat)
  /-- RETRAIN_TIMEOUT (R149). A retrain not finished in 50 µs becomes a full training. -/
  | retrainTimeout (s : Nat)
  /-- LINK_CMD_RETRAIN (R149). LINK_CMD 1 retrains the seam. -/
  | linkCmdRetrain (s : Nat)
  /-- LINK_CMD_PROPOSE (R152). LINK_CMD 2 proposes LANE_SET as the active mask. -/
  | linkCmdPropose (s : Nat)
  /-- LINK_CMD_WAKE (R145). LINK_CMD 3 brings LANE_SET blocks to standby. -/
  | linkCmdWake (s : Nat)
  /-- LINK_CMD_DOZE (R145). LINK_CMD 4 puts LANE_SET blocks into deep doze. -/
  | linkCmdDoze (s : Nat)
  /-- PACKET_PRESENT (R167). An input presents a packet, and later its swatches, to the fabric core. -/
  | packetPresent (pk : Present)
  /-- PACKET_STALL (R178). A packet's stall count reaches its limit and it is aborted or freed. -/
  | packetStall (id : Nat)
  /-- HLC_STEPS_WRITE (R160). A write of HLC_STEPS starts growing or shrinking the carve. -/
  | hlcStepsWrite (steps : Nat)
  /-- CARVE_DONE (R160). The carve change completes and QD0 raises CARVE. -/
  | carveDone
  /-- BOLT_DIE_IF_FAIL (R166). A bolt store die interface fails and the die is skipped. -/
  | boltDieIfFail (d : Nat)
  /-- FREE_MIN_CLEAR (R161). FREE_MIN_CLEAR sets FREE_MIN to FREE_SLOTS. -/
  | freeMinClear
  /-- NOC_AGE_ALARM (R204). A NoC message reaches AGE_ALARM, is counted and raises NOC_STUCK. -/
  | nocAgeAlarm (id : Nat)
  /-- STAT_SNAP (R208). STAT_SNAP copies NoC endpoint statistics. -/
  | statSnap
  /-- LAT_MAX_CLEAR (R207). LAT_MAX_CLEAR sets LAT_MAX to 0. -/
  | latMaxClear (e : Nat)
  /-- RDS (R226). A slice takes an RdS for a line and acts by its state. -/
  | rds (q : CohReq)
  /-- RDA (R226). A slice takes an RdA and grants E after any snoops or ownership transfer. -/
  | rda (q : CohReq)
  /-- RDI (R226). A slice takes an RdI and forwards it granted I or snoops the owner. -/
  | rdi (q : CohReq)
  /-- INVA (R226). A slice takes an InvA and grants E without data after any snoops. -/
  | inva (q : CohReq)
  /-- CLN_EV (R226). A slice takes a clean eviction and answers Cmp. -/
  | clnEv (q : CohReq)
  /-- WB (R229). A slice takes an owner's writeback and forwards it. -/
  | wb (q : CohReq)
  /-- NCW (R234). A slice takes a non-caching write, invalidates copies and forwards it. -/
  | ncw (q : CohReq)
  /-- BIRSP (R231). A slice records a snoop response and completes the line when all are done. -/
  | birsp (r : BiRsp)
  /-- CMPN (R229). A slice takes a completion notice and moves the line out of its transient state. -/
  | cmpn (c : Nat) (sector : Nat) (line : Nat) (tag : Nat) (bad : Bool) (data : Nat)
  /-- BICONFLICT (R240). A slice presents BI-ConflictAck after the earlier completions. -/
  | biconflict (q : CohReq)
  /-- WB_TIMEOUT (R232). A line in W whose writeback timer expires is marked Lost. -/
  | wbTimeout (c : Nat) (sector : Nat) (line : Nat)
  /-- SNOOP_TIMEOUT (R233). A snoop unanswered for SNP_TIMEOUT_US makes the agent dead. -/
  | snoopTimeout (bitag : Nat)
  /-- NAK (R237). A requester takes a NAK and backs off, or waits on a reservation. -/
  | nak (tag : Nat) (rsv : Bool)
  /-- BACKOFF_EXPIRY (R237). A NAKed request's back-off ends and it is presented again. -/
  | backoffExpiry (tag : Nat)
  /-- GO (R238). The head of a reservation queue receives GO and presents its request. -/
  | go (tag : Nat)
  /-- RSV_LAPSE (R239). A head that does not present within RSV_WAIT loses its reservation. -/
  | rsvLapse (c : Nat) (slot : Nat)
  /-- CE_INIT_DONE (R218). A slice finishes writing its directory empty and CE_STATE reads 2. -/
  | ceInitDone (c : Nat)
  /-- DIAG_ENTRY_READ (R245). A read of DIAG_ENTRY is taken by the slice as a message and returns the entry. -/
  | diagEntryRead
  /-- DIR_DIE_IF_FAIL (R243). A directory die interface fails and its slice admits nothing more. -/
  | dirDieIfFail (c : Nat)
  /-- HRD (R254). A bolt store controller reads a held line for a requester and answers HDATA. -/
  | hrd (m : HlcMsg)
  /-- HWR (R256). A controller writes a held line and answers HCMP. -/
  | hwr (m : HlcMsg)
  /-- HATOM (R264). A controller applies an atomic to a held line and returns the old value. -/
  | hatom (m : HlcMsg)
  /-- HRECALL (R257). A controller recalls or flushes a held line. -/
  | hrecall (m : HlcMsg)
  /-- FILL (R251). A controller writes a filled line, applying any atomic, and answers HCMP. -/
  | fill (m : HlcMsg)
  /-- HDATA (R200). A slice takes HDATA as line data or an old value and acts on it. -/
  | hdata (c : Nat) (sector : Nat) (line : Nat) (data : Nat) (failed : Bool)
  /-- HCMP (R200). A slice takes HCMP for a write, fill or clean recall. -/
  | hcmp (c : Nat) (sector : Nat) (line : Nat) (old : Nat)
  /-- HLC_ENABLE_CLEAR (R257). Clearing HLC_ENABLE recalls every held line. -/
  | hlcEnableClear
  /-- HLC_FLUSH (R257). HLC_FLUSH writes back every dirty line and keeps it valid. -/
  | hlcFlush
  /-- HLC_FLUSH_DONE (R257). A flush or drain ends and HLC_STATE returns. -/
  | hlcFlushDone
  /-- ATOMICOP (R262). An AtomicOp TLP to a pool window is presented to its window's atomics site. -/
  | atomicop (r : IoReq)
  /-- ATOMIC_AT_HOME (R264). A slice executes an atomic at home in the line cache or read-modify-write form. -/
  | atomicAtHome (q : CohReq)
  /-- ATOMIC_AT_MEMORY (R265). A slice invalidates copies and forwards an atomic to the target. -/
  | atomicAtMemory (q : CohReq)
  /-- DECLARE_DEAD (R267). A write of DECLARE_DEAD declares a caching agent dead. -/
  | declareDead (a : Nat)
  /-- WALK_DONE (R269). Every slice finishes the unpick walk and CE0 raises WALK_DONE. -/
  | walkDone
  /-- REVIVE (R271). REVIVE lets a dead agent's number be used again. -/
  | revive (a : Nat)
  /-- LL_CLEAR (R274). LL_CLEAR frees the lost-line log slots and zeroes its pointers. -/
  | llClear
  /-- SPEC_CLEAR (R260). SPEC_CLEAR zeroes every window's discard word. -/
  | specClear
  /-- WINDOW_ENABLE (R279). W_ENABLE 1 is checked and the window becomes enabled. -/
  | windowEnable (w : Nat)
  /-- WINDOW_DISABLE (R286). W_ENABLE 0 starts draining the window. -/
  | windowDisable (w : Nat)
  /-- WINDOW_DRAIN_DONE (R286). Draining ends and W_STATE reads 0. -/
  | windowDrainDone (w : Nat)
  /-- RULE_CHECK_DONE (R296). The overlap check of a basted bank ends with ready or overlap. -/
  | ruleCheckDone (site : Site)
  /-- RULE_COPY (R295). RULE_COPY copies the sewn bank into the basted bank. -/
  | ruleCopy (site : Site)
  /-- RULE_COPY_DONE (R295). The copy ends and SET_STATE reads 0 or 2. -/
  | ruleCopyDone (site : Site)
  /-- SWAP (R297). SWAP makes the basted bank sewn and freezes the former bank. -/
  | swap (site : Site)
  /-- SWAP_DONE (R298). DRAIN_LEFT reaches 0 and the swap completes. -/
  | swapDone (site : Site)
  /-- SLC_ACTIVATE (R308). SLC_CTRL 1 activates a free or dead slice. -/
  | slcActivate (s : Nat)
  /-- SLC_RESET (R322). SLC_CTRL 2 resets a slice, ending its work and bumping its generation. -/
  | slcReset (s : Nat)
  /-- SLC_DECLARE_DEAD (R325). SLC_CTRL 3 resets a slice, declares its agent dead and leaves it dead. -/
  | slcDeclareDead (s : Nat)
  /-- SLC_FREE (R326). SLC_CTRL 4 resets a slice and clears its configuration. -/
  | slcFree (s : Nat)
  /-- SLICE_RESET_END (R327). A resetting slice has nothing of the old generation left and leaves state 2. -/
  | sliceResetEnd (s : Nat)
  /-- SLC_CLASSES_WRITE (R314). A write of SLC_CLASSES holds the changed kinds until the old class drains. -/
  | slcClassesWrite (s : Nat) (value : Nat)
  /-- CLASS_HOLD_END (R314). The old class drains and held packets are presented in the new class. -/
  | classHoldEnd (s : Nat) (kind : Nat)
  /-- SLC_NEEDLE_WRITE (R315). A write of SLC_NEEDLE adds channels or stops removed ones. -/
  | slcNeedleWrite (s : Nat) (value : Nat)
  /-- SLC_CAUSE_WRITE (R319). A write of SLC_CAUSE clears causes and SENT, and pending vectors send again. -/
  | slcCauseWrite (s : Nat) (value : Nat)
  /-- SLC_VECTORS_WRITE (R319). A write of SLC_VECTORS sets vectors, and unmasking a pending vector sends its message. -/
  | slcVectorsWrite (s : Nat) (value : Nat)
  /-- TG_COMMIT (R348). TG_COMMIT schedules a gate-list takeover. -/
  | tgCommit (p : Nat)
  /-- TG_TAKEOVER (R348). The admin bank becomes operating at the scheduled stitch. -/
  | tgTakeover (p : Nat)
  /-- SAMPLE_PERIOD_END (R350). Queue depth and delay figures are latched and restarted. -/
  | samplePeriodEnd
  /-- CH_START (R358). CH_CTRL 1 starts a channel fetching at RING_HEAD. -/
  | chStart (c : Nat)
  /-- CH_STOP (R376). CH_CTRL 2 stops fetching and finishes started descriptors. -/
  | chStop (c : Nat)
  /-- CH_STOP_DONE (R376). A stopping channel finishes its descriptors and reads stopped. -/
  | chStopDone (c : Nat)
  /-- RING_TAIL_DOORBELL (R361). A write of RING_TAIL posts descriptors. -/
  | ringTailDoorbell (c : Nat) (tail : Nat)
  /-- DESC_FETCH (R362). A channel fetches and checks a descriptor and sends its check requests. -/
  | descFetch (c : Nat) (host : Nat)
  /-- FETCH_FAIL (R375). A failed descriptor fetch halts the channel. -/
  | fetchFail (c : Nat)
  /-- DESC_CHECK_VERDICT (R366). All check verdicts arrive and the descriptor starts or fails refused. -/
  | descCheckVerdict (c : Nat)
  /-- DESC_COMPLETE (R371). Every write of a descriptor has its completion, and STATUS is written. -/
  | descComplete (c : Nat) (result : Nat)
  /-- DESC_FAIL (R374). Poison or a target error fails a descriptor after issued accesses finish. -/
  | descFail (c : Nat) (poison : Bool) (written : Nat)
  /-- TWIN_ENABLE (R386). TWIN_ENABLE 1 prepares pairing when a twin seam becomes active. -/
  | twinEnable
  /-- TWIN_DISABLE (R386). TWIN_ENABLE 0 abandons pairing or returns the twin to single. -/
  | twinDisable
  /-- HELLO (R386). A HELLO from the peer is checked and pairing continues or is refused. -/
  | hello (h : PairMsg)
  /-- PAIRING_FLUSH_DONE (R386). Both twins have flushed, DIR_MODE becomes 1 and pairing completes. -/
  | pairingFlushDone
  /-- HEARTBEAT (R399). A HEARTBEAT from the peer is accepted and its digest compared. -/
  | heartbeat (h : PairMsg)
  /-- HEARTBEAT_TIMER (R396). HB_PERIOD_US passes and a HEARTBEAT is sent. -/
  | heartbeatTimer
  /-- TREQ_TIMER (R396). TIME_PERIOD_MS passes and twin B sends TREQ. -/
  | treqTimer
  /-- TREQ (R396). Twin A answers a TREQ with TRSP. -/
  | treq (t1 : Nat)
  /-- TRSP (R397). Twin B computes the offset and loads or slews its fabric time. -/
  | trsp (t1 : Nat) (t2 : Nat) (t3 : Nat)
  /-- MIRROR_SWATCH (R390). A mirror swatch's records are applied to the shadow directory. -/
  | mirrorSwatch (records : List MirrorRec)
  /-- RELEASE_NOTICE (R393). A port engine presents a response held for a mirror confirmation. -/
  | releaseNotice (p : Nat) (tag : Nat)
  /-- HANDOVER (R409). A HANDOVER record makes the peer's slice home for its lower half. -/
  | handover (c : Nat)
  /-- SEAM_HB_LOST (R399). No HEARTBEAT within SEAM_HB_MISS_US and the seam heartbeat is lost. -/
  | seamHbLost
  /-- SENSE_LOST (R400). No sense toggle for SENSE_MISS slot ticks and the sense heartbeat is lost. -/
  | senseLost
  /-- SENSE_REARM (R400). SENSE_REARM unmasks a chattering sense input. -/
  | senseRearm (stillChattering : Bool)
  /-- WITNESS_SURVIVE (R404). A survive decision takes over as home for every tracked window. -/
  | witnessSurvive (incident : Nat)
  /-- WITNESS_YIELD (R406). A yield decision disables every port until chip reset. -/
  | witnessYield (incident : Nat)
  /-- WITNESS_TIMEOUT (R403). With AUTO_SURVIVE, no decision within WITNESS_WAIT_MS makes twin A survive. -/
  | witnessTimeout
  /-- SYNC_DONE (R408). The rejoin walk ends and both twins enter paired. -/
  | syncDone
  /-- HANDBACK (R409). HANDBACK starts returning peer-homed sectors to their home. -/
  | handback
  /-- HANDBACK_DONE (R409). All HANDOVER records are confirmed and HOME_ALL becomes 0. -/
  | handbackDone
  /-- PPS_IN_EDGE (R398). A PPS_IN rising edge is time-stamped and checked. -/
  | ppsInEdge (ns : Nat := 0)
  /-- PPS_OUT (R398). Fabric time reaches a whole second and PPS_OUT pulses. -/
  | ppsOut
  /-- PWR_EN_WRITE (R414). A write of PWR_EN asks for power or returns the slot to OFF. -/
  | pwrEnWrite (t : Nat) (value : Bool)
  /-- PRESENCE_FILTER (R422). Filtered presence changes after DEB_TICKS differing samples. -/
  | presenceFilter (t : Nat) (present : Bool)
  /-- INSERTION_DEBOUNCE_END (R422). 100 ms of presence ends the debounce and INSERTED is raised. -/
  | insertionDebounceEnd (t : Nat)
  /-- REMOVAL_DECLARED (R422). 5 ms without presence declares removal. -/
  | removalDeclared (t : Nat)
  /-- RAMP_ADMIT (R415). A slot asking for a ramp is admitted to RAMP. -/
  | rampAdmit (t : Nat)
  /-- RAMP_TIMEOUT (R416). The gate is not fully on within 4 × RAMP_MS and the slot trips. -/
  | rampTimeout (t : Nat)
  /-- FAULT_TIMER_EXPIRY (R417). Current limit lasts FAULT_TICKS and the slot trips. -/
  | faultTimerExpiry (t : Nat)
  /-- SHORT_CIRCUIT (R418). The sense voltage exceeds SC_UV and the gate is pulled down. -/
  | shortCircuit (t : Nat) (senseUv : Nat)
  /-- POWER_GOOD (R419). Two clean ticks assert power-good and the slot enters ON. -/
  | powerGood (t : Nat)
  /-- PG_LOST (R419). VOUT below 88% at two ticks trips the slot. -/
  | pgLost (t : Nat)
  /-- RETRY_TIMER_EXPIRY (R421). The retry timer expires and the slot returns to OFF. -/
  | retryTimerExpiry (t : Nat)
  /-- RETRY_COUNT_RESET (R421). Power-good held for 1 s returns RETRY_COUNT to 0. -/
  | retryCountReset (t : Nat)
  /-- UV_HOLD (R426). VIN below UV_MV for 100 ticks turns the slot off into UV_HOLD. -/
  | uvHold (t : Nat)
  /-- UV_RECOVERY (R414). VIN at or above UV_MV + 500 mV for 10 ms returns the slot to OFF. -/
  | uvRecovery (t : Nat)
  /-- FET_CHECK_FAIL (R427). A short or open pass FET puts the slot in FET_FAIL. -/
  | fetCheckFail (t : Nat)
  /-- FET_RECHECK (R427). SLOT_CMD 1 runs the FET short check again. -/
  | fetRecheck (t : Nat)
  /-- FET_RECHECK_DONE (R427). The recheck passes or fails after 1,000 ticks. -/
  | fetRecheckDone (t : Nat) (pass : Bool)
  /-- AUX_RESTORE (R429). SLOT_CMD 2 restores the auxiliary output. -/
  | auxRestore (t : Nat)
  /-- AUX_FAULT (R429). Auxiliary over-current for 100 ticks turns the auxiliary output off. -/
  | auxFault (t : Nat)
  /-- BUTTON (R425). The filtered attention button asserts and BUTTON and HOTPLUG are raised. -/
  | button (t : Nat)
  /-- ALERT (R425). The filtered card alert asserts and ALERT is raised. -/
  | alert (t : Nat)
  /-- SLOT_INPUT_CHATTER (R424). A slot input changing too often is masked as chattering. -/
  | slotInputChatter (t : Nat) (input : Nat)
  /-- SLOT_INPUT_STUCK (R424). A button or alert active for STUCK_MS is masked. -/
  | slotInputStuck (t : Nat) (input : Nat)
  /-- INPUT_REARM (R424). INPUT_REARM unmasks slot inputs. -/
  | inputRearm (t : Nat) (bits : Nat)
  /-- LED_BLINK_TOGGLE (R430). Every 250,000 ticks blinking indicators toggle. -/
  | ledBlinkToggle
  /-- EVENT_OCCURRENCE (R438). A source pair goes from idle to raised and the collector counts, captures and flags it. -/
  | eventOccurrence (o : Occurrence)
  /-- WIRE_FAULT (R434). A pair that agrees for two cycles is declared a wire fault and masked. -/
  | wireFault (j : Nat)
  /-- SOURCE_STUCK (R445). A pair raised for STUCK_MS is declared stuck and masked. -/
  | sourceStuck (j : Nat)
  /-- THRESH_WINDOW (R438). A threshold window ends and window counts restart. -/
  | threshWindow
  /-- CAPTURE_CONTEXT (R441). A raising block's capture context is written into its reserved entry. -/
  | captureContext (e : Nat)
  /-- CAPTURE_TIMEOUT (R441). No context within 1,024 stitches and the entry is completed without detail. -/
  | captureTimeout (e : Nat)
  /-- EVENT_DELIVERY (R448). The management subsystem takes a pending source and logs, notifies and posts it. -/
  | eventDelivery
  /-- SRC_STATUS_WRITE (R446). A write of SRC_STATUS clears STICKY or re-arms a source. -/
  | srcStatusWrite (j : Nat) (value : Nat)
  /-- CAP_FREE (R443). A write to CAP_VALID frees capture entries. -/
  | capFree (bits : Nat)
  /-- ALERT_RESPONSE (R519). A read of the SMBus Alert Response Address releases MALERT_N. -/
  | alertResponse
  /-- INJECT_RAISE (R452). INJ_GO with mode 0 injects one occurrence. -/
  | injectRaise
  /-- INJECT_WIRE_FAULT (R452). INJ_GO with mode 1 forces a source pair to agree. -/
  | injectWireFault
  /-- INJECT_STUCK (R452). INJ_GO with mode 2 holds a pair raised. -/
  | injectStuck
  /-- INJECT_RELEASE (R452). INJ_GO with mode 3 releases a held pair. -/
  | injectRelease
  /-- CTR_READ (R462). A read of CTR_READ samples a counter with its stitch, subject to service and ownership. -/
  | ctrRead (path : Path) (i : Nat)
  /-- CTR_SELECT (R460). A write of CTR_EVENT or CTR_FILTER zeroes the counter and changes its selection. -/
  | ctrSelect (i : Nat) (event : Nat) (filter : Nat)
  /-- CTR_CLEAR (R460). CTR_CLEAR zeroes a counter's value and OVF. -/
  | ctrClear (i : Nat)
  /-- SERVICE_SET (R465). SERVICE_SET sets or ends the counter service state. -/
  | serviceSet (value : Nat)
  /-- PD_ON (R473). PD_REQ 1 queues a domain wake with the stager. -/
  | pdOn (m : Nat)
  /-- PD_OFF (R474). PD_REQ 0 quiesces a domain and queues its ramp down. -/
  | pdOff (m : Nat)
  /-- PD_RESET (R475). PD_RESET quiesces and restores a domain and its children without a ramp. -/
  | pdReset (m : Nat)
  /-- QUIESCE_DONE (R474). Messages to a quiescing domain are delivered and its ramp down proceeds. -/
  | quiesceDone (m : Nat)
  /-- STAGER_GRANT (R476). 250 stitches after PREWARN_N the batch's ramps run in order. -/
  | stagerGrant
  /-- RAMP_DONE (R473). A domain ramp ends and the domain restores and leaves reset. -/
  | rampDone (m : Nat)
  /-- DOMAIN_FAIL (R473). A domain not on within 1,000 stitches of its ramp reads failed. -/
  | domainFail (m : Nat)
  /-- CLOCK_FAULT (R478). MCLK25 stops or strays and the core PLL enters holdover. -/
  | clockFault (ppm : Int)
  /-- CLOCK_RECOVER (R478). Ten good windows return the PLL to tracking. -/
  | clockRecover
  /-- DROOP (R479). A VDD monitor crosses a droop threshold and the stretch level rises. -/
  | droop (level : Nat)
  /-- STRETCH_RELAX (R479). Every monitor clear of its threshold for 64 cycles lowers the level by one. -/
  | stretchRelax
  /-- AVS_STEP (R480). An AVS step is acknowledged and read back, retried or failed. -/
  | avsStep (ack : Bool) (readback : Nat)
  /-- PLAN_NOW (R482). PLAN_NOW starts a margin plan. -/
  | planNow
  /-- PLAN_PERIOD_EXPIRY (R481). PLAN_PERIOD_H powered hours pass and a margin plan starts. -/
  | planPeriodExpiry
  /-- PLAN_MEASURE_DONE (R482). The 10 ms measurement ends and the plan is computed and applied. -/
  | planMeasureDone (slacks : List Int) (temp : Int)
  /-- TEMP_SAMPLE (R483). The sensors sample temperature and warnings or trips follow. -/
  | tempSample (temps : List Int)
  /-- T_CLEAR (R483). T_CLEAR sets T_MAX and T_MIN to T_NOW. -/
  | tClear (i : Nat)
  /-- V_CLEAR (R485). V_CLEAR sets V_MIN and V_MAX to V_NOW. -/
  | vClear (v : Nat)
  /-- CHIP_RESET (R487). RESET_N, PWROK or a delayed request resets the whole part. -/
  | chipReset
  /-- CHIP_RESET_WRITE (R487). A write of CHIP_RESET is answered and a chip reset follows 1 ms later. -/
  | chipResetWrite
  /-- CHIP_RESET_RELEASE (R486). At the first strobe with PWROK, RESET_N and the PLL locked, the part starts. -/
  | chipResetRelease (straps : Nat)
  /-- OTP_LOAD_DONE (R492). The OTP is loaded, the generation chosen and PD1 staged. -/
  | otpLoadDone
  /-- OTP_BURN (R495). OTP_BURN starts writing the staged generation. -/
  | otpBurn
  /-- OTP_BURN_DONE (R495). The burned generation is read back and sealed or spent. -/
  | otpBurnDone (verified : Bool)
  /-- LC_REQ (R497). LC_REQ burns life-cycle groups, zeroises when needed, and resets the chip. -/
  | lcReq (r : LcReq)
  /-- LC_TOKEN (R501). A return token is checked and opens its scope or is refused. -/
  | lcToken (token : Nat)
  /-- RECEIVER_DETECTION (R71). A link partner appears at, or leaves, a port waiting in Detect, and the port trains again from Detect. -/
  | receiverDetection (p : Nat) (present : Bool)
  /-- IN_BAND_HOT_RESET (R86). A host resets an upstream port in band by hot reset. -/
  | inBandHotReset (p : Nat)
  /-- BOARD_PRESENT_FILTER (R510). Filtered BRD_PRSNT_N changes after 16 consecutive differing slot-tick samples and BOARD_PINS bit 6 follows. -/
  | boardPresentFilter (seated : Bool)
  /-- MGMT_ETH_LINK (R47). A management Ethernet port's 1000BASE-X link comes up or goes down and LINK_UP follows. -/
  | mgmtEthLink (i : Nat) (up : Bool)
  /-- DHCPV4 (R47). A management Ethernet port with IPV4_ADDR 0 obtains or renews its address by DHCPv4. -/
  | dhcpv4 (i : Nat) (addr : Nat) (mask : Nat) (gw : Nat)
  /-- PLDM_FIRMWARE_UPDATE (R61). PLDM for Firmware Update messages over MCTP start an update and write the non-running slot, making FW_IMAGE writes from Preoc fail with BUSY until it ends. -/
  | pldmFirmwareUpdate (m : PldmMsg) (on : Medium := .bus)
  /-- JTAG_INSTRUCTION (R499). A JTAG instruction or tester access is taken, opening debug access as the life-cycle state allows, writing G0 or requesting a transition in BLANK or FACTORY. -/
  | jtagInstruction (j : JtagInstr)
  deriving DecidableEq, Repr

end Sys2Proof
end

