-- ==== Sys2Proof/Decode.lean ====
section
/-! DEFINITION. The switch has no encoding of its commands: no row of spec/opcode_table.json gives bits, so no
word spells a command. -/

namespace Sys2Proof

/-- The command that a word spells by the table's bits: no row gives any. -/
def decodeTableWord (_nbits _w : Nat) : Option Instr := none

end Sys2Proof
end

