-- ==== Sys2Proof/Word.lean ====
section
/-! DEFINITION. The plainest arithmetic of the model: bits and bytes of a number. Register values are
natural numbers below two to the power of the register's width, little-endian (R7, R8). -/

namespace Sys2Proof

/-- Bits [lo + w - 1 : lo] of v (R7). -/
def getBits (v lo w : Nat) : Nat := v / 2 ^ lo % 2 ^ w

/-- v with bits [lo + w - 1 : lo] replaced by x (R7). -/
def setBits (v lo w x : Nat) : Nat :=
  v % 2 ^ lo + (x % 2 ^ w) * 2 ^ lo + v / 2 ^ (lo + w) * 2 ^ (lo + w)

/-- Bit n of v. -/
def bitAt (v n : Nat) : Bool := v / 2 ^ n % 2 == 1

/-- v with bit n set or cleared. -/
def setBit (v n : Nat) (b : Bool) : Nat := setBits v n 1 (if b then 1 else 0)

/-- Byte n of v, byte 0 least significant. -/
def byteAt (v n : Nat) : Nat := getBits v (8 * n) 8

/-- The signed value of the two's complement number v of w bits (S32 of R34). -/
def toSigned (w v : Nat) : Int := if v % 2 ^ w < 2 ^ (w - 1) then (v % 2 ^ w : Nat) else (v % 2 ^ w : Nat) - (2 ^ w : Nat)

/-- The two's complement number of w bits that stands for x. -/
def ofSigned (w : Nat) (x : Int) : Nat := (x % (2 ^ w : Nat)).toNat

/-- Quotient rounded up. -/
def ceilDiv (a b : Nat) : Nat := (a + b - 1) / b

/-- The number of bits set among the lowest `n` bits of v. -/
def popCount : Nat → Nat → Nat
  | 0, _ => 0
  | n + 1, v => v % 2 + popCount n (v / 2)

/-- The positions, in ascending order, of the bits set among the lowest `n` bits of v. -/
def bitsSet (n v : Nat) : List Nat := (List.range n).filter (bitAt v)

/-- A little-endian number of `n` bytes as a list of bytes. -/
def toBytes : Nat → Nat → List Nat
  | 0, _ => []
  | n + 1, v => v % 256 :: toBytes n (v / 256)

/-- The little-endian number of a list of bytes. -/
def ofBytes : List Nat → Nat
  | [] => 0
  | b :: bs => b % 256 + 256 * ofBytes bs

/-- The number whose consecutive fields of w bits, from the lowest, are the elements of the list. -/
def packFields (w : Nat) : List Nat → Nat
  | [] => 0
  | x :: xs => x % 2 ^ w + 2 ^ w * packFields w xs

end Sys2Proof
end

