-- ==== Sys2Proof/Machine/Check.lean ====
section
/-! DEFINITION. The check codes that the switch computes over what it sends and keeps: CRC-32C (R155 and the
records of chapters 2, 9, 16 and 19) and the CRC-64 and FEC parity of a seam frame (R126). -/

namespace Sys2Proof.Machine

/-- One step of a reflected CRC with polynomial `poly` (bit-reversed). -/
def crcBit (poly c : Nat) : Nat := if c % 2 = 1 then Nat.xor (c / 2) poly else c / 2

/-- Eight steps of a reflected CRC. -/
def crcByte (poly c b : Nat) : Nat :=
  crcBit poly (crcBit poly (crcBit poly (crcBit poly
    (crcBit poly (crcBit poly (crcBit poly (crcBit poly (Nat.xor c (b % 256)))))))))

/-- A reflected CRC of w bits, initial value and final inversion all ones. -/
def crcReflected (w poly : Nat) (bytes : List Nat) : Nat :=
  Nat.xor (bytes.foldl (crcByte poly) (2 ^ w - 1)) (2 ^ w - 1)

/-- CRC-32C of a byte string: Castagnoli polynomial 0x1EDC6F41, reflected (log entry 4). -/
def crc32c (bytes : List Nat) : Nat := crcReflected 32 0x82F63B78 bytes

/-- CRC-64 of a seam frame: ECMA-182, reflected, all ones, inverted (R126). -/
def crc64 (bytes : List Nat) : Nat := crcReflected 64 0xC96C5795D7870F42 bytes

/-- Multiplication by x in GF(2^8) with field polynomial x^8 + x^4 + x^3 + x^2 + 1 (R126). -/
def gfDouble (a : Nat) : Nat := if a < 128 then 2 * a else Nat.xor (2 * a) 0x11D

/-- Multiplication in GF(2^8): `n` bits of b are still to be used. -/
def gfMulAux : Nat → Nat → Nat → Nat
  | 0, _, _ => 0
  | n + 1, a, b => Nat.xor (if b % 2 = 1 then a else 0) (gfMulAux n (gfDouble a) (b / 2))

/-- Multiplication in GF(2^8) (R126). -/
def gfMul (a b : Nat) : Nat := gfMulAux 8 a b

/-- The generator polynomial with roots 1, α, ..., α^(n-1), lowest coefficient first (R126). -/
def rsGenerator : Nat → Nat → List Nat
  | 0, _ => [1]
  | n + 1, root =>
    let g := rsGenerator n (gfDouble root)
    -- multiply g by (x + root)
    List.zipWith Nat.xor (g.map (gfMul root) ++ [0]) (0 :: g)

/-- One step of the division that gives the parity: the register holds 6 bytes, lowest coefficient first. -/
def rsStep (gen reg : List Nat) (b : Nat) : List Nat :=
  let f := Nat.xor b (reg.getD 5 0)
  List.zipWith Nat.xor (0 :: reg.take 5) ((gen.take 6).map (gfMul f))

/-- The six FEC parity bytes of the 250 bytes of a frame, RS(256,250) with roots α^0 to α^5 (R126). The
order of the parity bytes in the frame is highest coefficient first (log entry 5). -/
def rsParity (bytes : List Nat) : List Nat :=
  (bytes.foldl (rsStep (rsGenerator 6 1)) [0, 0, 0, 0, 0, 0]).reverse

/-! ### The FEC decoder (R126, R127) -/

/-- The power n of a in GF(2^8). -/
def gfPow (a : Nat) : Nat → Nat
  | 0 => 1
  | n + 1 => gfMul a (gfPow a n)

/-- The inverse of a nonzero element: its power 254. -/
def gfInv (a : Nat) : Nat := gfPow a 254

/-- The value of a polynomial, lowest coefficient first. -/
def gfEval (x : Nat) : List Nat → Nat
  | [] => 0
  | c :: cs => Nat.xor c (gfMul x (gfEval x cs))

/-- The value at x of the polynomial whose highest coefficient is the first byte. -/
def gfHorner (x : Nat) (bytes : List Nat) : Nat := bytes.foldl (fun v b => Nat.xor (gfMul x v) b) 0

/-- The six syndromes of a frame's 256 bytes: its values at α^0 to α^5. -/
def syndromes (bytes : List Nat) : List Nat := (List.range 6).map fun j => gfHorner (gfPow 2 j) bytes

/-- a + f x^k b, as polynomials. -/
def gfAddShift (a b : List Nat) (f k : Nat) : List Nat :=
  (List.range (max a.length (b.length + k))).map fun i =>
    Nat.xor (a.getD i 0) (if i < k then 0 else gfMul f (b.getD (i - k) 0))

/-- The search for the error locator of R126: the locator, the one before, its discrepancy, its length and the gap since. -/
structure Locator where
  now  : List Nat
  was  : List Nat
  disc : Nat
  len  : Nat
  gap  : Nat
  deriving DecidableEq, Repr

/-- One syndrome more. -/
def Locator.step (s : List Nat) (x : Locator) (n : Nat) : Locator :=
  let d := (List.range (x.len + 1)).foldl (fun v i => Nat.xor v (gfMul (x.now.getD i 0) (s.getD (n - i) 0))) 0
  if d = 0 then { x with gap := x.gap + 1 }
  else
    let next := gfAddShift x.now x.was (gfMul d (gfInv x.disc)) x.gap
    if 2 * x.len ≤ n then ⟨next, x.now, d, n + 1 - x.len, 1⟩ else { x with now := next, gap := x.gap + 1 }

/-- The locator of the errors that six syndromes show. -/
def locator (s : List Nat) : Locator := (List.range 6).foldl (Locator.step s) ⟨[1], [1], 1, 0, 1⟩

/-- Powers k of α, below 255, at which the locator finds an error. -/
def errorPowers (l : Locator) : List Nat := (List.range 255).filter fun k => gfEval (gfPow 2 (255 - k)) l.now == 0

/-- The value of the error at power k. -/
def errorValue (s : List Nat) (l : Locator) (k : Nat) : Nat :=
  let inv := gfPow 2 (255 - k)
  let omega := (List.range 6).map fun i => (List.range (i + 1)).foldl (fun v j => Nat.xor v (gfMul (l.now.getD j 0) (s.getD (i - j) 0))) 0
  let slope := (List.range l.now.length).map fun i => if i % 2 = 0 then l.now.getD (i + 1) 0 else 0
  gfMul (gfPow 2 k) (gfMul (gfEval inv omega) (gfInv (gfEval inv slope)))

/-- The bytes with an error of a value taken out at place i. -/
def fixByte (bytes : List Nat) (i v : Nat) : List Nat := bytes.set i (Nat.xor (bytes.getD i 0) v)

/-- What FEC makes of a frame: the ways to read it, each with the places corrected; none where it is uncorrectable. Power 0 is the last
byte and power 255 the first, and α^0 = α^255, so an error found there is tried at both (log entry 141). -/
def fecCorrect (bytes : List Nat) : List (List Nat × List Nat) :=
  let s := syndromes bytes
  if s.all (· == 0) then [(bytes, [])]
  else
    let l := locator s
    let ks := errorPowers l
    if l.len > 3 || ks.length != l.len then []
    else
      let es := ks.map fun k => (k, errorValue s l k)
      let at_ := fun (first : Bool) => es.map fun e => (if e.1 = 0 && first then 0 else 255 - e.1, e.2)
      let read := fun (first : Bool) => ((at_ first).foldl (fun b e => fixByte b e.1 e.2) bytes, (at_ first).map (·.1))
      if ks.contains 0 then [read false, read true] else [read false]

end Sys2Proof.Machine
end

