-- ==== Sys2Proof/Config.lean ====
section
/-! DEFINITION. What the specification leaves open: the free values, and the constants of one part that
the manual shows as "-". Each is opaque: no proof can see a value, and a claim holds whatever it is. -/

namespace Sys2Proof.Config

/-- The n-th free value: a value that the specification does not state. A step that needs one reads the
counter `State.free` and advances it. -/
opaque freeValue : Nat → Nat

/-- SHA-384 of a byte string given as a list of bytes (R387, R46): cited by the specification, not defined there. -/
opaque sha384 : List Nat → Nat

/-- Whether a signature verifies: ECDSA P-384 over the SHA-384 of the signed bytes, under the key with the
given digest (R500, R59). The arguments are the key digest, the signed bytes and the signature. -/
opaque signatureOk : Nat → Nat → Nat → Bool

/-- 0x1000.03 DIE_REV: a constant of the part (default "-"). -/
opaque dieRev : Nat

/-- The digest of the boot ROM (SPDM measurement 1). -/
opaque romDigest : Nat

/-- The SHA-384 digest of the Terdom factory root certificate, a constant that Terdom holds (R45). -/
opaque factoryRoot : Nat

/-- The digest of a flash settings image that holds these entries and large entries (SPDM measurement 6): the manual does not give
the image's layout. -/
opaque settingsDigest : List (Nat × Nat) → List (Nat × Nat) → Nat

/-- The catalogue record of event n as a 256-bit number (R456): the manual gives the layout and the port
events; the rest is held in the part. -/
opaque catalogueRecord : Nat → Nat

/-- A number for the transmit coefficients of preset k (R106): the PCIe Base Specification gives them. -/
opaque presetFir : Nat → Nat

end Sys2Proof.Config
end

