-- ==== Sys2Proof/Machine/Regs.lean ====
section
/-! DEFINITION. The keys of the Pattern Book's entries: index * 256 + subindex, by the names of the
entry tables of the chapters (R33, R41). The prefix names the table. -/

namespace Sys2Proof.Machine

-- 0x1000 identity
def Ident.VENDOR : Nat := 0x100001
def Ident.PART : Nat := 0x100002
def Ident.DIE_REV : Nat := 0x100003
def Ident.SERIAL : Nat := 0x100004
def Ident.ROLE : Nat := 0x100005
def Ident.FW_VERSION : Nat := 0x100006
def Ident.LC_STATE : Nat := 0x100007
def Ident.STITCH_NOW : Nat := 0x100008
def Ident.FTIME_NOW : Nat := 0x100009

-- 0x1010 + i, management Ethernet port i (i = 0, 1)
def Eth.ENABLE (i : Nat) : Nat := 0x101001 + 0x100 * i
def Eth.MAC (i : Nat) : Nat := 0x101002 + 0x100 * i
def Eth.IPV4_ADDR (i : Nat) : Nat := 0x101003 + 0x100 * i
def Eth.IPV4_MASK (i : Nat) : Nat := 0x101004 + 0x100 * i
def Eth.IPV4_GW (i : Nat) : Nat := 0x101005 + 0x100 * i
def Eth.VLAN (i : Nat) : Nat := 0x101006 + 0x100 * i
def Eth.RX_DROP (i : Nat) : Nat := 0x101007 + 0x100 * i
def Eth.LINK_UP (i : Nat) : Nat := 0x101008 + 0x100 * i

-- 0x1020 Preoc service
def Preoc.UDP_PORT : Nat := 0x102001
def Preoc.KEEPALIVE_MS : Nat := 0x102002
def Preoc.NOTIFY_RETRY_MS : Nat := 0x102003
def Preoc.NOTIFY_TRIES : Nat := 0x102004
def Preoc.UNAUTH_READ : Nat := 0x102005
def Preoc.SESSIONS_OPEN : Nat := 0x102006
def Preoc.REPLAY_DROP : Nat := 0x102007

-- 0x1030 + k, Preoc session k (k = 0 to 7)
def Sess.STATE (i : Nat) : Nat := 0x103001 + 0x100 * i
def Sess.PRIV (i : Nat) : Nat := 0x103002 + 0x100 * i
def Sess.PEER_ADDR (i : Nat) : Nat := 0x103003 + 0x100 * i
def Sess.PEER_PORT (i : Nat) : Nat := 0x103004 + 0x100 * i
def Sess.SUBSCRIBE (i : Nat) : Nat := 0x103005 + 0x100 * i
def Sess.NOTIFY_LOST (i : Nat) : Nat := 0x103006 + 0x100 * i
def Sess.CLOSE (i : Nat) : Nat := 0x103007 + 0x100 * i

-- 0x1040 MCTP
def Mctp.STATIC_EID : Nat := 0x104001
def Mctp.EID : Nat := 0x104002
def Mctp.BUS : Nat := 0x104003
def Mctp.BUS_ADDR : Nat := 0x104004
def Mctp.REQUIRE_SECURE : Nat := 0x104005
def Mctp.FMH_PORT : Nat := 0x104006
def Mctp.VDM_DROP : Nat := 0x104007

-- 0x1050 SPDM
def Spdm.VERSION : Nat := 0x105001
def Spdm.CERT_SLOTS : Nat := 0x105002
def Spdm.FM_ROOT_HASH : Nat := 0x105003

-- 0x1060 + m, management fabric window MWm (m = 0 to 15)
def Mw.MW_ENABLE (i : Nat) : Nat := 0x106001 + 0x100 * i
def Mw.MW_BASE (i : Nat) : Nat := 0x106002 + 0x100 * i
def Mw.MW_PAGES (i : Nat) : Nat := 0x106003 + 0x100 * i
def Mw.MW_SWAP (i : Nat) : Nat := 0x106004 + 0x100 * i
def Mw.MW_ELEM (i : Nat) : Nat := 0x106005 + 0x100 * i
def Mw.MW_SLICE (i : Nat) : Nat := 0x106006 + 0x100 * i
def Mw.MW_ERRORS (i : Nat) : Nat := 0x106007 + 0x100 * i

-- 0x1080 event log
def Log.COUNT : Nat := 0x108001
def Log.NEXT_SEQ : Nat := 0x108002
def Log.FLASH_ERRORS : Nat := 0x108003
def Log.LOG_DATA : Nat := 0x108004
def Log.FLUSH_MS : Nat := 0x108005
def Log.CLEAR : Nat := 0x108006

-- 0x10A0 firmware and settings image
def Fw.FW_ACTIVE : Nat := 0x10A001
def Fw.FW_NEXT : Nat := 0x10A002
def Fw.FW_VER_A : Nat := 0x10A003
def Fw.FW_VER_B : Nat := 0x10A004
def Fw.SVN_MIN : Nat := 0x10A005
def Fw.SVN_COMMIT : Nat := 0x10A006
def Fw.FW_IMAGE : Nat := 0x10A007
def Fw.FW_VERIFY : Nat := 0x10A008
def Fw.FW_ACTIVATE : Nat := 0x10A009
def Fw.FW_CONFIRM : Nat := 0x10A00A
def Fw.SETTINGS_SAVE : Nat := 0x10A00B
def Fw.SETTINGS_GEN : Nat := 0x10A00C

-- 0x2000 + 0x10·p + 0, port configuration
def Port.ENABLE (i : Nat) : Nat := 0x200001 + 0x1000 * i
def Port.WIDTH (i : Nat) : Nat := 0x200002 + 0x1000 * i
def Port.MAX_RATE (i : Nat) : Nat := 0x200003 + 0x1000 * i
def Port.ROLE (i : Nat) : Nat := 0x200004 + 0x1000 * i
def Port.FLIT_MODE (i : Nat) : Nat := 0x200005 + 0x1000 * i
def Port.PBR_BASE (i : Nat) : Nat := 0x200006 + 0x1000 * i
def Port.L0P_MIN (i : Nat) : Nat := 0x200007 + 0x1000 * i
def Port.ASPM (i : Nat) : Nat := 0x200008 + 0x1000 * i
def Port.CPL_TIMEOUT_US (i : Nat) : Nat := 0x200009 + 0x1000 * i
def Port.CA_ID (i : Nat) : Nat := 0x20000A + 0x1000 * i

-- 0x2000 + 0x10·p + 1, port status
def PortStat.LTSSM (i : Nat) : Nat := 0x200101 + 0x1000 * i
def PortStat.RATE (i : Nat) : Nat := 0x200102 + 0x1000 * i
def PortStat.WIDTH_NOW (i : Nat) : Nat := 0x200103 + 0x1000 * i
def PortStat.FLIT_NOW (i : Nat) : Nat := 0x200104 + 0x1000 * i
def PortStat.PRESENT (i : Nat) : Nat := 0x200105 + 0x1000 * i
def PortStat.PARTNER (i : Nat) : Nat := 0x200106 + 0x1000 * i
def PortStat.LD_COUNT (i : Nat) : Nat := 0x200107 + 0x1000 * i

-- 0x2000 + 0x10·p + 2, port IDE
def PortIde.IO_IDE (i : Nat) : Nat := 0x200201 + 0x1000 * i
def PortIde.CM_IDE (i : Nat) : Nat := 0x200202 + 0x1000 * i
def PortIde.KEY_SEL (i : Nat) : Nat := 0x200203 + 0x1000 * i
def PortIde.KEY (i : Nat) : Nat := 0x200204 + 0x1000 * i
def PortIde.IV (i : Nat) : Nat := 0x200205 + 0x1000 * i
def PortIde.KEY_GO (i : Nat) : Nat := 0x200206 + 0x1000 * i
def PortIde.IDE_STATE (i : Nat) : Nat := 0x200207 + 0x1000 * i
def PortIde.MAC_FAIL (i : Nat) : Nat := 0x200208 + 0x1000 * i

-- 0x2000 + 0x10·p + 3, port error counts
def PortErr.CORR (i : Nat) : Nat := 0x200301 + 0x1000 * i
def PortErr.REPLAYS (i : Nat) : Nat := 0x200302 + 0x1000 * i
def PortErr.CPL_TIMEOUT (i : Nat) : Nat := 0x200303 + 0x1000 * i
def PortErr.LATE_CPL (i : Nat) : Nat := 0x200304 + 0x1000 * i
def PortErr.XLATE_MISS (i : Nat) : Nat := 0x200305 + 0x1000 * i
def PortErr.LOCK_TIMEOUT (i : Nat) : Nat := 0x200306 + 0x1000 * i
def PortErr.POWER_REFUSED (i : Nat) : Nat := 0x200307 + 0x1000 * i

-- 0x2000 + 0x10·p + 4, port control
def PortCtl.LINK_CTRL (i : Nat) : Nat := 0x200401 + 0x1000 * i
def PortCtl.PERST (i : Nat) : Nat := 0x200402 + 0x1000 * i
def PortCtl.SLOT (i : Nat) : Nat := 0x200403 + 0x1000 * i
def PortCtl.LOCK_LIMIT_US (i : Nat) : Nat := 0x200404 + 0x1000 * i

-- 0x3C00 edge bridge and binding
def Bridge.VCS_COUNT : Nat := 0x3C0001
def Bridge.VPPB_USED : Nat := 0x3C0002
def Bridge.XLATE_FREE : Nat := 0x3C0003
def Bridge.BIND_REQ : Nat := 0x3C0004
def Bridge.BIND_STATUS : Nat := 0x3C0005
def Bridge.BIND_RESULT : Nat := 0x3C0006

-- 0x3C01 translation table
def Xlate.XLATE : Nat := 0x3C0101

-- 0x3C40 + v, virtual switch v (v = 0 to 63)
def Vcs.VCS_ENABLE (i : Nat) : Nat := 0x3C4001 + 0x100 * i
def Vcs.USP (i : Nat) : Nat := 0x3C4002 + 0x100 * i
def Vcs.VPPB_FIRST (i : Nat) : Nat := 0x3C4003 + 0x100 * i
def Vcs.VPPB_COUNT (i : Nat) : Nat := 0x3C4004 + 0x100 * i
def Vcs.VCS_STATE (i : Nat) : Nat := 0x3C4005 + 0x100 * i

-- 0x3C80 + i, vPPBs 8·i to 8·i + 7 (i = 0 to 127)
/-- Descriptor of global vPPB n (0 to 1023). -/
def Vppb.VPPB (n : Nat) : Nat := 0x3C8001 + 0x100 * (n / 8) + n % 8

-- 0x2400 + n, lane Ln (n = 0 to 287)
def Lane.LANE_MODE (i : Nat) : Nat := 0x240001 + 0x100 * i
def Lane.TEST_RATE (i : Nat) : Nat := 0x240002 + 0x100 * i
def Lane.TX_FIR (i : Nat) : Nat := 0x240003 + 0x100 * i
def Lane.EQ_PRESET (i : Nat) : Nat := 0x240004 + 0x100 * i
def Lane.TX_INVERT (i : Nat) : Nat := 0x240005 + 0x100 * i
def Lane.RX_INVERT (i : Nat) : Nat := 0x240006 + 0x100 * i
def Lane.LOOP (i : Nat) : Nat := 0x240007 + 0x100 * i
def Lane.PRBS_GEN (i : Nat) : Nat := 0x240008 + 0x100 * i
def Lane.PRBS_CHK (i : Nat) : Nat := 0x240009 + 0x100 * i
def Lane.CHK_LOCK (i : Nat) : Nat := 0x24000A + 0x100 * i
def Lane.CHK_LOST (i : Nat) : Nat := 0x24000B + 0x100 * i
def Lane.PRBS_ERR (i : Nat) : Nat := 0x24000C + 0x100 * i
def Lane.PRBS_BITS (i : Nat) : Nat := 0x24000D + 0x100 * i
def Lane.PRBS_CLEAR (i : Nat) : Nat := 0x24000E + 0x100 * i
def Lane.PRBS_SNAP (i : Nat) : Nat := 0x24000F + 0x100 * i
def Lane.SNAP_ERR (i : Nat) : Nat := 0x240010 + 0x100 * i
def Lane.SNAP_BITS (i : Nat) : Nat := 0x240011 + 0x100 * i
def Lane.SNAP_STITCH (i : Nat) : Nat := 0x240012 + 0x100 * i
def Lane.PRBS_INJECT (i : Nat) : Nat := 0x240013 + 0x100 * i
def Lane.ALIGN_PATTERN (i : Nat) : Nat := 0x240014 + 0x100 * i
def Lane.SLIP (i : Nat) : Nat := 0x240015 + 0x100 * i
def Lane.SLIP_POS (i : Nat) : Nat := 0x240016 + 0x100 * i
def Lane.ALIGN_STATE (i : Nat) : Nat := 0x240017 + 0x100 * i
def Lane.DOZE (i : Nat) : Nat := 0x240018 + 0x100 * i
def Lane.LANE_STATE (i : Nat) : Nat := 0x240019 + 0x100 * i
def Lane.RX_DETECT (i : Nat) : Nat := 0x24001A + 0x100 * i

-- 0x2580 + b, lane block LBb (b = 0 to 35)
def Blk.CLK_MODE (i : Nat) : Nat := 0x258001 + 0x100 * i
def Blk.PLL_STATE (i : Nat) : Nat := 0x258002 + 0x100 * i
def Blk.REFCLK_PPM (i : Nat) : Nat := 0x258003 + 0x100 * i
def Blk.PLL_UNLOCKS (i : Nat) : Nat := 0x258004 + 0x100 * i
def Blk.DOZE_EXITS (i : Nat) : Nat := 0x258005 + 0x100 * i
def Blk.DOZE_EXIT_MAX_US (i : Nat) : Nat := 0x258006 + 0x100 * i

-- 0x2600 Epyaro link logic
def Seam.SEAM_MODE : Nat := 0x260001
def Seam.RX_SLOTS : Nat := 0x260002
def Seam.REPLAY_DEPTH : Nat := 0x260003

-- 0x2610 + s, seam s configuration (s = 0, 1)
def SeamCfg.SEAM_ENABLE (i : Nat) : Nat := 0x261001 + 0x100 * i
def SeamCfg.SEAM_ROLE (i : Nat) : Nat := 0x261002 + 0x100 * i
def SeamCfg.TARGET_RATE (i : Nat) : Nat := 0x261003 + 0x100 * i
def SeamCfg.LANE_MASK (i : Nat) : Nat := 0x261004 + 0x100 * i
def SeamCfg.VC_COUNT (i : Nat) : Nat := 0x261005 + 0x100 * i
def SeamCfg.VC_MAP (i : Nat) : Nat := 0x261006 + 0x100 * i
def SeamCfg.VC_BUF (i : Nat) : Nat := 0x261007 + 0x100 * i
def SeamCfg.REPLAY_NS (i : Nat) : Nat := 0x261008 + 0x100 * i
def SeamCfg.ACK_BATCH (i : Nat) : Nat := 0x261009 + 0x100 * i
def SeamCfg.AUTO_DEGRADE (i : Nat) : Nat := 0x26100A + 0x100 * i
def SeamCfg.LANE_ERR_LIMIT (i : Nat) : Nat := 0x26100B + 0x100 * i
def SeamCfg.DROP_DOZE (i : Nat) : Nat := 0x26100C + 0x100 * i
def SeamCfg.MANUAL (i : Nat) : Nat := 0x26100D + 0x100 * i
def SeamCfg.MANUAL_GO (i : Nat) : Nat := 0x26100E + 0x100 * i
def SeamCfg.LINK_CMD (i : Nat) : Nat := 0x26100F + 0x100 * i
def SeamCfg.LANE_SET (i : Nat) : Nat := 0x261010 + 0x100 * i
def SeamCfg.PEER_PBR_LO (i : Nat) : Nat := 0x261011 + 0x100 * i
def SeamCfg.PEER_PBR_HI (i : Nat) : Nat := 0x261012 + 0x100 * i

-- 0x2620 + s, seam s status
def SeamStat.LINK_STATE (i : Nat) : Nat := 0x262001 + 0x100 * i
def SeamStat.RATE_NOW (i : Nat) : Nat := 0x262002 + 0x100 * i
def SeamStat.MASK_NOW (i : Nat) : Nat := 0x262003 + 0x100 * i
def SeamStat.WIDTH_NOW (i : Nat) : Nat := 0x262004 + 0x100 * i
def SeamStat.MARGINAL (i : Nat) : Nat := 0x262005 + 0x100 * i
def SeamStat.PEER_SERIAL (i : Nat) : Nat := 0x262006 + 0x100 * i
def SeamStat.NEXT_SEQ (i : Nat) : Nat := 0x262007 + 0x100 * i
def SeamStat.OLDEST (i : Nat) : Nat := 0x262008 + 0x100 * i
def SeamStat.EXPECT (i : Nat) : Nat := 0x262009 + 0x100 * i
def SeamStat.OUTSTANDING (i : Nat) : Nat := 0x26200A + 0x100 * i
def SeamStat.RTT_NS (i : Nat) : Nat := 0x26200B + 0x100 * i
def SeamStat.CREDITS (i : Nat) : Nat := 0x26200C + 0x100 * i
def SeamStat.LCMD_STATE (i : Nat) : Nat := 0x26200D + 0x100 * i
def SeamStat.LANE_CORR (i : Nat) : Nat := 0x26200E + 0x100 * i

-- 0x2630 + s, seam s counts
def SeamCnt.FRAMES_TX (i : Nat) : Nat := 0x263001 + 0x100 * i
def SeamCnt.FRAMES_RX (i : Nat) : Nat := 0x263002 + 0x100 * i
def SeamCnt.FEC_CORR (i : Nat) : Nat := 0x263003 + 0x100 * i
def SeamCnt.BAD_FRAMES (i : Nat) : Nat := 0x263004 + 0x100 * i
def SeamCnt.NAK_TX (i : Nat) : Nat := 0x263005 + 0x100 * i
def SeamCnt.NAK_RX (i : Nat) : Nat := 0x263006 + 0x100 * i
def SeamCnt.REPLAY_TIMER (i : Nat) : Nat := 0x263007 + 0x100 * i
def SeamCnt.DUP_RX (i : Nat) : Nat := 0x263008 + 0x100 * i
def SeamCnt.RETRAINS (i : Nat) : Nat := 0x263009 + 0x100 * i
def SeamCnt.STALL_STITCHES (i : Nat) : Nat := 0x26300A + 0x100 * i
def SeamCnt.CREDIT_STALL (i : Nat) : Nat := 0x26300B + 0x100 * i

-- 0x2800 fabric core and bolt store
def Fab.HLC_STEPS : Nat := 0x280001
def Fab.CARVE_STATUS : Nat := 0x280002
def Fab.RSV_RESP : Nat := 0x280003
def Fab.RESP_CLASSES : Nat := 0x280004
def Fab.EXPRESS_MASK : Nat := 0x280005
def Fab.EXPRESS_INT : Nat := 0x280006
def Fab.STALL_LIMIT : Nat := 0x280007
def Fab.SEAM_STALL_LIMIT : Nat := 0x280008
def Fab.LOW_WATER : Nat := 0x280009
def Fab.FB_SLOTS : Nat := 0x28000A
def Fab.FREE_SLOTS : Nat := 0x28000B
def Fab.FREE_MIN : Nat := 0x28000C
def Fab.FREE_MIN_CLEAR : Nat := 0x28000D
def Fab.SEAM_DISCARD : Nat := 0x28000E

-- 0x2801 admission
def Adm.ALPHA : Nat := 0x280101

-- 0x2808 + d, bolt store die Qd (d = 0 to 7)
def Die.DIE_STATE (i : Nat) : Nat := 0x280801 + 0x100 * i
def Die.DIE_FREE (i : Nat) : Nat := 0x280802 + 0x100 * i
def Die.ECC_CORR (i : Nat) : Nat := 0x280803 + 0x100 * i
def Die.ECC_UNCORR (i : Nat) : Nat := 0x280804 + 0x100 * i
def Die.RETIRED (i : Nat) : Nat := 0x280805 + 0x100 * i
def Die.WRITES (i : Nat) : Nat := 0x280806 + 0x100 * i
def Die.READS (i : Nat) : Nat := 0x280807 + 0x100 * i

-- 0x2810 + q, quadrant QDq (q = 0 to 3)
def Quad.EXPRESS_PKTS (i : Nat) : Nat := 0x281001 + 0x100 * i
def Quad.STORED_PKTS (i : Nat) : Nat := 0x281002 + 0x100 * i
def Quad.REFUSE_FREE (i : Nat) : Nat := 0x281003 + 0x100 * i
def Quad.REFUSE_QUOTA (i : Nat) : Nat := 0x281004 + 0x100 * i
def Quad.REFUSE_ALPHA (i : Nat) : Nat := 0x281005 + 0x100 * i
def Quad.REVOKES (i : Nat) : Nat := 0x281006 + 0x100 * i
def Quad.DIE_WAITS (i : Nat) : Nat := 0x281007 + 0x100 * i
def Quad.STALLS (i : Nat) : Nat := 0x281008 + 0x100 * i
def Quad.STALL_DISCARD (i : Nat) : Nat := 0x281009 + 0x100 * i

-- 0x2820 + i, mirror selector i (i = 0 to 7)
def Mir.MIR_ENABLE (i : Nat) : Nat := 0x282001 + 0x100 * i
def Mir.MIR_POINT (i : Nat) : Nat := 0x282002 + 0x100 * i
def Mir.MIR_DIR (i : Nat) : Nat := 0x282003 + 0x100 * i
def Mir.MIR_CLASSES (i : Nat) : Nat := 0x282004 + 0x100 * i
def Mir.MIR_SLICE (i : Nat) : Nat := 0x282005 + 0x100 * i
def Mir.MIR_N (i : Nat) : Nat := 0x282006 + 0x100 * i
def Mir.MIR_SAMPLED (i : Nat) : Nat := 0x282007 + 0x100 * i
def Mir.MIR_DROPPED (i : Nat) : Nat := 0x282008 + 0x100 * i

-- 0x2830 mirror ring
def MirRing.MIR_PROD : Nat := 0x283001
def MirRing.MIR_CONS : Nat := 0x283002
def MirRing.MIR_RING : Nat := 0x283003

-- 0x2900 NoC
def Noc.NOC_STATE : Nat := 0x290001
def Noc.AGE_ALARM : Nat := 0x290002
def Noc.STAT_SNAP : Nat := 0x290003
def Noc.SNAP_STITCH : Nat := 0x290004
def Noc.STUCK : Nat := 0x290005
def Noc.ECC_CORR : Nat := 0x290006
def Noc.ECC_UNCORR : Nat := 0x290007

-- 0x2901 + v, urgency thresholds of virtual network v (v = 0 to 5)
def NocAge.AGE1 (i : Nat) : Nat := 0x290101 + 0x100 * i
def NocAge.AGE2 (i : Nat) : Nat := 0x290102 + 0x100 * i
def NocAge.AGE3 (i : Nat) : Nat := 0x290103 + 0x100 * i

-- 0x2910 + e, statistics of endpoint e (e = 0 to 31)
def NocStat.MSGS (i : Nat) : Nat := 0x291001 + 0x100 * i
def NocStat.FLITS (i : Nat) : Nat := 0x291002 + 0x100 * i
def NocStat.LAT_SUM (i : Nat) : Nat := 0x291003 + 0x100 * i
def NocStat.LAT_MAX (i : Nat) : Nat := 0x291004 + 0x100 * i
def NocStat.URG3 (i : Nat) : Nat := 0x291005 + 0x100 * i
def NocStat.INJ_WAIT (i : Nat) : Nat := 0x291006 + 0x100 * i
def NocStat.SNAP_MSGS (i : Nat) : Nat := 0x291007 + 0x100 * i
def NocStat.SNAP_FLITS (i : Nat) : Nat := 0x291008 + 0x100 * i
def NocStat.SNAP_LAT_SUM (i : Nat) : Nat := 0x291009 + 0x100 * i
def NocStat.LAT_MAX_CLEAR (i : Nat) : Nat := 0x29100A + 0x100 * i

-- 0x3000 coherence engine
def Coh.DIR_MODE : Nat := 0x300001
def Coh.INDEX_BITS : Nat := 0x300002
def Coh.WB_WAIT : Nat := 0x300003
def Coh.BACKOFF_MAX : Nat := 0x300004
def Coh.RSV_NAKS : Nat := 0x300005
def Coh.RSV_WAIT : Nat := 0x300006
def Coh.SNP_TIMEOUT_US : Nat := 0x300007
def Coh.R_MAX : Nat := 0x300008
def Coh.TLT_SIZE : Nat := 0x300009
def Coh.DIAG_SLICE : Nat := 0x30000A
def Coh.DIAG_SLOT : Nat := 0x30000B
def Coh.DIAG_ENTRY : Nat := 0x30000C

-- 0x3001 + c, coherence slice CEc (c = 0 to 3)
def Ce.CE_STATE (i : Nat) : Nat := 0x300101 + 0x100 * i
def Ce.LOOKUPS (i : Nat) : Nat := 0x300102 + 0x100 * i
def Ce.ALLOCS (i : Nat) : Nat := 0x300103 + 0x100 * i
def Ce.EVICTIONS (i : Nat) : Nat := 0x300104 + 0x100 * i
def Ce.SNOOPS (i : Nat) : Nat := 0x300105 + 0x100 * i
def Ce.NAKS (i : Nat) : Nat := 0x300106 + 0x100 * i
def Ce.RSV_GRANTS (i : Nat) : Nat := 0x300107 + 0x100 * i
def Ce.RSV_LAPSED (i : Nat) : Nat := 0x300108 + 0x100 * i
def Ce.LATE_BIRSP (i : Nat) : Nat := 0x300109 + 0x100 * i
def Ce.WB_WAITS (i : Nat) : Nat := 0x30010A + 0x100 * i
def Ce.WB_TIMEOUTS (i : Nat) : Nat := 0x30010B + 0x100 * i
def Ce.TLT_USED (i : Nat) : Nat := 0x30010C + 0x100 * i
def Ce.TLT_FULL (i : Nat) : Nat := 0x30010D + 0x100 * i
def Ce.QUOTA_DENY (i : Nat) : Nat := 0x30010E + 0x100 * i
def Ce.ENTRIES_USED (i : Nat) : Nat := 0x30010F + 0x100 * i
def Ce.BI_PROTOCOL (i : Nat) : Nat := 0x300110 + 0x100 * i
def Ce.SNOOP_TIMEOUTS (i : Nat) : Nat := 0x300111 + 0x100 * i
def Ce.LOST_PINNED (i : Nat) : Nat := 0x300112 + 0x100 * i

-- 0x3100 home line cache and atomics
def Hlc.HLC_ENABLE : Nat := 0x310001
def Hlc.HOT_THRESH : Nat := 0x310002
def Hlc.HOT_SWEEP : Nat := 0x310003
def Hlc.FILL_AHEAD : Nat := 0x310004
def Hlc.HLC_FLUSH : Nat := 0x310005
def Hlc.HLC_STATE : Nat := 0x310006
def Hlc.HLC_MODE : Nat := 0x310007
def Hlc.HLC_DIRTY : Nat := 0x310008

-- 0x3110 + c, slice CEc line cache, atomics and loss counts (c = 0 to 3)
def CeHlc.HLC_LINES (i : Nat) : Nat := 0x311001 + 0x100 * i
def CeHlc.HLC_HITS (i : Nat) : Nat := 0x311002 + 0x100 * i
def CeHlc.HLC_FILLS (i : Nat) : Nat := 0x311003 + 0x100 * i
def CeHlc.HLC_RECALLS (i : Nat) : Nat := 0x311004 + 0x100 * i
def CeHlc.ATOM_HLC (i : Nat) : Nat := 0x311005 + 0x100 * i
def CeHlc.ATOM_RMW (i : Nat) : Nat := 0x311006 + 0x100 * i
def CeHlc.ATOM_MEM (i : Nat) : Nat := 0x311007 + 0x100 * i
def CeHlc.ATOM_ERR (i : Nat) : Nat := 0x311008 + 0x100 * i
def CeHlc.ORPHANS (i : Nat) : Nat := 0x311009 + 0x100 * i
def CeHlc.SPEC_DISCARDS (i : Nat) : Nat := 0x31100A + 0x100 * i
def CeHlc.POISON_OUT (i : Nat) : Nat := 0x31100B + 0x100 * i
def CeHlc.WALK_POS (i : Nat) : Nat := 0x31100C + 0x100 * i

-- 0x3102 lost-line log
def LostLog.LL_PROD : Nat := 0x310201
def LostLog.LL_CONS : Nat := 0x310202
def LostLog.LL_OVERRUN : Nat := 0x310203
def LostLog.LL_DROPPED : Nat := 0x310204
def LostLog.LL_SLOTS : Nat := 0x310205
def LostLog.LL_DATA : Nat := 0x310206
def LostLog.LL_CLEAR : Nat := 0x310207

-- 0x3103 caching agents and the unpick walk
def Agents.DEAD_AGENTS : Nat := 0x310301
def Agents.DECLARE_DEAD : Nat := 0x310302
def Agents.REVIVE : Nat := 0x310303
def Agents.WALK_AGENTS : Nat := 0x310304
def Agents.WALK_START : Nat := 0x310305
def Agents.WALK_END : Nat := 0x310306
def Agents.WALKS : Nat := 0x310307

-- 0x3104 speculative read discards
def Spec.SPEC_DISCARD : Nat := 0x310401
def Spec.SPEC_CLEAR : Nat := 0x310402

-- 0x3400 + w, pool window Ww (w = 0 to 1023)
def Win.W_ENABLE (i : Nat) : Nat := 0x340001 + 0x100 * i
def Win.W_BASE (i : Nat) : Nat := 0x340002 + 0x100 * i
def Win.W_SIZE (i : Nat) : Nat := 0x340003 + 0x100 * i
def Win.W_TYPE (i : Nat) : Nat := 0x340004 + 0x100 * i
def Win.W_PREFETCH (i : Nat) : Nat := 0x340005 + 0x100 * i
def Win.W_ATOMIC_SITE (i : Nat) : Nat := 0x340006 + 0x100 * i
def Win.W_HOME (i : Nat) : Nat := 0x340007 + 0x100 * i
def Win.W_SWAP (i : Nat) : Nat := 0x340008 + 0x100 * i
def Win.W_ELEM (i : Nat) : Nat := 0x340009 + 0x100 * i
def Win.W_WAYS (i : Nat) : Nat := 0x34000A + 0x100 * i
def Win.W_GRAN (i : Nat) : Nat := 0x34000B + 0x100 * i
def Win.W_TARGETS (i : Nat) : Nat := 0x34000C + 0x100 * i
def Win.W_STATE (i : Nat) : Nat := 0x34000D + 0x100 * i
def Win.W_REFUSED (i : Nat) : Nat := 0x34000E + 0x100 * i

-- 0x3800 central table
def Ct.SEWN_BANK : Nat := 0x380001
def Ct.SET_STATE : Nat := 0x380002
def Ct.SWAP : Nat := 0x380003
def Ct.EPOCH : Nat := 0x380004
def Ct.DRAIN_LEFT : Nat := 0x380005
def Ct.OVERLAP_PAIR : Nat := 0x380006
def Ct.RULE_COPY : Nat := 0x380007
def Ct.REFUSED : Nat := 0x380008
def Ct.SWAP_STITCH : Nat := 0x380009

-- 0x3801 central table banks
def CtBank.CT_BANK0 : Nat := 0x380101
def CtBank.CT_BANK1 : Nat := 0x380102

-- 0x3810 + p, thimble gate of port Pp (p = 0 to 63)
def Gate.CHECK_SITE (i : Nat) : Nat := 0x381001 + 0x100 * i
def Gate.SEWN_BANK (i : Nat) : Nat := 0x381002 + 0x100 * i
def Gate.SET_STATE (i : Nat) : Nat := 0x381003 + 0x100 * i
def Gate.SWAP (i : Nat) : Nat := 0x381004 + 0x100 * i
def Gate.EPOCH (i : Nat) : Nat := 0x381005 + 0x100 * i
def Gate.OVERLAP_PAIR (i : Nat) : Nat := 0x381006 + 0x100 * i
def Gate.RULE_COPY (i : Nat) : Nat := 0x381007 + 0x100 * i
def Gate.GATE_BANK0 (i : Nat) : Nat := 0x381008 + 0x100 * i
def Gate.GATE_BANK1 (i : Nat) : Nat := 0x381009 + 0x100 * i
def Gate.REFUSED (i : Nat) : Nat := 0x38100A + 0x100 * i
def Gate.DRAIN_LEFT (i : Nat) : Nat := 0x38100B + 0x100 * i

-- 0x4000 + s, slice Ss (s = 0 to 4095)
def Slc.SLC_STATE (i : Nat) : Nat := 0x400001 + 0x100 * i
def Slc.SLC_CTRL (i : Nat) : Nat := 0x400002 + 0x100 * i
def Slc.SLC_PORT (i : Nat) : Nat := 0x400003 + 0x100 * i
def Slc.SLC_KEYS (i : Nat) : Nat := 0x400004 + 0x100 * i
def Slc.SLC_GEN (i : Nat) : Nat := 0x400005 + 0x100 * i
def Slc.SLC_BOOT (i : Nat) : Nat := 0x400006 + 0x100 * i
def Slc.SLC_BS_QUOTA (i : Nat) : Nat := 0x400007 + 0x100 * i
def Slc.SLC_BS_HELD (i : Nat) : Nat := 0x400008 + 0x100 * i
def Slc.SLC_DIR_QUOTA (i : Nat) : Nat := 0x400009 + 0x100 * i
def Slc.SLC_DIR_HELD (i : Nat) : Nat := 0x40000A + 0x100 * i
def Slc.SLC_CLASSES (i : Nat) : Nat := 0x40000B + 0x100 * i
def Slc.SLC_NEEDLE (i : Nat) : Nat := 0x40000C + 0x100 * i
def Slc.SLC_CTR_READ (i : Nat) : Nat := 0x40000D + 0x100 * i
def Slc.SLC_VEC_MAP (i : Nat) : Nat := 0x40000E + 0x100 * i
def Slc.SLC_VECTORS (i : Nat) : Nat := 0x40000F + 0x100 * i
def Slc.SLC_CAUSE (i : Nat) : Nat := 0x400010 + 0x100 * i
def Slc.SLC_NOTE_SENT (i : Nat) : Nat := 0x400011 + 0x100 * i
def Slc.SLC_NOTE_LOST (i : Nat) : Nat := 0x400012 + 0x100 * i
def Slc.SLC_REFUSED (i : Nat) : Nat := 0x400013 + 0x100 * i
def Slc.SLC_DISCARD (i : Nat) : Nat := 0x400014 + 0x100 * i
def Slc.SLC_RESETS (i : Nat) : Nat := 0x400015 + 0x100 * i
def Slc.SLC_RESET_START (i : Nat) : Nat := 0x400016 + 0x100 * i
def Slc.SLC_RESET_END (i : Nat) : Nat := 0x400017 + 0x100 * i
def Slc.SLC_AGENT (i : Nat) : Nat := 0x400018 + 0x100 * i
def Slc.SLC_PEND (i : Nat) : Nat := 0x400019 + 0x100 * i

-- 0x2000 + 0x10·p + 5, port slice map
def PortMap.DEFAULT_SLICE (i : Nat) : Nat := 0x200501 + 0x1000 * i
def PortMap.KEYS (i : Nat) : Nat := 0x200502 + 0x1000 * i
def PortMap.MAP_MISS (i : Nat) : Nat := 0x200503 + 0x1000 * i

-- 0x2640 + s, seam s slice map, fabric role (s = 0, 1)
def SeamMap.DEFAULT_SLICE (i : Nat) : Nat := 0x264001 + 0x100 * i
def SeamMap.KEYS (i : Nat) : Nat := 0x264002 + 0x100 * i
def SeamMap.MAP_MISS (i : Nat) : Nat := 0x264003 + 0x100 * i

-- 0x5000 + s, policer and shaper of slice Ss (s = 0 to 4095)
def Pol.POL_MODE (i : Nat) : Nat := 0x500001 + 0x100 * i
def Pol.POL_RED (i : Nat) : Nat := 0x500002 + 0x100 * i
def Pol.POL_PRECOLOUR (i : Nat) : Nat := 0x500003 + 0x100 * i
def Pol.POL_CIR (i : Nat) : Nat := 0x500004 + 0x100 * i
def Pol.POL_CBS (i : Nat) : Nat := 0x500005 + 0x100 * i
def Pol.POL_PIR (i : Nat) : Nat := 0x500006 + 0x100 * i
def Pol.POL_PBS (i : Nat) : Nat := 0x500007 + 0x100 * i
def Pol.POL_C_NOW (i : Nat) : Nat := 0x500008 + 0x100 * i
def Pol.POL_P_NOW (i : Nat) : Nat := 0x500009 + 0x100 * i
def Pol.POL_GREEN (i : Nat) : Nat := 0x50000A + 0x100 * i
def Pol.POL_YELLOW (i : Nat) : Nat := 0x50000B + 0x100 * i
def Pol.POL_RED_UNITS (i : Nat) : Nat := 0x50000C + 0x100 * i
def Pol.SHP_ENABLE (i : Nat) : Nat := 0x50000D + 0x100 * i
def Pol.SHP_CIR (i : Nat) : Nat := 0x50000E + 0x100 * i
def Pol.SHP_CBS (i : Nat) : Nat := 0x50000F + 0x100 * i
def Pol.SHP_PIR (i : Nat) : Nat := 0x500010 + 0x100 * i
def Pol.SHP_PBS (i : Nat) : Nat := 0x500011 + 0x100 * i
def Pol.SHP_HOLDS (i : Nat) : Nat := 0x500012 + 0x100 * i
def Pol.SHP_C_NOW (i : Nat) : Nat := 0x500013 + 0x100 * i
def Pol.SHP_P_NOW (i : Nat) : Nat := 0x500014 + 0x100 * i

-- 0x6000 + p, time-gate list of port Pp (p = 0 to 63)
def Tg.TG_ENABLE (i : Nat) : Nat := 0x600001 + 0x100 * i
def Tg.TG_LIST (i : Nat) : Nat := 0x600002 + 0x100 * i
def Tg.TG_LEN (i : Nat) : Nat := 0x600003 + 0x100 * i
def Tg.TG_START_TIME (i : Nat) : Nat := 0x600004 + 0x100 * i
def Tg.TG_COMMIT (i : Nat) : Nat := 0x600005 + 0x100 * i
def Tg.TG_STATE (i : Nat) : Nat := 0x600006 + 0x100 * i
def Tg.TG_OPER_LIST (i : Nat) : Nat := 0x600007 + 0x100 * i
def Tg.TG_OPER_LEN (i : Nat) : Nat := 0x600008 + 0x100 * i
def Tg.TG_TAKEOVER_STITCH (i : Nat) : Nat := 0x600009 + 0x100 * i
def Tg.TG_ENTRY_NOW (i : Nat) : Nat := 0x60000A + 0x100 * i

-- 0x6100 + p, egress queues of port Pp (p = 0 to 63)
def Queue.Q_CONFIG (i : Nat) : Nat := 0x610001 + 0x100 * i
def Queue.Q_VTIME (i : Nat) : Nat := 0x610002 + 0x100 * i

-- 0x6140 + p, queue status of port Pp (p = 0 to 63)
def QStat.Q_STATUS (i : Nat) : Nat := 0x614001 + 0x100 * i
def QStat.SAMPLE_STITCH (i : Nat) : Nat := 0x614002 + 0x100 * i

-- 0x6180 scheduling
def Sched.REFILL_STITCHES : Nat := 0x618001
def Sched.SAMPLE_STITCHES : Nat := 0x618002
def Sched.WFQ_SCALE : Nat := 0x618003

-- 0x6200 + i, arbiter i (i = 0 to 9, as R351)
def Arb.ARB_MODE (i : Nat) : Nat := 0x620001 + 0x100 * i
def Arb.ARB_WEIGHTS (i : Nat) : Nat := 0x620002 + 0x100 * i
def Arb.ARB_QUANTUM (i : Nat) : Nat := 0x620003 + 0x100 * i
def Arb.ARB_BOBBINS (i : Nat) : Nat := 0x620004 + 0x100 * i
def Arb.ARB_GRANTS (i : Nat) : Nat := 0x620005 + 0x100 * i
def Arb.ARB_REVOKES (i : Nat) : Nat := 0x620006 + 0x100 * i

-- 0x6800 + c, needle channel Nc (c = 0 to 127)
def Chan.CH_CTRL (i : Nat) : Nat := 0x680001 + 0x100 * i
def Chan.CH_STATE (i : Nat) : Nat := 0x680002 + 0x100 * i
def Chan.RING_LOC (i : Nat) : Nat := 0x680003 + 0x100 * i
def Chan.RING_LOG2 (i : Nat) : Nat := 0x680004 + 0x100 * i
def Chan.RING_ADDR (i : Nat) : Nat := 0x680005 + 0x100 * i
def Chan.RING_HEAD (i : Nat) : Nat := 0x680006 + 0x100 * i
def Chan.RING_TAIL (i : Nat) : Nat := 0x680007 + 0x100 * i
def Chan.RING_DATA (i : Nat) : Nat := 0x680008 + 0x100 * i
def Chan.HALT_ON_ERR (i : Nat) : Nat := 0x680009 + 0x100 * i
def Chan.OUT_MAX (i : Nat) : Nat := 0x68000A + 0x100 * i
def Chan.HOST_BASE (i : Nat) : Nat := 0x68000B + 0x100 * i
def Chan.HOST_SIZE (i : Nat) : Nat := 0x68000C + 0x100 * i
def Chan.DESC_DONE (i : Nat) : Nat := 0x68000D + 0x100 * i
def Chan.DESC_FAIL (i : Nat) : Nat := 0x68000E + 0x100 * i
def Chan.BYTES (i : Nat) : Nat := 0x68000F + 0x100 * i
def Chan.LAST_ERR (i : Nat) : Nat := 0x680010 + 0x100 * i
def Chan.LAST_ERR_INDEX (i : Nat) : Nat := 0x680011 + 0x100 * i
def Chan.LAST_ERR_OFFSET (i : Nat) : Nat := 0x680012 + 0x100 * i

-- 0x7000 twin control and state
def Twin.TWIN_ENABLE : Nat := 0x700001
def Twin.TWIN_STATE : Nat := 0x700002
def Twin.HOME_ALL : Nat := 0x700003
def Twin.OWN_AGENTS : Nat := 0x700004
def Twin.PEER_AGENTS : Nat := 0x700005
def Twin.PAIR_DIGEST : Nat := 0x700006
def Twin.PEER_DIGEST : Nat := 0x700007
def Twin.INCIDENT : Nat := 0x700008
def Twin.WITNESS : Nat := 0x700009
def Twin.AUTO_SURVIVE : Nat := 0x70000A
def Twin.WITNESS_WAIT_MS : Nat := 0x70000B
def Twin.HANDBACK : Nat := 0x70000C
def Twin.FAILOVER_STITCH : Nat := 0x70000D

-- 0x7001 heartbeats
def Hb.HB_PERIOD_US : Nat := 0x700101
def Hb.SEAM_HB_MISS_US : Nat := 0x700102
def Hb.SENSE_HALF : Nat := 0x700103
def Hb.SENSE_MISS : Nat := 0x700104
def Hb.SEAM_HB_OK : Nat := 0x700105
def Hb.SENSE_STATE : Nat := 0x700106
def Hb.SENSE_REARM : Nat := 0x700107
def Hb.HB_LOST : Nat := 0x700108
def Hb.FENCED : Nat := 0x700109
def Hb.SYNC_STATE : Nat := 0x70010A

-- 0x7002 overlock mirror
def Mirror.MQ_PLACES : Nat := 0x700201
def Mirror.RECORDS_TX : Nat := 0x700202
def Mirror.RECORDS_RX : Nat := 0x700203
def Mirror.UNCONFIRMED : Nat := 0x700204
def Mirror.MQ_FULL : Nat := 0x700205
def Mirror.CONF_WAIT : Nat := 0x700206

-- 0x7003 fabric time between twins
def Time.TIME_PERIOD_MS : Nat := 0x700301
def Time.TIME_OFFSET_NS : Nat := 0x700302
def Time.TIME_LOCKED : Nat := 0x700303
def Time.PPS_OFFSET_NS : Nat := 0x700304
def Time.PPS_TOL_NS : Nat := 0x700305
def Time.PPS_DISCIPLINE : Nat := 0x700306

-- 0x7200 + t, slot SLt (t = 0 to 31)
def Slot.PWR_EN (i : Nat) : Nat := 0x720001 + 0x100 * i
def Slot.SLOT_STATE (i : Nat) : Nat := 0x720002 + 0x100 * i
def Slot.ILIM_UV (i : Nat) : Nat := 0x720003 + 0x100 * i
def Slot.SC_UV (i : Nat) : Nat := 0x720004 + 0x100 * i
def Slot.SHUNT_UOHM (i : Nat) : Nat := 0x720005 + 0x100 * i
def Slot.FAULT_TICKS (i : Nat) : Nat := 0x720006 + 0x100 * i
def Slot.RAMP_MS (i : Nat) : Nat := 0x720007 + 0x100 * i
def Slot.RETRY_MAX (i : Nat) : Nat := 0x720008 + 0x100 * i
def Slot.RETRY_MS (i : Nat) : Nat := 0x720009 + 0x100 * i
def Slot.RETRY_COUNT (i : Nat) : Nat := 0x72000A + 0x100 * i
def Slot.RETRY_LEFT_MS (i : Nat) : Nat := 0x72000B + 0x100 * i
def Slot.AUX_MODE (i : Nat) : Nat := 0x72000C + 0x100 * i
def Slot.OR_FEED (i : Nat) : Nat := 0x72000D + 0x100 * i
def Slot.UV_MV (i : Nat) : Nat := 0x72000E + 0x100 * i
def Slot.DEB_TICKS (i : Nat) : Nat := 0x72000F + 0x100 * i
def Slot.CHATTER_N (i : Nat) : Nat := 0x720010 + 0x100 * i
def Slot.CHATTER_MS (i : Nat) : Nat := 0x720011 + 0x100 * i
def Slot.STUCK_MS (i : Nat) : Nat := 0x720012 + 0x100 * i
def Slot.PWR_LED (i : Nat) : Nat := 0x720013 + 0x100 * i
def Slot.ATTN_LED (i : Nat) : Nat := 0x720014 + 0x100 * i
def Slot.INPUTS (i : Nat) : Nat := 0x720015 + 0x100 * i
def Slot.INPUT_REARM (i : Nat) : Nat := 0x720016 + 0x100 * i
def Slot.VIN_MV (i : Nat) : Nat := 0x720017 + 0x100 * i
def Slot.VOUT_MV (i : Nat) : Nat := 0x720018 + 0x100 * i
def Slot.SENSE_UV (i : Nat) : Nat := 0x720019 + 0x100 * i
def Slot.CURRENT_MA (i : Nat) : Nat := 0x72001A + 0x100 * i
def Slot.SLOT_CMD (i : Nat) : Nat := 0x72001B + 0x100 * i
def Slot.TRIPS (i : Nat) : Nat := 0x72001C + 0x100 * i
def Slot.LAST_CAUSE (i : Nat) : Nat := 0x72001D + 0x100 * i
def Slot.PG_STITCH (i : Nat) : Nat := 0x72001E + 0x100 * i

-- 0x7200, die-wide subindices
def SlotAll.RAMP_CONC : Nat := 0x720030
def SlotAll.RAMPING : Nat := 0x720031
def SlotAll.LINK_ERRS : Nat := 0x720032

-- 0x8000 + j, event source Ej (j = 0 to 1535)
def Src.SRC_STATUS (i : Nat) : Nat := 0x800001 + 0x100 * i
def Src.CLASS (i : Nat) : Nat := 0x800002 + 0x100 * i
def Src.MASK (i : Nat) : Nat := 0x800003 + 0x100 * i
def Src.OCCUR (i : Nat) : Nat := 0x800004 + 0x100 * i
def Src.RAISES (i : Nat) : Nat := 0x800005 + 0x100 * i
def Src.THRESH (i : Nat) : Nat := 0x800006 + 0x100 * i
def Src.CAP_EN (i : Nat) : Nat := 0x800007 + 0x100 * i
def Src.CAP_ENTRY (i : Nat) : Nat := 0x800008 + 0x100 * i
def Src.CHATTER_N (i : Nat) : Nat := 0x800009 + 0x100 * i
def Src.CHATTER_MS (i : Nat) : Nat := 0x80000A + 0x100 * i
def Src.STUCK_MS (i : Nat) : Nat := 0x80000B + 0x100 * i
def Src.LAST_STITCH (i : Nat) : Nat := 0x80000C + 0x100 * i

-- 0x8800 fault collector
def Col.CAP_VALID : Nat := 0x880001
def Col.CAP_DATA : Nat := 0x880002
def Col.CAP_LOST : Nat := 0x880003
def Col.CAP_AUTOFREE : Nat := 0x880004
def Col.PENDING : Nat := 0x880005
def Col.ACT_CORR : Nat := 0x880006
def Col.ACT_DEFER : Nat := 0x880007
def Col.ACT_UC : Nat := 0x880008
def Col.ACT_FATAL : Nat := 0x880009
def Col.ACT_STATUS : Nat := 0x88000A
def Col.FATAL_STATE : Nat := 0x88000B
def Col.STOP_SOURCE : Nat := 0x88000C
def Col.STORM_RATE : Nat := 0x88000D
def Col.STORM_BURST : Nat := 0x88000E
def Col.STORM_SUPPRESSED : Nat := 0x88000F
def Col.THRESH_MS : Nat := 0x880010
def Col.WIRE_FAULTS : Nat := 0x880011
def Col.INJ_SOURCE : Nat := 0x880012
def Col.INJ_MODE : Nat := 0x880013
def Col.INJ_GO : Nat := 0x880014
def Col.INJ_DETAIL : Nat := 0x880015

-- 0x9000 + i, counter Ci (i = 0 to 1023)
def Ctr.CTR_EVENT (i : Nat) : Nat := 0x900001 + 0x100 * i
def Ctr.CTR_FILTER (i : Nat) : Nat := 0x900002 + 0x100 * i
def Ctr.CTR_OWNER (i : Nat) : Nat := 0x900003 + 0x100 * i
def Ctr.CTR_READ (i : Nat) : Nat := 0x900004 + 0x100 * i
def Ctr.CTR_STATUS (i : Nat) : Nat := 0x900005 + 0x100 * i
def Ctr.CTR_CLEAR (i : Nat) : Nat := 0x900006 + 0x100 * i

-- 0x9000, die-wide subindices
def CtrAll.CTR_SERVICE : Nat := 0x900010
def CtrAll.SERVICE_SET : Nat := 0x900011
def CtrAll.SLICE_READS : Nat := 0x900012
def CtrAll.READ_REFUSED : Nat := 0x900013
def CtrAll.CATALOGUE : Nat := 0x900014

-- 0xA000 + m, power domain PDm (m = 0 to 76)
def Pd.PD_REQ (i : Nat) : Nat := 0xA00001 + 0x100 * i
def Pd.PD_STATE (i : Nat) : Nat := 0xA00002 + 0x100 * i
def Pd.PD_RESET (i : Nat) : Nat := 0xA00003 + 0x100 * i
def Pd.PD_PARENT (i : Nat) : Nat := 0xA00004 + 0x100 * i
def Pd.PD_STEP_MA (i : Nat) : Nat := 0xA00005 + 0x100 * i
def Pd.PD_WAKES (i : Nat) : Nat := 0xA00006 + 0x100 * i
def Pd.PD_ON_STITCH (i : Nat) : Nat := 0xA00007 + 0x100 * i
def Pd.PD_REFUSED (i : Nat) : Nat := 0xA00008 + 0x100 * i

-- 0xA000, die-wide subindices
def PdAll.SLEW_MA_US : Nat := 0xA00020
def PdAll.STAGE_STATE : Nat := 0xA00021
def PdAll.STAGE_PENDING : Nat := 0xA00022
def PdAll.PREWARNS : Nat := 0xA00023
def PdAll.CHIP_RESET : Nat := 0xA00024
def PdAll.PWR_HOURS_NOW : Nat := 0xA00025

-- 0xA100 + i, temperature sensor Ti (i = 0 to 47)
def Temp.T_NOW (i : Nat) : Nat := 0xA10001 + 0x100 * i
def Temp.T_MAX (i : Nat) : Nat := 0xA10002 + 0x100 * i
def Temp.T_MIN (i : Nat) : Nat := 0xA10003 + 0x100 * i
def Temp.T_CLEAR (i : Nat) : Nat := 0xA10004 + 0x100 * i

-- 0xA130 + v, voltage monitor Vv (v = 0 to 39)
def Volt.V_NOW (i : Nat) : Nat := 0xA13001 + 0x100 * i
def Volt.V_MIN (i : Nat) : Nat := 0xA13002 + 0x100 * i
def Volt.V_MAX (i : Nat) : Nat := 0xA13003 + 0x100 * i
def Volt.V_LOW (i : Nat) : Nat := 0xA13004 + 0x100 * i
def Volt.V_HIGH (i : Nat) : Nat := 0xA13005 + 0x100 * i
def Volt.V_CLEAR (i : Nat) : Nat := 0xA13006 + 0x100 * i

-- 0xA170 thermal
def Therm.TEMP_WARN_C : Nat := 0xA17001
def Therm.TRIP_C : Nat := 0xA17002
def Therm.T_HOTTEST : Nat := 0xA17003
def Therm.T_HOTTEST_ID : Nat := 0xA17004

-- 0xA180 clocks and droop
def Clk.CLK_STATE : Nat := 0xA18001
def Clk.MCLK_PPM : Nat := 0xA18002
def Clk.STRETCH_NOW : Nat := 0xA18003
def Clk.LOST_STITCHES : Nat := 0xA18004
def Clk.STRETCH_STITCHES : Nat := 0xA18005
def Clk.DROOP_MV : Nat := 0xA18006

-- 0xA200 AVS and margin plans
def Avs.VDD_SET_MV : Nat := 0xA20001
def Avs.VDD_NOW : Nat := 0xA20002
def Avs.VDD_MIN_MV : Nat := 0xA20003
def Avs.VDD_MAX_MV : Nat := 0xA20004
def Avs.TARGET_FS : Nat := 0xA20005
def Avs.GUARD_FS : Nat := 0xA20006
def Avs.PLAN_PERIOD_H : Nat := 0xA20007
def Avs.POWER_HOURS : Nat := 0xA20008
def Avs.PLAN_NOW : Nat := 0xA20009
def Avs.PLAN_STATE : Nat := 0xA2000A
def Avs.K_SENS_FS : Nat := 0xA2000B
def Avs.K_TEMP_FS : Nat := 0xA2000C
def Avs.WORST_SLACK_FS : Nat := 0xA2000D
def Avs.AVS_ERRORS : Nat := 0xA2000E

-- 0xA210 + n, selvedge monitor Mn (n = 0 to 95)
def Selv.M_ENABLE (i : Nat) : Nat := 0xA21001 + 0x100 * i
def Selv.M_SLACK_FS (i : Nat) : Nat := 0xA21002 + 0x100 * i
def Selv.M_MIN_FS (i : Nat) : Nat := 0xA21003 + 0x100 * i

-- 0xB000 life cycle
def Lc.LC_STATE : Nat := 0xB00001
def Lc.LC_REQ : Nat := 0xB00002
def Lc.LC_STATUS : Nat := 0xB00003
def Lc.LC_NONCE : Nat := 0xB00004
def Lc.LC_TOKEN : Nat := 0xB00005
def Lc.TOKEN_SCOPE : Nat := 0xB00006
def Lc.TOKEN_FAILS : Nat := 0xB00007
def Lc.DEBUG_NOW : Nat := 0xB00008

-- 0xB001 OTP
def Otp.OTP_GEN : Nat := 0xB00101
def Otp.OTP_GENS_LEFT : Nat := 0xB00102
def Otp.OTP_IMAGE : Nat := 0xB00103
def Otp.OTP_STAGE : Nat := 0xB00104
def Otp.OTP_BURN : Nat := 0xB00105
def Otp.OTP_STATUS : Nat := 0xB00106
def Otp.OTP_CTRL : Nat := 0xB00107
def Otp.ZEROISED : Nat := 0xB00108

-- 0x10C0 straps and board pins
def Strap.BOARD_PINS : Nat := 0x10C001
def Strap.BOOT_MODE : Nat := 0x10C002
def Strap.TRIP_PIN : Nat := 0x10C003

end Sys2Proof.Machine
end

