-- ==== Sys2Proof/Machine/Entries.lean ====
section
/-! DEFINITION. The entries of the Pattern Book, from the entry tables of every chapter: type, access,
privilege, persistence, range of the written value and default (R33 to R37, R41). A table shows an entry
once; `dflt i` is the default of instance i. A default that the manual shows as "-" is 0 here where
nothing else sets it (log entry 3). -/

namespace Sys2Proof.Machine

/-- Entry types (R34). -/
inductive Ty
  | u8 | u16 | u32 | u64 | s32 | bool | enum8 | bits32
  | octets (n : Nat)
  | str (n : Nat)
  deriving DecidableEq, Repr

/-- Size of a type in bytes (R34). -/
def Ty.size : Ty → Nat
  | .u8 => 1
  | .u16 => 2
  | .u32 => 4
  | .u64 => 8
  | .s32 => 4
  | .bool => 1
  | .enum8 => 1
  | .bits32 => 4
  | .octets n => n
  | .str n => n

/-- Access (R35). -/
inductive Acc | ro | rw | wo | w1c | const
  deriving DecidableEq, Repr

/-- Privilege of an entry (R36), lowest first. -/
inductive Priv | slice | fm | factory
  deriving DecidableEq, Repr

/-- The order of privileges (R36). -/
def Priv.rank : Priv → Nat
  | .slice => 0
  | .fm => 1
  | .factory => 2

/-- The values an entry takes, from its description. `bits` names the bits that exist: the others read 0
and a non-zero write to them is ignored (R7). -/
inductive Rng
  | any
  | span (lo hi : Nat)
  | spanOr (lo hi also : Nat)
  | multiple (n below : Nat)
  | oneOf (l : List Nat)
  | bits (mask : Nat)
  deriving DecidableEq, Repr

/-- One row of an entry table. -/
structure Entry where
  sub   : Nat
  ty    : Ty
  acc   : Acc
  priv  : Priv
  saved : Bool
  rng   : Rng
  dflt  : Nat → Nat

/-- One entry table: instance i lies at index base + stride * i. -/
structure Group where
  base    : Nat
  count   : Nat
  stride  : Nat
  entries : List Entry

/-- Default class of source j (R98, R121, R153, R188, R189, R210, R246, R247, R277, R302, R330, R356,
R382, R410, R432, R437, R469, R489, R502): 0 corrected, 1 deferred, 2 uncorrected-contained, 3 fatal,
4 status, 5 by cause, 255 never raised. -/
def sourceClass (j : Nat) : Nat :=
  if j < 1024 then [4, 2, 0, 1, 2, 4, 4, 4, 2, 1, 2, 1, 1, 2, 1, 2].getD (j % 16) 255
  else if j < 1168 then [2, 1, 1, 4].getD (j % 4) 255
  else if j < 1232 then [0, 2, 1, 2].getD (j % 8) 255
  else if j < 1264 then [0, 2, 3, 3].getD (j % 8) 255
  else if j < 1280 then 255
  else if j < 1344 then [2, 2, 2, 1, 4, 4, 255, 255, 2, 2, 4, 2, 1, 1, 1, 1].getD (j % 16) 255
  else if j < 1408 then
    -- BUFFER_LOW and CARVE are raised by QD0 only (R188)
    if j ≥ 1360 && (j % 16 == 1 || j % 16 == 8) then 255
    else [4, 4, 1, 1, 4, 0, 3, 3, 4, 255, 255, 255, 1, 4, 0, 2].getD (j % 16) 255
  else if j < 1440 then [1, 2, 1, 0, 2].getD (j - 1408) 255
  else if j < 1456 then [4, 2, 0, 1, 1, 1, 2, 4].getD (j % 8) 255
  else if j < 1472 then [4, 1, 1, 1, 2, 2, 3, 1, 1, 4, 4, 1].getD (j - 1456) 255
  else if j < 1504 then 5
  else [2, 1, 1, 4, 1, 3, 5, 4, 0, 3, 1, 3, 1, 4, 4, 2, 4, 4, 4, 1, 5, 1, 4, 1, 3, 1, 4, 1, 4, 3, 1, 4].getD (j - 1504) 255

/-- Default THRESH of source j (R439). -/
def thresholdDefault (j : Nat) : Nat :=
  if j < 1024 && j % 16 == 2 then 64
  else if j == 1442 || j == 1450 then 1024
  else if 1168 ≤ j && j < 1264 && j % 8 == 0 then 16
  else 1

/-- Parent of power domain m, 255 for none (R471). -/
def domainParent (m : Nat) : Nat :=
  if m = 0 then 255
  else if m = 1 then 0
  else if m < 34 then 54 + (m - 2) / 8
  else if m < 38 then 63
  else if m < 54 then 54 + (m - 38) / 4
  else if m < 72 then 1
  else if m < 76 then 58 + (m - 72)
  else 0

/-- Depth of power domain m in the tree of parents (R471). -/
def domainDepth (m : Nat) : Nat :=
  if m = 0 then 0
  else if m = 1 || m = 76 then 1
  else if m < 54 then 3
  else if m < 72 then 2
  else 3

/-- Largest wake step of domain m in mA (R471). -/
def domainStepMa (m : Nat) : Nat :=
  if m = 0 then 0
  else if m = 1 then 2000
  else if m < 54 then 3000
  else if m < 58 then 6000
  else if m < 62 then 4000
  else if m < 64 then 3000
  else if m < 76 then 6000
  else 0

/-- Nominal voltage that monitor v watches, in mV (R470, R485). -/
def railMv (v : Nat) : Nat :=
  if v < 32 then 800 else [800, 900, 800, 1200, 1800, 3300, 12000, 800].getD (v - 32) 800

/-- Requesters of arbiter i (R351). -/
def arbiterRequesters (i : Nat) : Nat := [18, 18, 18, 18, 67, 67, 6, 8, 8, 128].getD i 0

/-- Default weights of arbiter i: 16 per requester. -/
def defaultWeights (i : Nat) : Nat := packFields 8 (List.replicate (arbiterRequesters i) 16)

/-- Eight notification vectors at reset: MASK set (R318). -/
def maskedVectors : Nat := packFields 128 (List.replicate 8 (2 ^ 96))

/-- A gate list at reset: every gate open, INTERVAL 1 (gate list entry table). -/
def openList : Nat := packFields 32 (List.replicate 256 0x1FF)

/-- 64 queue records at reset: WEIGHT 16, CBS 64, PBS 64 (queue record table). -/
def defaultQueues : Nat := packFields 128 (List.replicate 64 (16 + 64 * 2 ^ 48 + 64 * 2 ^ 64))

/-- 0x1000 identity. -/
def identEntries : List Entry := [
  ⟨0, .u8, .const, .slice, false, .any, fun _ => 9⟩,
  ⟨1, (.str 16), .const, .slice, false, .any, fun _ => 120325194016084⟩,
  ⟨2, (.str 16), .const, .slice, false, .any, fun _ => 61814011937871⟩,
  ⟨3, .u16, .const, .slice, false, .any, fun _ => Config.dieRev % 65536⟩,
  ⟨4, (.octets 16), .const, .slice, false, .any, fun _ => 0⟩,
  ⟨5, .enum8, .ro, .slice, false, .any, fun _ => 0⟩,
  ⟨6, .u32, .ro, .slice, false, .any, fun _ => 0⟩,
  ⟨7, .enum8, .ro, .slice, false, .any, fun _ => 0⟩,
  ⟨8, .u64, .ro, .slice, false, .any, fun _ => 0⟩,
  ⟨9, .u64, .ro, .slice, false, .any, fun _ => 0⟩]

/-- 0x1010 + i, management Ethernet port i (i = 0, 1). -/
def ethEntries : List Entry := [
  ⟨0, .u8, .const, .fm, false, .any, fun _ => 8⟩,
  ⟨1, .bool, .rw, .fm, true, .any, fun _ => 1⟩,
  ⟨2, (.octets 6), .const, .fm, false, .any, fun _ => 0⟩,
  ⟨3, .u32, .rw, .fm, true, .any, fun _ => 0⟩,
  ⟨4, .u32, .rw, .fm, true, .any, fun _ => 0⟩,
  ⟨5, .u32, .rw, .fm, true, .any, fun _ => 0⟩,
  ⟨6, .u16, .rw, .fm, true, .any, fun _ => 0⟩,
  ⟨7, .u32, .ro, .fm, false, .any, fun _ => 0⟩,
  ⟨8, .bool, .ro, .fm, false, .any, fun _ => 0⟩]

/-- 0x1020 Preoc service. -/
def preocEntries : List Entry := [
  ⟨0, .u8, .const, .fm, false, .any, fun _ => 7⟩,
  ⟨1, .u16, .rw, .fm, true, .any, fun _ => 47310⟩,
  ⟨2, .u32, .rw, .fm, true, .span 100 600000, fun _ => 3000⟩,
  ⟨3, .u16, .rw, .fm, true, .span 10 10000, fun _ => 50⟩,
  ⟨4, .u8, .rw, .fm, true, .span 1 32, fun _ => 8⟩,
  ⟨5, .bool, .rw, .fm, true, .any, fun _ => 1⟩,
  ⟨6, .u8, .ro, .fm, false, .any, fun _ => 0⟩,
  ⟨7, .u32, .ro, .fm, false, .any, fun _ => 0⟩]

/-- 0x1030 + k, Preoc session k (k = 0 to 7). -/
def sessEntries : List Entry := [
  ⟨0, .u8, .const, .fm, false, .any, fun _ => 7⟩,
  ⟨1, .enum8, .ro, .fm, false, .any, fun _ => 0⟩,
  ⟨2, .enum8, .ro, .fm, false, .any, fun _ => 0⟩,
  ⟨3, .u32, .ro, .fm, false, .any, fun _ => 0⟩,
  ⟨4, .u16, .ro, .fm, false, .any, fun _ => 0⟩,
  ⟨5, .bits32, .rw, .fm, false, .bits 31, fun _ => 0⟩,
  ⟨6, .u32, .ro, .fm, false, .any, fun _ => 0⟩,
  ⟨7, .bool, .wo, .fm, false, .any, fun _ => 0⟩]

/-- 0x1040 MCTP. -/
def mctpEntries : List Entry := [
  ⟨0, .u8, .const, .fm, false, .any, fun _ => 7⟩,
  ⟨1, .u8, .rw, .fm, true, .any, fun _ => 0⟩,
  ⟨2, .u8, .ro, .fm, false, .any, fun _ => 0⟩,
  ⟨3, .enum8, .rw, .fm, true, .oneOf [0, 1], fun _ => 1⟩,
  ⟨4, .u8, .rw, .fm, true, .span 0 127, fun _ => 98⟩,
  ⟨5, .bool, .rw, .fm, true, .any, fun _ => 1⟩,
  ⟨6, .u8, .rw, .fm, true, .spanOr 0 63 255, fun _ => 255⟩,
  ⟨7, .u32, .ro, .fm, false, .any, fun _ => 0⟩]

/-- 0x1050 SPDM. -/
def spdmEntries : List Entry := [
  ⟨0, .u8, .const, .fm, false, .any, fun _ => 3⟩,
  ⟨1, .u8, .const, .slice, false, .any, fun _ => 18⟩,
  ⟨2, .u8, .ro, .fm, false, .any, fun _ => 1⟩,
  ⟨3, (.octets 48), .rw, .fm, true, .any, fun _ => 0⟩]

/-- 0x1060 + m, management fabric window MWm (m = 0 to 15). -/
def mwEntries : List Entry := [
  ⟨0, .u8, .const, .fm, false, .any, fun _ => 7⟩,
  ⟨1, .bool, .rw, .fm, true, .any, fun _ => 0⟩,
  ⟨2, .u64, .rw, .fm, true, .multiple 4096 4503599627370496, fun _ => 0⟩,
  ⟨3, .u32, .rw, .fm, true, .span 1 262144, fun _ => 0⟩,
  ⟨4, .enum8, .rw, .fm, true, .oneOf [0, 1, 2], fun _ => 0⟩,
  ⟨5, .u8, .rw, .fm, true, .oneOf [2, 4, 8], fun _ => 8⟩,
  ⟨6, .u16, .rw, .fm, true, .span 0 4095, fun _ => 0⟩,
  ⟨7, .u32, .ro, .fm, false, .any, fun _ => 0⟩]

/-- 0x1080 event log. -/
def logEntries : List Entry := [
  ⟨0, .u8, .const, .fm, false, .any, fun _ => 6⟩,
  ⟨1, .u32, .ro, .fm, false, .any, fun _ => 0⟩,
  ⟨2, .u32, .ro, .fm, false, .any, fun _ => 0⟩,
  ⟨3, .u32, .ro, .fm, false, .any, fun _ => 0⟩,
  ⟨4, (.octets 33554432), .ro, .fm, false, .any, fun _ => 0⟩,
  ⟨5, .u16, .rw, .fm, true, .span 10 10000, fun _ => 1000⟩,
  ⟨6, .bool, .wo, .fm, false, .any, fun _ => 0⟩]

/-- 0x10A0 firmware and settings image. -/
def fwEntries : List Entry := [
  ⟨0, .u8, .const, .fm, false, .any, fun _ => 12⟩,
  ⟨1, .enum8, .ro, .slice, false, .any, fun _ => 0⟩,
  ⟨2, .enum8, .rw, .fm, false, .oneOf [0, 1], fun _ => 0⟩,
  ⟨3, .u32, .ro, .slice, false, .any, fun _ => 0⟩,
  ⟨4, .u32, .ro, .slice, false, .any, fun _ => 0⟩,
  ⟨5, .u8, .ro, .fm, false, .any, fun _ => 0⟩,
  ⟨6, .bool, .wo, .fm, false, .any, fun _ => 0⟩,
  ⟨7, (.octets 16777216), .wo, .fm, false, .any, fun _ => 0⟩,
  ⟨8, .enum8, .rw, .fm, false, .oneOf [1], fun _ => 0⟩,
  ⟨9, .enum8, .wo, .fm, false, .oneOf [1, 2], fun _ => 0⟩,
  ⟨10, .bool, .wo, .fm, false, .any, fun _ => 0⟩,
  ⟨11, .bool, .wo, .fm, false, .any, fun _ => 0⟩,
  ⟨12, .u32, .ro, .fm, false, .any, fun _ => 0⟩]

/-- 0x2000 + 0x10·p + 0, port configuration. -/
def portEntries : List Entry := [
  ⟨0, .u8, .const, .fm, false, .any, fun _ => 10⟩,
  ⟨1, .bool, .rw, .fm, true, .any, fun _ => 0⟩,
  ⟨2, .enum8, .rw, .fm, true, .oneOf [0, 1, 2], fun _ => 0⟩,
  ⟨3, .enum8, .rw, .fm, true, .oneOf [0, 1, 2, 3, 4, 5, 6], fun _ => 6⟩,
  ⟨4, .enum8, .rw, .fm, true, .oneOf [0, 1], fun _ => 0⟩,
  ⟨5, .enum8, .rw, .fm, true, .oneOf [0, 1, 2, 3], fun _ => 0⟩,
  ⟨6, .u16, .rw, .fm, true, .multiple 16 4096, fun i => 2048 + 16 * i⟩,
  ⟨7, .enum8, .rw, .fm, true, .oneOf [0, 1, 2, 3, 4], fun _ => 0⟩,
  ⟨8, .enum8, .rw, .fm, true, .oneOf [0, 1, 2, 3], fun _ => 0⟩,
  ⟨9, .u32, .rw, .fm, true, .span 50 4000000, fun _ => 50000⟩,
  ⟨10, .u8, .rw, .fm, true, .spanOr 0 63 255, fun _ => 255⟩]

/-- 0x2000 + 0x10·p + 1, port status. -/
def portStatEntries : List Entry := [
  ⟨0, .u8, .const, .fm, false, .any, fun _ => 7⟩,
  ⟨1, .enum8, .ro, .fm, false, .any, fun _ => 0⟩,
  ⟨2, .enum8, .ro, .fm, false, .any, fun _ => 0⟩,
  ⟨3, .u8, .ro, .fm, false, .any, fun _ => 0⟩,
  ⟨4, .enum8, .ro, .fm, false, .any, fun _ => 0⟩,
  ⟨5, .bool, .ro, .fm, false, .any, fun _ => 0⟩,
  ⟨6, .enum8, .ro, .fm, false, .any, fun _ => 0⟩,
  ⟨7, .u8, .ro, .fm, false, .any, fun _ => 0⟩]

/-- 0x2000 + 0x10·p + 2, port IDE. -/
def portIdeEntries : List Entry := [
  ⟨0, .u8, .const, .fm, false, .any, fun _ => 8⟩,
  ⟨1, .bool, .rw, .fm, true, .any, fun _ => 0⟩,
  ⟨2, .bool, .rw, .fm, true, .any, fun _ => 0⟩,
  ⟨3, .enum8, .rw, .fm, false, .oneOf [0, 1, 2, 3], fun _ => 0⟩,
  ⟨4, (.octets 32), .wo, .fm, false, .any, fun _ => 0⟩,
  ⟨5, (.octets 8), .wo, .fm, false, .any, fun _ => 0⟩,
  ⟨6, .bool, .wo, .fm, false, .any, fun _ => 0⟩,
  ⟨7, .bits32, .ro, .fm, false, .any, fun _ => 0⟩,
  ⟨8, .u32, .ro, .fm, false, .any, fun _ => 0⟩]

/-- 0x2000 + 0x10·p + 3, port error counts. -/
def portErrEntries : List Entry := [
  ⟨0, .u8, .const, .fm, false, .any, fun _ => 7⟩,
  ⟨1, .u32, .ro, .fm, false, .any, fun _ => 0⟩,
  ⟨2, .u32, .ro, .fm, false, .any, fun _ => 0⟩,
  ⟨3, .u32, .ro, .fm, false, .any, fun _ => 0⟩,
  ⟨4, .u32, .ro, .fm, false, .any, fun _ => 0⟩,
  ⟨5, .u32, .ro, .fm, false, .any, fun _ => 0⟩,
  ⟨6, .u32, .ro, .fm, false, .any, fun _ => 0⟩,
  ⟨7, .u32, .ro, .fm, false, .any, fun _ => 0⟩]

/-- 0x2000 + 0x10·p + 4, port control. -/
def portCtlEntries : List Entry := [
  ⟨0, .u8, .const, .fm, false, .any, fun _ => 4⟩,
  ⟨1, .enum8, .wo, .fm, false, .oneOf [1, 2, 3, 4], fun _ => 0⟩,
  ⟨2, .bool, .rw, .fm, false, .any, fun _ => 1⟩,
  ⟨3, .u8, .rw, .fm, true, .spanOr 0 31 255, fun _ => 255⟩,
  ⟨4, .u32, .rw, .fm, true, .span 10 100000, fun _ => 1000⟩]

/-- 0x3C00 edge bridge and binding. -/
def bridgeEntries : List Entry := [
  ⟨0, .u8, .const, .fm, false, .any, fun _ => 6⟩,
  ⟨1, .u8, .ro, .fm, false, .any, fun _ => 0⟩,
  ⟨2, .u16, .ro, .fm, false, .any, fun _ => 0⟩,
  ⟨3, .u16, .ro, .fm, false, .any, fun _ => 4096⟩,
  ⟨4, (.octets 8), .wo, .fm, false, .any, fun _ => 0⟩,
  ⟨5, .enum8, .ro, .fm, false, .any, fun _ => 0⟩,
  ⟨6, .u8, .ro, .fm, false, .any, fun _ => 0⟩]

/-- 0x3C01 translation table. -/
def xlateEntries : List Entry := [
  ⟨0, .u8, .const, .fm, false, .any, fun _ => 1⟩,
  ⟨1, (.octets 32768), .rw, .fm, true, .any, fun _ => 0⟩]

/-- 0x3C40 + v, virtual switch v (v = 0 to 63). -/
def vcsEntries : List Entry := [
  ⟨0, .u8, .const, .fm, false, .any, fun _ => 5⟩,
  ⟨1, .bool, .rw, .fm, true, .any, fun _ => 0⟩,
  ⟨2, .u8, .rw, .fm, true, .spanOr 0 63 255, fun _ => 255⟩,
  ⟨3, .u16, .rw, .fm, true, .span 0 1023, fun _ => 0⟩,
  ⟨4, .u16, .rw, .fm, true, .span 0 256, fun _ => 0⟩,
  ⟨5, .enum8, .ro, .fm, false, .any, fun _ => 0⟩]

/-- 0x3C80 + i, vPPBs 8·i to 8·i + 7 (i = 0 to 127). -/
def vppbEntries : List Entry := [
  ⟨0, .u8, .const, .fm, false, .any, fun _ => 8⟩,
  ⟨1, .u64, .ro, .fm, false, .any, fun _ => 0⟩,
  ⟨2, .u64, .ro, .fm, false, .any, fun _ => 0⟩,
  ⟨3, .u64, .ro, .fm, false, .any, fun _ => 0⟩,
  ⟨4, .u64, .ro, .fm, false, .any, fun _ => 0⟩,
  ⟨5, .u64, .ro, .fm, false, .any, fun _ => 0⟩,
  ⟨6, .u64, .ro, .fm, false, .any, fun _ => 0⟩,
  ⟨7, .u64, .ro, .fm, false, .any, fun _ => 0⟩,
  ⟨8, .u64, .ro, .fm, false, .any, fun _ => 0⟩]

/-- 0x2400 + n, lane Ln (n = 0 to 287). -/
def laneEntries : List Entry := [
  ⟨0, .u8, .const, .fm, false, .any, fun _ => 26⟩,
  ⟨1, .enum8, .rw, .fm, false, .oneOf [0, 1], fun _ => 0⟩,
  ⟨2, .enum8, .rw, .fm, false, .span 0 6, fun _ => 4⟩,
  ⟨3, .bits32, .rw, .fm, true, .bits 16777215, fun _ => 12288⟩,
  ⟨4, .enum8, .rw, .fm, true, .span 0 10, fun _ => 4⟩,
  ⟨5, .bool, .rw, .fm, true, .any, fun _ => 0⟩,
  ⟨6, .bool, .rw, .fm, true, .any, fun _ => 0⟩,
  ⟨7, .enum8, .rw, .fm, false, .oneOf [0, 1, 2, 3], fun _ => 0⟩,
  ⟨8, .enum8, .rw, .fm, false, .span 0 6, fun _ => 0⟩,
  ⟨9, .enum8, .rw, .fm, false, .span 0 5, fun _ => 0⟩,
  ⟨10, .enum8, .ro, .fm, false, .any, fun _ => 0⟩,
  ⟨11, .u32, .ro, .fm, false, .any, fun _ => 0⟩,
  ⟨12, .u64, .ro, .fm, false, .any, fun _ => 0⟩,
  ⟨13, .u64, .ro, .fm, false, .any, fun _ => 0⟩,
  ⟨14, .bool, .wo, .fm, false, .any, fun _ => 0⟩,
  ⟨15, .bool, .wo, .fm, false, .any, fun _ => 0⟩,
  ⟨16, .u64, .ro, .fm, false, .any, fun _ => 0⟩,
  ⟨17, .u64, .ro, .fm, false, .any, fun _ => 0⟩,
  ⟨18, .u64, .ro, .fm, false, .any, fun _ => 0⟩,
  ⟨19, .bool, .wo, .fm, false, .any, fun _ => 0⟩,
  ⟨20, .u64, .rw, .fm, false, .any, fun _ => 9104655670727189955⟩,
  ⟨21, .bool, .wo, .fm, false, .any, fun _ => 0⟩,
  ⟨22, .u8, .ro, .fm, false, .any, fun _ => 0⟩,
  ⟨23, .enum8, .ro, .fm, false, .any, fun _ => 0⟩,
  ⟨24, .bool, .rw, .fm, false, .any, fun _ => 0⟩,
  ⟨25, .enum8, .ro, .fm, false, .any, fun _ => 0⟩,
  ⟨26, .bool, .ro, .fm, false, .any, fun _ => 0⟩]

/-- 0x2580 + b, lane block LBb (b = 0 to 35). -/
def blkEntries : List Entry := [
  ⟨0, .u8, .const, .fm, false, .any, fun _ => 6⟩,
  ⟨1, .enum8, .rw, .fm, true, .oneOf [0, 1, 2], fun _ => 0⟩,
  ⟨2, .enum8, .ro, .fm, false, .any, fun _ => 0⟩,
  ⟨3, .s32, .ro, .fm, false, .any, fun _ => 0⟩,
  ⟨4, .u32, .ro, .fm, false, .any, fun _ => 0⟩,
  ⟨5, .u32, .ro, .fm, false, .any, fun _ => 0⟩,
  ⟨6, .u16, .ro, .fm, false, .any, fun _ => 0⟩]

/-- 0x2600 Epyaro link logic. -/
def seamEntries : List Entry := [
  ⟨0, .u8, .const, .fm, false, .any, fun _ => 3⟩,
  ⟨1, .enum8, .rw, .fm, true, .oneOf [0, 1, 2], fun _ => 1⟩,
  ⟨2, .u16, .const, .fm, false, .any, fun _ => 16384⟩,
  ⟨3, .u16, .const, .fm, false, .any, fun _ => 2048⟩]

/-- 0x2610 + s, seam s configuration (s = 0, 1). -/
def seamCfgEntries : List Entry := [
  ⟨0, .u8, .const, .fm, false, .any, fun _ => 18⟩,
  ⟨1, .bool, .rw, .fm, true, .any, fun _ => 0⟩,
  ⟨2, .enum8, .rw, .fm, true, .oneOf [0, 1], fun _ => 0⟩,
  ⟨3, .enum8, .rw, .fm, true, .oneOf [4, 5, 6], fun _ => 6⟩,
  ⟨4, .u8, .rw, .fm, true, .any, fun i => if i = 0 then 15 else 3⟩,
  ⟨5, .u8, .rw, .fm, true, .span 2 8, fun _ => 6⟩,
  ⟨6, .u64, .rw, .fm, true, .any, fun _ => 216178296902254848⟩,
  ⟨7, (.octets 16), .rw, .fm, true, .any, fun _ => 1237977820523095037434660864⟩,
  ⟨8, .u16, .rw, .fm, true, .span 500 16000, fun _ => 2000⟩,
  ⟨9, .u16, .rw, .fm, true, .span 16 1024, fun _ => 64⟩,
  ⟨10, .bool, .rw, .fm, true, .any, fun _ => 1⟩,
  ⟨11, .u32, .rw, .fm, true, .any, fun _ => 1000⟩,
  ⟨12, .bool, .rw, .fm, true, .any, fun _ => 0⟩,
  ⟨13, .bool, .rw, .fm, false, .any, fun _ => 0⟩,
  ⟨14, .bool, .wo, .fm, false, .any, fun _ => 0⟩,
  ⟨15, .enum8, .wo, .fm, false, .oneOf [1, 2, 3, 4], fun _ => 0⟩,
  ⟨16, .u8, .rw, .fm, false, .any, fun _ => 0⟩,
  ⟨17, .u16, .rw, .fm, true, .any, fun _ => 0⟩,
  ⟨18, .u16, .rw, .fm, true, .any, fun _ => 0⟩]

/-- 0x2620 + s, seam s status. -/
def seamStatEntries : List Entry := [
  ⟨0, .u8, .const, .fm, false, .any, fun _ => 14⟩,
  ⟨1, .enum8, .ro, .fm, false, .any, fun _ => 0⟩,
  ⟨2, .enum8, .ro, .fm, false, .any, fun _ => 0⟩,
  ⟨3, .u8, .ro, .fm, false, .any, fun _ => 0⟩,
  ⟨4, .u8, .ro, .fm, false, .any, fun _ => 0⟩,
  ⟨5, .u8, .w1c, .fm, false, .any, fun _ => 0⟩,
  ⟨6, (.octets 16), .ro, .fm, false, .any, fun _ => 0⟩,
  ⟨7, .u16, .ro, .fm, false, .any, fun _ => 0⟩,
  ⟨8, .u16, .ro, .fm, false, .any, fun _ => 0⟩,
  ⟨9, .u16, .ro, .fm, false, .any, fun _ => 0⟩,
  ⟨10, .u16, .ro, .fm, false, .any, fun _ => 0⟩,
  ⟨11, .u32, .ro, .fm, false, .any, fun _ => 0⟩,
  ⟨12, (.octets 16), .ro, .fm, false, .any, fun _ => 0⟩,
  ⟨13, .enum8, .ro, .fm, false, .any, fun _ => 0⟩,
  ⟨14, (.octets 128), .ro, .fm, false, .any, fun _ => 0⟩]

/-- 0x2630 + s, seam s counts. -/
def seamCntEntries : List Entry := [
  ⟨0, .u8, .const, .fm, false, .any, fun _ => 11⟩,
  ⟨1, .u64, .ro, .fm, false, .any, fun _ => 0⟩,
  ⟨2, .u64, .ro, .fm, false, .any, fun _ => 0⟩,
  ⟨3, .u64, .ro, .fm, false, .any, fun _ => 0⟩,
  ⟨4, .u32, .ro, .fm, false, .any, fun _ => 0⟩,
  ⟨5, .u32, .ro, .fm, false, .any, fun _ => 0⟩,
  ⟨6, .u32, .ro, .fm, false, .any, fun _ => 0⟩,
  ⟨7, .u32, .ro, .fm, false, .any, fun _ => 0⟩,
  ⟨8, .u32, .ro, .fm, false, .any, fun _ => 0⟩,
  ⟨9, .u32, .ro, .fm, false, .any, fun _ => 0⟩,
  ⟨10, .u64, .ro, .fm, false, .any, fun _ => 0⟩,
  ⟨11, .u64, .ro, .fm, false, .any, fun _ => 0⟩]

/-- 0x2800 fabric core and bolt store. -/
def fabEntries : List Entry := [
  ⟨0, .u8, .const, .fm, false, .any, fun _ => 14⟩,
  ⟨1, (.octets 8), .rw, .fm, true, .any, fun _ => 0⟩,
  ⟨2, .enum8, .ro, .fm, false, .any, fun _ => 0⟩,
  ⟨3, .u32, .rw, .fm, true, .span 0 4194304, fun _ => 1048576⟩,
  ⟨4, .u64, .rw, .fm, true, .any, fun _ => 18446744069414584320⟩,
  ⟨5, .u64, .rw, .fm, true, .any, fun _ => 18446744073709551615⟩,
  ⟨6, .bits32, .rw, .fm, true, .bits 7, fun _ => 7⟩,
  ⟨7, .u32, .rw, .fm, true, .span 1 65536, fun _ => 64⟩,
  ⟨8, .u32, .rw, .fm, true, .span 1 65536, fun _ => 8192⟩,
  ⟨9, .u32, .rw, .fm, true, .any, fun _ => 262144⟩,
  ⟨10, .u32, .ro, .fm, false, .any, fun _ => 33554432⟩,
  ⟨11, .u32, .ro, .fm, false, .any, fun _ => 33554432⟩,
  ⟨12, .u32, .ro, .fm, false, .any, fun _ => 33554432⟩,
  ⟨13, .bool, .wo, .fm, false, .any, fun _ => 0⟩,
  ⟨14, .u64, .ro, .fm, false, .any, fun _ => 0⟩]

/-- 0x2801 admission. -/
def admEntries : List Entry := [
  ⟨0, .u8, .const, .fm, false, .any, fun _ => 1⟩,
  ⟨1, (.octets 64), .rw, .fm, true, .any, fun _ => 315477833645708167048800588193078732411279195778644550064083798675806212472318752395338218780397727710353690780858495314205973713222272234033732917790214⟩]

/-- 0x2808 + d, bolt store die Qd (d = 0 to 7). -/
def dieEntries : List Entry := [
  ⟨0, .u8, .const, .fm, false, .any, fun _ => 7⟩,
  ⟨1, .enum8, .ro, .fm, false, .any, fun _ => 0⟩,
  ⟨2, .u32, .ro, .fm, false, .any, fun _ => 0⟩,
  ⟨3, .u32, .ro, .fm, false, .any, fun _ => 0⟩,
  ⟨4, .u32, .ro, .fm, false, .any, fun _ => 0⟩,
  ⟨5, .u32, .ro, .fm, false, .any, fun _ => 0⟩,
  ⟨6, .u64, .ro, .fm, false, .any, fun _ => 0⟩,
  ⟨7, .u64, .ro, .fm, false, .any, fun _ => 0⟩]

/-- 0x2810 + q, quadrant QDq (q = 0 to 3). -/
def quadEntries : List Entry := [
  ⟨0, .u8, .const, .fm, false, .any, fun _ => 9⟩,
  ⟨1, .u64, .ro, .fm, false, .any, fun _ => 0⟩,
  ⟨2, .u64, .ro, .fm, false, .any, fun _ => 0⟩,
  ⟨3, .u64, .ro, .fm, false, .any, fun _ => 0⟩,
  ⟨4, .u64, .ro, .fm, false, .any, fun _ => 0⟩,
  ⟨5, .u64, .ro, .fm, false, .any, fun _ => 0⟩,
  ⟨6, .u64, .ro, .fm, false, .any, fun _ => 0⟩,
  ⟨7, .u64, .ro, .fm, false, .any, fun _ => 0⟩,
  ⟨8, .u32, .ro, .fm, false, .any, fun _ => 0⟩,
  ⟨9, .u64, .ro, .fm, false, .any, fun _ => 0⟩]

/-- 0x2820 + i, mirror selector i (i = 0 to 7). -/
def mirEntries : List Entry := [
  ⟨0, .u8, .const, .fm, false, .any, fun _ => 8⟩,
  ⟨1, .bool, .rw, .fm, true, .any, fun _ => 0⟩,
  ⟨2, .u8, .rw, .fm, true, .span 0 66, fun _ => 0⟩,
  ⟨3, .enum8, .rw, .fm, true, .oneOf [0, 1], fun _ => 0⟩,
  ⟨4, .u64, .rw, .fm, true, .any, fun _ => 18446744073709551615⟩,
  ⟨5, .u16, .rw, .fm, true, .spanOr 0 4095 65535, fun _ => 65535⟩,
  ⟨6, .u32, .rw, .fm, true, .span 1 65536, fun _ => 1024⟩,
  ⟨7, .u64, .ro, .fm, false, .any, fun _ => 0⟩,
  ⟨8, .u32, .ro, .fm, false, .any, fun _ => 0⟩]

/-- 0x2830 mirror ring. -/
def mirRingEntries : List Entry := [
  ⟨0, .u8, .const, .fm, false, .any, fun _ => 3⟩,
  ⟨1, .u32, .ro, .fm, false, .any, fun _ => 0⟩,
  ⟨2, .u32, .rw, .fm, false, .any, fun _ => 0⟩,
  ⟨3, (.octets 163840), .ro, .fm, false, .any, fun _ => 0⟩]

/-- 0x2900 NoC. -/
def nocEntries : List Entry := [
  ⟨0, .u8, .const, .fm, false, .any, fun _ => 7⟩,
  ⟨1, .bits32, .ro, .fm, false, .any, fun _ => 0⟩,
  ⟨2, .u32, .rw, .fm, true, .span 64 65535, fun _ => 4096⟩,
  ⟨3, .bool, .wo, .fm, false, .any, fun _ => 0⟩,
  ⟨4, .u64, .ro, .fm, false, .any, fun _ => 0⟩,
  ⟨5, .u32, .ro, .fm, false, .any, fun _ => 0⟩,
  ⟨6, .u32, .ro, .fm, false, .any, fun _ => 0⟩,
  ⟨7, .u32, .ro, .fm, false, .any, fun _ => 0⟩]

/-- 0x2901 + v, urgency thresholds of virtual network v (v = 0 to 5). -/
def nocAgeEntries : List Entry := [
  ⟨0, .u8, .const, .fm, false, .any, fun _ => 3⟩,
  ⟨1, .u16, .rw, .fm, true, .any, fun i => [4, 2, 2, 2, 16, 16].getD i 0⟩,
  ⟨2, .u16, .rw, .fm, true, .any, fun i => [16, 8, 8, 8, 64, 64].getD i 0⟩,
  ⟨3, .u16, .rw, .fm, true, .any, fun i => [64, 32, 32, 32, 256, 256].getD i 0⟩]

/-- 0x2910 + e, statistics of endpoint e (e = 0 to 31). -/
def nocStatEntries : List Entry := [
  ⟨0, .u8, .const, .fm, false, .any, fun _ => 10⟩,
  ⟨1, .u64, .ro, .fm, false, .any, fun _ => 0⟩,
  ⟨2, .u64, .ro, .fm, false, .any, fun _ => 0⟩,
  ⟨3, .u64, .ro, .fm, false, .any, fun _ => 0⟩,
  ⟨4, .u16, .ro, .fm, false, .any, fun _ => 0⟩,
  ⟨5, .u32, .ro, .fm, false, .any, fun _ => 0⟩,
  ⟨6, .u64, .ro, .fm, false, .any, fun _ => 0⟩,
  ⟨7, .u64, .ro, .fm, false, .any, fun _ => 0⟩,
  ⟨8, .u64, .ro, .fm, false, .any, fun _ => 0⟩,
  ⟨9, .u64, .ro, .fm, false, .any, fun _ => 0⟩,
  ⟨10, .bool, .wo, .fm, false, .any, fun _ => 0⟩]

/-- 0x3000 coherence engine. -/
def cohEntries : List Entry := [
  ⟨0, .u8, .const, .fm, false, .any, fun _ => 12⟩,
  ⟨1, .enum8, .ro, .fm, false, .any, fun _ => 0⟩,
  ⟨2, .u8, .ro, .fm, false, .any, fun _ => 24⟩,
  ⟨3, .u16, .rw, .fm, true, .span 16 4096, fun _ => 256⟩,
  ⟨4, .u16, .rw, .fm, true, .span 1 1024, fun _ => 32⟩,
  ⟨5, .u8, .const, .fm, false, .any, fun _ => 8⟩,
  ⟨6, .u16, .rw, .fm, true, .span 64 16384, fun _ => 512⟩,
  ⟨7, .u32, .rw, .fm, true, .span 10 100000, fun _ => 100⟩,
  ⟨8, .u8, .const, .fm, false, .any, fun _ => 64⟩,
  ⟨9, .u16, .const, .fm, false, .any, fun _ => 8192⟩,
  ⟨10, .u8, .rw, .fm, false, .span 0 3, fun _ => 0⟩,
  ⟨11, .u32, .rw, .fm, false, .any, fun _ => 0⟩,
  ⟨12, (.octets 16), .ro, .fm, false, .any, fun _ => 0⟩]

/-- 0x3001 + c, coherence slice CEc (c = 0 to 3). -/
def ceEntries : List Entry := [
  ⟨0, .u8, .const, .fm, false, .any, fun _ => 18⟩,
  ⟨1, .enum8, .ro, .fm, false, .any, fun _ => 0⟩,
  ⟨2, .u64, .ro, .fm, false, .any, fun _ => 0⟩,
  ⟨3, .u64, .ro, .fm, false, .any, fun _ => 0⟩,
  ⟨4, .u64, .ro, .fm, false, .any, fun _ => 0⟩,
  ⟨5, .u64, .ro, .fm, false, .any, fun _ => 0⟩,
  ⟨6, .u64, .ro, .fm, false, .any, fun _ => 0⟩,
  ⟨7, .u32, .ro, .fm, false, .any, fun _ => 0⟩,
  ⟨8, .u32, .ro, .fm, false, .any, fun _ => 0⟩,
  ⟨9, .u32, .ro, .fm, false, .any, fun _ => 0⟩,
  ⟨10, .u32, .ro, .fm, false, .any, fun _ => 0⟩,
  ⟨11, .u32, .ro, .fm, false, .any, fun _ => 0⟩,
  ⟨12, .u16, .ro, .fm, false, .any, fun _ => 0⟩,
  ⟨13, .u64, .ro, .fm, false, .any, fun _ => 0⟩,
  ⟨14, .u64, .ro, .fm, false, .any, fun _ => 0⟩,
  ⟨15, .u32, .ro, .fm, false, .any, fun _ => 0⟩,
  ⟨16, .u32, .ro, .fm, false, .any, fun _ => 0⟩,
  ⟨17, .u32, .ro, .fm, false, .any, fun _ => 0⟩,
  ⟨18, .u64, .ro, .fm, false, .any, fun _ => 0⟩]

/-- 0x3100 home line cache and atomics. -/
def hlcEntries : List Entry := [
  ⟨0, .u8, .const, .fm, false, .any, fun _ => 8⟩,
  ⟨1, .bool, .rw, .fm, true, .any, fun _ => 0⟩,
  ⟨2, .u8, .rw, .fm, true, .span 1 15, fun _ => 8⟩,
  ⟨3, .u8, .rw, .fm, true, .span 0 16, fun _ => 1⟩,
  ⟨4, .bool, .rw, .fm, true, .any, fun _ => 0⟩,
  ⟨5, .bool, .wo, .fm, false, .any, fun _ => 0⟩,
  ⟨6, .enum8, .ro, .fm, false, .any, fun _ => 0⟩,
  ⟨7, .enum8, .ro, .fm, false, .any, fun _ => 0⟩,
  ⟨8, .u32, .ro, .fm, false, .any, fun _ => 0⟩]

/-- 0x3110 + c, slice CEc line cache, atomics and loss counts (c = 0 to 3). -/
def ceHlcEntries : List Entry := [
  ⟨0, .u8, .const, .fm, false, .any, fun _ => 12⟩,
  ⟨1, .u32, .ro, .fm, false, .any, fun _ => 0⟩,
  ⟨2, .u64, .ro, .fm, false, .any, fun _ => 0⟩,
  ⟨3, .u64, .ro, .fm, false, .any, fun _ => 0⟩,
  ⟨4, .u64, .ro, .fm, false, .any, fun _ => 0⟩,
  ⟨5, .u64, .ro, .fm, false, .any, fun _ => 0⟩,
  ⟨6, .u64, .ro, .fm, false, .any, fun _ => 0⟩,
  ⟨7, .u64, .ro, .fm, false, .any, fun _ => 0⟩,
  ⟨8, .u32, .ro, .fm, false, .any, fun _ => 0⟩,
  ⟨9, .u32, .ro, .fm, false, .any, fun _ => 0⟩,
  ⟨10, .u64, .ro, .fm, false, .any, fun _ => 0⟩,
  ⟨11, .u32, .ro, .fm, false, .any, fun _ => 0⟩,
  ⟨12, .u32, .ro, .fm, false, .any, fun _ => 0⟩]

/-- 0x3102 lost-line log. -/
def lostLogEntries : List Entry := [
  ⟨0, .u8, .const, .fm, false, .any, fun _ => 7⟩,
  ⟨1, .u32, .ro, .fm, false, .any, fun _ => 0⟩,
  ⟨2, .u32, .rw, .fm, false, .any, fun _ => 0⟩,
  ⟨3, .u32, .ro, .fm, false, .any, fun _ => 0⟩,
  ⟨4, .u32, .ro, .fm, false, .any, fun _ => 0⟩,
  ⟨5, .u32, .ro, .fm, false, .any, fun _ => 0⟩,
  ⟨6, (.octets 2097152), .ro, .fm, false, .any, fun _ => 0⟩,
  ⟨7, .bool, .wo, .fm, false, .any, fun _ => 0⟩]

/-- 0x3103 caching agents and the unpick walk. -/
def agentsEntries : List Entry := [
  ⟨0, .u8, .const, .fm, false, .any, fun _ => 7⟩,
  ⟨1, .u64, .ro, .fm, false, .any, fun _ => 0⟩,
  ⟨2, .u8, .wo, .fm, false, .span 0 63, fun _ => 0⟩,
  ⟨3, .u8, .wo, .fm, false, .span 0 63, fun _ => 0⟩,
  ⟨4, .u64, .ro, .fm, false, .any, fun _ => 0⟩,
  ⟨5, .u64, .ro, .fm, false, .any, fun _ => 0⟩,
  ⟨6, .u64, .ro, .fm, false, .any, fun _ => 0⟩,
  ⟨7, .u32, .ro, .fm, false, .any, fun _ => 0⟩]

/-- 0x3104 speculative read discards. -/
def specEntries : List Entry := [
  ⟨0, .u8, .const, .fm, false, .any, fun _ => 2⟩,
  ⟨1, (.octets 4096), .ro, .fm, false, .any, fun _ => 0⟩,
  ⟨2, .bool, .wo, .fm, false, .any, fun _ => 0⟩]

/-- 0x3400 + w, pool window Ww (w = 0 to 1023). -/
def winEntries : List Entry := [
  ⟨0, .u8, .const, .fm, false, .any, fun _ => 14⟩,
  ⟨1, .bool, .rw, .fm, true, .any, fun _ => 0⟩,
  ⟨2, .u64, .rw, .fm, true, .multiple 268435456 4503599627370496, fun _ => 0⟩,
  ⟨3, .u32, .rw, .fm, true, .span 1 1048576, fun _ => 0⟩,
  ⟨4, .enum8, .rw, .fm, true, .oneOf [0, 1, 2], fun _ => 0⟩,
  ⟨5, .bool, .rw, .fm, true, .any, fun _ => 0⟩,
  ⟨6, .enum8, .rw, .fm, true, .oneOf [0, 1], fun _ => 0⟩,
  ⟨7, .enum8, .rw, .fm, true, .oneOf [0, 1], fun _ => 0⟩,
  ⟨8, .enum8, .rw, .fm, true, .oneOf [0, 1, 2, 3], fun _ => 0⟩,
  ⟨9, .u8, .rw, .fm, true, .oneOf [2, 4, 8], fun _ => 8⟩,
  ⟨10, .enum8, .rw, .fm, true, .oneOf [0, 1, 2, 3, 4], fun _ => 0⟩,
  ⟨11, .enum8, .rw, .fm, true, .oneOf [0, 1, 2, 3, 4, 5, 6], fun _ => 0⟩,
  ⟨12, (.octets 128), .rw, .fm, true, .any, fun _ => 0⟩,
  ⟨13, .enum8, .ro, .fm, false, .any, fun _ => 0⟩,
  ⟨14, .u32, .ro, .fm, false, .any, fun _ => 0⟩]

/-- 0x3800 central table. -/
def ctEntries : List Entry := [
  ⟨0, .u8, .const, .fm, false, .any, fun _ => 9⟩,
  ⟨1, .enum8, .ro, .fm, true, .any, fun _ => 0⟩,
  ⟨2, .enum8, .ro, .fm, false, .any, fun _ => 0⟩,
  ⟨3, .bool, .wo, .fm, false, .any, fun _ => 0⟩,
  ⟨4, .u32, .ro, .fm, false, .any, fun _ => 0⟩,
  ⟨5, .u32, .ro, .fm, false, .any, fun _ => 0⟩,
  ⟨6, .u32, .ro, .fm, false, .any, fun _ => 0⟩,
  ⟨7, .bool, .wo, .fm, false, .any, fun _ => 0⟩,
  ⟨8, .u64, .ro, .fm, false, .any, fun _ => 0⟩,
  ⟨9, .u64, .ro, .fm, false, .any, fun _ => 0⟩]

/-- 0x3801 central table banks. -/
def ctBankEntries : List Entry := [
  ⟨0, .u8, .const, .fm, false, .any, fun _ => 2⟩,
  ⟨1, (.octets 131072), .rw, .fm, true, .any, fun _ => 0⟩,
  ⟨2, (.octets 131072), .rw, .fm, true, .any, fun _ => 0⟩]

/-- 0x3810 + p, thimble gate of port Pp (p = 0 to 63). -/
def gateEntries : List Entry := [
  ⟨0, .u8, .const, .fm, false, .any, fun _ => 11⟩,
  ⟨1, .enum8, .rw, .fm, true, .oneOf [0, 1], fun _ => 0⟩,
  ⟨2, .enum8, .ro, .fm, true, .any, fun _ => 0⟩,
  ⟨3, .enum8, .ro, .fm, false, .any, fun _ => 0⟩,
  ⟨4, .bool, .wo, .fm, false, .any, fun _ => 0⟩,
  ⟨5, .u32, .ro, .fm, false, .any, fun _ => 0⟩,
  ⟨6, .u32, .ro, .fm, false, .any, fun _ => 0⟩,
  ⟨7, .bool, .wo, .fm, false, .any, fun _ => 0⟩,
  ⟨8, (.octets 1024), .rw, .fm, true, .any, fun _ => 0⟩,
  ⟨9, (.octets 1024), .rw, .fm, true, .any, fun _ => 0⟩,
  ⟨10, .u64, .ro, .fm, false, .any, fun _ => 0⟩,
  ⟨11, .u32, .ro, .fm, false, .any, fun _ => 0⟩]

/-- 0x4000 + s, slice Ss (s = 0 to 4095). -/
def slcEntries : List Entry := [
  ⟨0, .u8, .const, .slice, false, .any, fun _ => 25⟩,
  ⟨1, .enum8, .ro, .slice, false, .any, fun i => if i = 0 then 1 else 0⟩,
  ⟨2, .enum8, .wo, .fm, false, .oneOf [1, 2, 3, 4], fun _ => 0⟩,
  ⟨3, .u8, .rw, .fm, true, .spanOr 0 63 255, fun _ => 255⟩,
  ⟨4, (.octets 64), .rw, .fm, true, .any, fun _ => 0⟩,
  ⟨5, .u16, .ro, .slice, false, .any, fun _ => 0⟩,
  ⟨6, .bool, .rw, .fm, true, .any, fun i => if i = 0 then 1 else 0⟩,
  ⟨7, .u32, .rw, .fm, true, .any, fun i => if i = 0 then 33554432 else 0⟩,
  ⟨8, .u32, .ro, .slice, false, .any, fun _ => 0⟩,
  ⟨9, .u32, .rw, .fm, true, .any, fun i => if i = 0 then 67108864 else 0⟩,
  ⟨10, .u32, .ro, .slice, false, .any, fun _ => 0⟩,
  ⟨11, .bits32, .rw, .fm, true, .bits 1061109567, fun _ => 35651840⟩,
  ⟨12, (.octets 16), .rw, .fm, true, .any, fun _ => 0⟩,
  ⟨13, .bool, .rw, .fm, true, .any, fun _ => 0⟩,
  ⟨14, .u64, .rw, .slice, false, .bits 1099511627775, fun _ => 495620137488⟩,
  ⟨15, (.octets 128), .rw, .slice, false, .any, fun _ => maskedVectors⟩,
  ⟨16, .bits32, .w1c, .slice, false, .any, fun _ => 0⟩,
  ⟨17, .u64, .ro, .slice, false, .any, fun _ => 0⟩,
  ⟨18, .u32, .ro, .slice, false, .any, fun _ => 0⟩,
  ⟨19, .u64, .ro, .slice, false, .any, fun _ => 0⟩,
  ⟨20, .u64, .ro, .slice, false, .any, fun _ => 0⟩,
  ⟨21, .u32, .ro, .slice, false, .any, fun _ => 0⟩,
  ⟨22, .u64, .ro, .slice, false, .any, fun _ => 0⟩,
  ⟨23, .u64, .ro, .slice, false, .any, fun _ => 0⟩,
  ⟨24, .u8, .ro, .fm, false, .any, fun _ => 255⟩,
  ⟨25, .bits32, .ro, .fm, false, .any, fun _ => 0⟩]

/-- 0x2000 + 0x10·p + 5, port slice map. -/
def portMapEntries : List Entry := [
  ⟨0, .u8, .const, .fm, false, .any, fun _ => 3⟩,
  ⟨1, .u16, .rw, .fm, true, .spanOr 0 4095 65535, fun _ => 65535⟩,
  ⟨2, .u16, .ro, .fm, false, .any, fun _ => 0⟩,
  ⟨3, .u32, .ro, .fm, false, .any, fun _ => 0⟩]

/-- 0x2640 + s, seam s slice map, fabric role (s = 0, 1). -/
def seamMapEntries : List Entry := [
  ⟨0, .u8, .const, .fm, false, .any, fun _ => 3⟩,
  ⟨1, .u16, .rw, .fm, true, .spanOr 0 4095 65535, fun _ => 65535⟩,
  ⟨2, .u16, .ro, .fm, false, .any, fun _ => 0⟩,
  ⟨3, .u32, .ro, .fm, false, .any, fun _ => 0⟩]

/-- 0x5000 + s, policer and shaper of slice Ss (s = 0 to 4095). -/
def polEntries : List Entry := [
  ⟨0, .u8, .const, .slice, false, .any, fun _ => 20⟩,
  ⟨1, .enum8, .rw, .fm, true, .oneOf [0, 1, 2], fun _ => 0⟩,
  ⟨2, .enum8, .rw, .fm, true, .oneOf [0, 1, 2], fun _ => 1⟩,
  ⟨3, .bits32, .rw, .fm, true, .bits 65287, fun _ => 0⟩,
  ⟨4, .u32, .rw, .fm, true, .any, fun _ => 0⟩,
  ⟨5, .u32, .rw, .fm, true, .any, fun _ => 64⟩,
  ⟨6, .u32, .rw, .fm, true, .any, fun _ => 0⟩,
  ⟨7, .u32, .rw, .fm, true, .any, fun _ => 64⟩,
  ⟨8, .s32, .ro, .slice, false, .any, fun _ => 64⟩,
  ⟨9, .s32, .ro, .slice, false, .any, fun _ => 64⟩,
  ⟨10, .u64, .ro, .slice, false, .any, fun _ => 0⟩,
  ⟨11, .u64, .ro, .slice, false, .any, fun _ => 0⟩,
  ⟨12, .u64, .ro, .slice, false, .any, fun _ => 0⟩,
  ⟨13, .bool, .rw, .fm, true, .any, fun _ => 0⟩,
  ⟨14, .u32, .rw, .fm, true, .any, fun _ => 0⟩,
  ⟨15, .u32, .rw, .fm, true, .any, fun _ => 64⟩,
  ⟨16, .u32, .rw, .fm, true, .any, fun _ => 0⟩,
  ⟨17, .u32, .rw, .fm, true, .any, fun _ => 64⟩,
  ⟨18, .u64, .ro, .slice, false, .any, fun _ => 0⟩,
  ⟨19, .s32, .ro, .slice, false, .any, fun _ => 64⟩,
  ⟨20, .s32, .ro, .slice, false, .any, fun _ => 64⟩]

/-- 0x6000 + p, time-gate list of port Pp (p = 0 to 63). -/
def tgEntries : List Entry := [
  ⟨0, .u8, .const, .fm, false, .any, fun _ => 10⟩,
  ⟨1, .bool, .rw, .fm, true, .any, fun _ => 0⟩,
  ⟨2, (.octets 1024), .rw, .fm, true, .any, fun _ => openList⟩,
  ⟨3, .u16, .rw, .fm, true, .span 1 256, fun _ => 1⟩,
  ⟨4, .u64, .rw, .fm, true, .any, fun _ => 0⟩,
  ⟨5, .bool, .wo, .fm, false, .any, fun _ => 0⟩,
  ⟨6, .enum8, .ro, .fm, false, .any, fun _ => 0⟩,
  ⟨7, (.octets 1024), .ro, .fm, false, .any, fun _ => openList⟩,
  ⟨8, .u16, .ro, .fm, false, .any, fun _ => 1⟩,
  ⟨9, .u64, .ro, .fm, false, .any, fun _ => 0⟩,
  ⟨10, .u8, .ro, .fm, false, .any, fun _ => 0⟩]

/-- 0x6100 + p, egress queues of port Pp (p = 0 to 63). -/
def queueEntries : List Entry := [
  ⟨0, .u8, .const, .fm, false, .any, fun _ => 2⟩,
  ⟨1, (.octets 1024), .rw, .fm, true, .any, fun _ => defaultQueues⟩,
  ⟨2, .u32, .ro, .fm, false, .any, fun _ => 0⟩]

/-- 0x6140 + p, queue status of port Pp (p = 0 to 63). -/
def qStatEntries : List Entry := [
  ⟨0, .u8, .const, .fm, false, .any, fun _ => 2⟩,
  ⟨1, (.octets 2048), .ro, .fm, false, .any, fun _ => 0⟩,
  ⟨2, .u64, .ro, .fm, false, .any, fun _ => 0⟩]

/-- 0x6180 scheduling. -/
def schedEntries : List Entry := [
  ⟨0, .u8, .const, .fm, false, .any, fun _ => 3⟩,
  ⟨1, .u32, .rw, .fm, true, .span 16 65536, fun _ => 128⟩,
  ⟨2, .u32, .rw, .fm, true, .span 16 4194304, fun _ => 1024⟩,
  ⟨3, .u16, .const, .fm, false, .any, fun _ => 4096⟩]

/-- 0x6200 + i, arbiter i (i = 0 to 9, as R351). -/
def arbEntries : List Entry := [
  ⟨0, .u8, .const, .fm, false, .any, fun _ => 6⟩,
  ⟨1, .enum8, .rw, .fm, true, .oneOf [0, 1], fun _ => 0⟩,
  ⟨2, (.octets 128), .rw, .fm, true, .any, fun i => defaultWeights i⟩,
  ⟨3, .u16, .rw, .fm, true, .span 1 4096, fun _ => 16⟩,
  ⟨4, (.octets 512), .ro, .fm, false, .any, fun _ => 0⟩,
  ⟨5, .u64, .ro, .fm, false, .any, fun _ => 0⟩,
  ⟨6, .u64, .ro, .fm, false, .any, fun _ => 0⟩]

/-- 0x6800 + c, needle channel Nc (c = 0 to 127). -/
def chanEntries : List Entry := [
  ⟨0, .u8, .const, .slice, false, .any, fun _ => 18⟩,
  ⟨1, .enum8, .wo, .slice, false, .oneOf [1, 2], fun _ => 0⟩,
  ⟨2, .enum8, .ro, .slice, false, .any, fun _ => 0⟩,
  ⟨3, .enum8, .rw, .slice, false, .oneOf [0, 1], fun _ => 0⟩,
  ⟨4, .u8, .rw, .slice, false, .span 4 12, fun _ => 4⟩,
  ⟨5, .u64, .rw, .slice, false, .multiple 64 18446744073709551616, fun _ => 0⟩,
  ⟨6, .u16, .ro, .slice, false, .any, fun _ => 0⟩,
  ⟨7, .u16, .rw, .slice, false, .any, fun _ => 0⟩,
  ⟨8, (.octets 262144), .rw, .slice, false, .any, fun _ => 0⟩,
  ⟨9, .bool, .rw, .slice, false, .any, fun _ => 1⟩,
  ⟨10, .u16, .rw, .fm, true, .span 16 4096, fun _ => 512⟩,
  ⟨11, .u64, .rw, .fm, true, .multiple 4096 18446744073709551616, fun _ => 0⟩,
  ⟨12, .u64, .rw, .fm, true, .multiple 4096 4503599627370497, fun _ => 0⟩,
  ⟨13, .u64, .ro, .slice, false, .any, fun _ => 0⟩,
  ⟨14, .u32, .ro, .slice, false, .any, fun _ => 0⟩,
  ⟨15, .u64, .ro, .slice, false, .any, fun _ => 0⟩,
  ⟨16, .u8, .ro, .slice, false, .any, fun _ => 0⟩,
  ⟨17, .u16, .ro, .slice, false, .any, fun _ => 0⟩,
  ⟨18, .u32, .ro, .slice, false, .any, fun _ => 0⟩]

/-- 0x7000 twin control and state. -/
def twinEntries : List Entry := [
  ⟨0, .u8, .const, .fm, false, .any, fun _ => 13⟩,
  ⟨1, .bool, .rw, .fm, true, .any, fun _ => 0⟩,
  ⟨2, .enum8, .ro, .fm, false, .any, fun _ => 0⟩,
  ⟨3, .bool, .ro, .fm, false, .any, fun _ => 0⟩,
  ⟨4, .u64, .ro, .fm, false, .any, fun _ => 0⟩,
  ⟨5, .u64, .ro, .fm, false, .any, fun _ => 0⟩,
  ⟨6, (.octets 48), .ro, .fm, false, .any, fun _ => 0⟩,
  ⟨7, (.octets 48), .ro, .fm, false, .any, fun _ => 0⟩,
  ⟨8, .u32, .ro, .fm, false, .any, fun _ => 0⟩,
  ⟨9, (.octets 8), .wo, .fm, false, .any, fun _ => 0⟩,
  ⟨10, .bool, .rw, .fm, true, .any, fun _ => 0⟩,
  ⟨11, .u32, .rw, .fm, true, .span 10 600000, fun _ => 1000⟩,
  ⟨12, .bool, .wo, .fm, false, .any, fun _ => 0⟩,
  ⟨13, .u64, .ro, .fm, false, .any, fun _ => 0⟩]

/-- 0x7001 heartbeats. -/
def hbEntries : List Entry := [
  ⟨0, .u8, .const, .fm, false, .any, fun _ => 10⟩,
  ⟨1, .u16, .rw, .fm, true, .span 1 1000, fun _ => 8⟩,
  ⟨2, .u32, .rw, .fm, true, .span 60 100000, fun _ => 64⟩,
  ⟨3, .u8, .rw, .fm, true, .span 2 64, fun _ => 4⟩,
  ⟨4, .u16, .rw, .fm, true, .span 8 10000, fun _ => 32⟩,
  ⟨5, .bool, .ro, .fm, false, .any, fun _ => 0⟩,
  ⟨6, .enum8, .ro, .fm, false, .any, fun _ => 1⟩,
  ⟨7, .bool, .wo, .fm, false, .any, fun _ => 0⟩,
  ⟨8, .u32, .ro, .fm, false, .any, fun _ => 0⟩,
  ⟨9, .u64, .ro, .fm, false, .any, fun _ => 0⟩,
  ⟨10, .enum8, .ro, .fm, false, .any, fun _ => 0⟩]

/-- 0x7002 overlock mirror. -/
def mirrorEntries : List Entry := [
  ⟨0, .u8, .const, .fm, false, .any, fun _ => 6⟩,
  ⟨1, .u8, .const, .fm, false, .any, fun _ => 64⟩,
  ⟨2, .u64, .ro, .fm, false, .any, fun _ => 0⟩,
  ⟨3, .u64, .ro, .fm, false, .any, fun _ => 0⟩,
  ⟨4, .u16, .ro, .fm, false, .any, fun _ => 0⟩,
  ⟨5, .u64, .ro, .fm, false, .any, fun _ => 0⟩,
  ⟨6, .u64, .ro, .fm, false, .any, fun _ => 0⟩]

/-- 0x7003 fabric time between twins. -/
def timeEntries : List Entry := [
  ⟨0, .u8, .const, .fm, false, .any, fun _ => 6⟩,
  ⟨1, .u16, .rw, .fm, true, .span 1 1000, fun _ => 1⟩,
  ⟨2, .s32, .ro, .fm, false, .any, fun _ => 0⟩,
  ⟨3, .bool, .ro, .fm, false, .any, fun _ => 0⟩,
  ⟨4, .s32, .ro, .fm, false, .any, fun _ => 0⟩,
  ⟨5, .u32, .rw, .fm, true, .span 10 1000000, fun _ => 50⟩,
  ⟨6, .bool, .rw, .fm, true, .any, fun _ => 0⟩]

/-- 0x7200 + t, slot SLt (t = 0 to 31). -/
def slotEntries : List Entry := [
  ⟨0, .u8, .const, .fm, false, .any, fun i => if i = 0 then 50 else 30⟩,
  ⟨1, .bool, .rw, .fm, true, .any, fun _ => 0⟩,
  ⟨2, .enum8, .ro, .fm, false, .any, fun _ => 0⟩,
  ⟨3, .u32, .rw, .fm, true, .span 1000 50000, fun _ => 10000⟩,
  ⟨4, .u32, .rw, .fm, true, .span 2000 100000, fun _ => 30000⟩,
  ⟨5, .u32, .rw, .fm, true, .span 100 100000, fun _ => 1000⟩,
  ⟨6, .u16, .rw, .fm, true, .span 10 65535, fun _ => 2000⟩,
  ⟨7, .u8, .rw, .fm, true, .span 1 50, fun _ => 5⟩,
  ⟨8, .u8, .rw, .fm, true, .span 0 15, fun _ => 3⟩,
  ⟨9, .u16, .rw, .fm, true, .span 10 60000, fun _ => 1000⟩,
  ⟨10, .u8, .ro, .fm, false, .any, fun _ => 0⟩,
  ⟨11, .u16, .ro, .fm, false, .any, fun _ => 0⟩,
  ⟨12, .enum8, .rw, .fm, true, .oneOf [0, 1, 2], fun _ => 1⟩,
  ⟨13, .bool, .rw, .fm, true, .any, fun _ => 0⟩,
  ⟨14, .u16, .rw, .fm, true, .span 7000 11000, fun _ => 9000⟩,
  ⟨15, .u16, .rw, .fm, true, .span 1 1000, fun _ => 16⟩,
  ⟨16, .u8, .rw, .fm, true, .span 2 64, fun _ => 8⟩,
  ⟨17, .u16, .rw, .fm, true, .span 1 1000, fun _ => 10⟩,
  ⟨18, .u32, .rw, .fm, true, .span 100 600000, fun _ => 10000⟩,
  ⟨19, .enum8, .rw, .fm, true, .oneOf [0, 1, 2, 3], fun _ => 3⟩,
  ⟨20, .enum8, .rw, .fm, true, .oneOf [0, 1, 2, 3], fun _ => 3⟩,
  ⟨21, .bits32, .ro, .fm, false, .any, fun _ => 0⟩,
  ⟨22, .u8, .wo, .fm, false, .bits 7, fun _ => 0⟩,
  ⟨23, .u16, .ro, .fm, false, .any, fun _ => 0⟩,
  ⟨24, .u16, .ro, .fm, false, .any, fun _ => 0⟩,
  ⟨25, .s32, .ro, .fm, false, .any, fun _ => 0⟩,
  ⟨26, .u32, .ro, .fm, false, .any, fun _ => 0⟩,
  ⟨27, .enum8, .wo, .fm, false, .oneOf [1, 2], fun _ => 0⟩,
  ⟨28, .u32, .ro, .fm, false, .any, fun _ => 0⟩,
  ⟨29, .u8, .ro, .fm, false, .any, fun _ => 0⟩,
  ⟨30, .u64, .ro, .fm, false, .any, fun _ => 0⟩]

/-- 0x7200, die-wide subindices. -/
def slotAllEntries : List Entry := [
  ⟨48, .u8, .rw, .fm, true, .span 1 8, fun _ => 2⟩,
  ⟨49, .u8, .ro, .fm, false, .any, fun _ => 0⟩,
  ⟨50, .u32, .ro, .fm, false, .any, fun _ => 0⟩]

/-- 0x8000 + j, event source Ej (j = 0 to 1535). -/
def srcEntries : List Entry := [
  ⟨0, .u8, .const, .fm, false, .any, fun _ => 12⟩,
  ⟨1, .bits32, .w1c, .fm, false, .any, fun _ => 0⟩,
  ⟨2, .enum8, .const, .fm, false, .any, fun i => sourceClass i⟩,
  ⟨3, .bool, .rw, .fm, true, .any, fun _ => 0⟩,
  ⟨4, .u64, .ro, .fm, false, .any, fun _ => 0⟩,
  ⟨5, .u32, .ro, .fm, false, .any, fun _ => 0⟩,
  ⟨6, .u16, .rw, .fm, true, .span 1 65535, fun i => thresholdDefault i⟩,
  ⟨7, .bool, .rw, .fm, true, .any, fun i => if sourceClass i = 0 then 0 else 1⟩,
  ⟨8, .u8, .ro, .fm, false, .any, fun _ => 255⟩,
  ⟨9, .u8, .rw, .fm, true, .spanOr 2 64 0, fun i => if sourceClass i = 0 then 0 else 8⟩,
  ⟨10, .u16, .rw, .fm, true, .span 1 1000, fun _ => 10⟩,
  ⟨11, .u16, .rw, .fm, true, .span 1 10000, fun _ => 10⟩,
  ⟨12, .u64, .ro, .fm, false, .any, fun _ => 0⟩]

/-- 0x8800 fault collector. -/
def colEntries : List Entry := [
  ⟨0, .u8, .const, .fm, false, .any, fun _ => 21⟩,
  ⟨1, .u64, .w1c, .fm, false, .any, fun _ => 0⟩,
  ⟨2, (.octets 4096), .ro, .fm, false, .any, fun _ => 0⟩,
  ⟨3, .u32, .ro, .fm, false, .any, fun _ => 0⟩,
  ⟨4, .bool, .rw, .fm, true, .any, fun _ => 1⟩,
  ⟨5, (.octets 192), .ro, .fm, false, .any, fun _ => 0⟩,
  ⟨6, .bits32, .rw, .fm, true, .bits 31, fun _ => 7⟩,
  ⟨7, .bits32, .rw, .fm, true, .bits 31, fun _ => 7⟩,
  ⟨8, .bits32, .rw, .fm, true, .bits 31, fun _ => 15⟩,
  ⟨9, .bits32, .rw, .fm, true, .bits 31, fun _ => 31⟩,
  ⟨10, .bits32, .rw, .fm, true, .bits 31, fun _ => 6⟩,
  ⟨11, .enum8, .ro, .fm, false, .any, fun _ => 0⟩,
  ⟨12, .u16, .ro, .fm, false, .any, fun _ => 65535⟩,
  ⟨13, .u16, .rw, .fm, true, .span 1 10000, fun _ => 100⟩,
  ⟨14, .u8, .rw, .fm, true, .span 1 255, fun _ => 16⟩,
  ⟨15, .u64, .ro, .fm, false, .any, fun _ => 0⟩,
  ⟨16, .u16, .rw, .fm, true, .span 1 60000, fun _ => 1000⟩,
  ⟨17, .u16, .ro, .fm, false, .any, fun _ => 0⟩,
  ⟨18, .u16, .rw, .factory, false, .span 0 1535, fun _ => 0⟩,
  ⟨19, .enum8, .rw, .factory, false, .oneOf [0, 1, 2, 3], fun _ => 0⟩,
  ⟨20, .bool, .wo, .factory, false, .any, fun _ => 0⟩,
  ⟨21, (.octets 16), .rw, .factory, false, .any, fun _ => 0⟩]

/-- 0x9000 + i, counter Ci (i = 0 to 1023). -/
def ctrEntries : List Entry := [
  ⟨0, .u8, .const, .slice, false, .any, fun i => if i = 0 then 20 else 6⟩,
  ⟨1, .u16, .rw, .fm, true, .span 0 2815, fun i => i⟩,
  ⟨2, .u16, .rw, .fm, true, .spanOr 0 4095 65535, fun _ => 65535⟩,
  ⟨3, .u16, .rw, .fm, true, .spanOr 0 4095 65535, fun _ => 65535⟩,
  ⟨4, (.octets 16), .ro, .slice, false, .any, fun _ => 0⟩,
  ⟨5, .bits32, .w1c, .fm, false, .any, fun _ => 0⟩,
  ⟨6, .bool, .wo, .fm, false, .any, fun _ => 0⟩]

/-- 0x9000, die-wide subindices. -/
def ctrAllEntries : List Entry := [
  ⟨16, .enum8, .ro, .slice, false, .any, fun _ => 0⟩,
  ⟨17, .enum8, .wo, .fm, false, .oneOf [1, 2, 3], fun _ => 0⟩,
  ⟨18, .u64, .ro, .fm, false, .any, fun _ => 0⟩,
  ⟨19, .u32, .ro, .fm, false, .any, fun _ => 0⟩,
  ⟨20, (.octets 90112), .const, .slice, false, .any, fun _ => 0⟩]

/-- 0xA000 + m, power domain PDm (m = 0 to 76). -/
def pdEntries : List Entry := [
  ⟨0, .u8, .const, .fm, false, .any, fun i => if i = 0 then 37 else 8⟩,
  ⟨1, .enum8, .rw, .fm, true, .oneOf [0, 1], fun _ => 1⟩,
  ⟨2, .enum8, .ro, .fm, false, .any, fun _ => 0⟩,
  ⟨3, .bool, .wo, .fm, false, .any, fun _ => 0⟩,
  ⟨4, .u8, .const, .fm, false, .any, fun i => domainParent i⟩,
  ⟨5, .u32, .const, .fm, false, .any, fun i => domainStepMa i⟩,
  ⟨6, .u32, .ro, .fm, false, .any, fun _ => 0⟩,
  ⟨7, .u64, .ro, .fm, false, .any, fun _ => 0⟩,
  ⟨8, .u32, .ro, .fm, false, .any, fun _ => 0⟩]

/-- 0xA000, die-wide subindices. -/
def pdAllEntries : List Entry := [
  ⟨32, .u32, .const, .fm, false, .any, fun _ => 25000⟩,
  ⟨33, .enum8, .ro, .fm, false, .any, fun _ => 0⟩,
  ⟨34, .u8, .ro, .fm, false, .any, fun _ => 0⟩,
  ⟨35, .u32, .ro, .fm, false, .any, fun _ => 0⟩,
  ⟨36, .bool, .wo, .fm, false, .any, fun _ => 0⟩,
  ⟨37, .u32, .ro, .fm, false, .any, fun _ => 0⟩]

/-- 0xA100 + i, temperature sensor Ti (i = 0 to 47). -/
def tempEntries : List Entry := [
  ⟨0, .u8, .const, .fm, false, .any, fun _ => 4⟩,
  ⟨1, .s32, .ro, .fm, false, .any, fun _ => 0⟩,
  ⟨2, .s32, .ro, .fm, false, .any, fun _ => 0⟩,
  ⟨3, .s32, .ro, .fm, false, .any, fun _ => 0⟩,
  ⟨4, .bool, .wo, .fm, false, .any, fun _ => 0⟩]

/-- 0xA130 + v, voltage monitor Vv (v = 0 to 39). -/
def voltEntries : List Entry := [
  ⟨0, .u8, .const, .fm, false, .any, fun _ => 6⟩,
  ⟨1, .u16, .ro, .fm, false, .any, fun _ => 0⟩,
  ⟨2, .u16, .ro, .fm, false, .any, fun _ => 0⟩,
  ⟨3, .u16, .ro, .fm, false, .any, fun _ => 0⟩,
  ⟨4, .u16, .rw, .fm, true, .any, fun i => railMv i * 95 / 100⟩,
  ⟨5, .u16, .rw, .fm, true, .any, fun i => railMv i * 105 / 100⟩,
  ⟨6, .bool, .wo, .fm, false, .any, fun _ => 0⟩]

/-- 0xA170 thermal. -/
def thermEntries : List Entry := [
  ⟨0, .u8, .const, .fm, false, .any, fun _ => 4⟩,
  ⟨1, .u8, .rw, .fm, true, .span 60 120, fun _ => 100⟩,
  ⟨2, .u8, .rw, .fm, true, .span 105 125, fun _ => 115⟩,
  ⟨3, .s32, .ro, .fm, false, .any, fun _ => 0⟩,
  ⟨4, .u8, .ro, .fm, false, .any, fun _ => 0⟩]

/-- 0xA180 clocks and droop. -/
def clkEntries : List Entry := [
  ⟨0, .u8, .const, .fm, false, .any, fun _ => 6⟩,
  ⟨1, .enum8, .ro, .fm, false, .any, fun _ => 0⟩,
  ⟨2, .s32, .ro, .fm, false, .any, fun _ => 0⟩,
  ⟨3, .u8, .ro, .fm, false, .any, fun _ => 0⟩,
  ⟨4, .u64, .ro, .fm, false, .any, fun _ => 0⟩,
  ⟨5, (.octets 40), .ro, .fm, false, .any, fun _ => 0⟩,
  ⟨6, (.octets 10), .ro, .fm, false, .any, fun _ => 0⟩]

/-- 0xA200 AVS and margin plans. -/
def avsEntries : List Entry := [
  ⟨0, .u8, .const, .fm, false, .any, fun _ => 14⟩,
  ⟨1, .u16, .ro, .fm, false, .any, fun _ => 800⟩,
  ⟨2, .u16, .ro, .fm, false, .any, fun _ => 0⟩,
  ⟨3, .u16, .rw, .fm, true, .span 700 850, fun _ => 700⟩,
  ⟨4, .u16, .rw, .fm, true, .span 700 850, fun _ => 850⟩,
  ⟨5, .u32, .rw, .fm, true, .span 10000 100000, fun _ => 40000⟩,
  ⟨6, .u32, .rw, .fm, true, .span 0 50000, fun _ => 10000⟩,
  ⟨7, .u16, .rw, .fm, true, .span 24 10000, fun _ => 1000⟩,
  ⟨8, .u32, .ro, .fm, false, .any, fun _ => 0⟩,
  ⟨9, .bool, .wo, .fm, false, .any, fun _ => 0⟩,
  ⟨10, .enum8, .ro, .fm, false, .any, fun _ => 0⟩,
  ⟨11, .u16, .const, .fm, false, .any, fun _ => 0⟩,
  ⟨12, .u16, .const, .fm, false, .any, fun _ => 0⟩,
  ⟨13, .s32, .ro, .fm, false, .any, fun _ => 0⟩,
  ⟨14, .u32, .ro, .fm, false, .any, fun _ => 0⟩]

/-- 0xA210 + n, selvedge monitor Mn (n = 0 to 95). -/
def selvEntries : List Entry := [
  ⟨0, .u8, .const, .fm, false, .any, fun _ => 3⟩,
  ⟨1, .bool, .rw, .fm, true, .any, fun _ => 1⟩,
  ⟨2, .s32, .ro, .fm, false, .any, fun _ => 0⟩,
  ⟨3, .s32, .ro, .fm, false, .any, fun _ => 0⟩]

/-- 0xB000 life cycle. -/
def lcEntries : List Entry := [
  ⟨0, .u8, .const, .slice, false, .any, fun _ => 8⟩,
  ⟨1, .enum8, .ro, .slice, false, .any, fun _ => 0⟩,
  ⟨2, (.octets 8), .wo, .fm, false, .any, fun _ => 0⟩,
  ⟨3, .enum8, .ro, .fm, false, .any, fun _ => 0⟩,
  ⟨4, (.octets 32), .ro, .factory, false, .any, fun _ => 0⟩,
  ⟨5, (.octets 152), .wo, .factory, false, .any, fun _ => 0⟩,
  ⟨6, .bits32, .ro, .fm, false, .any, fun _ => 0⟩,
  ⟨7, .u8, .ro, .fm, false, .any, fun _ => 0⟩,
  ⟨8, .bits32, .ro, .fm, false, .any, fun _ => 0⟩]

/-- 0xB001 OTP. -/
def otpEntries : List Entry := [
  ⟨0, .u8, .const, .fm, false, .any, fun _ => 8⟩,
  ⟨1, .u8, .ro, .fm, false, .any, fun _ => 0⟩,
  ⟨2, .u8, .ro, .fm, false, .any, fun _ => 0⟩,
  ⟨3, (.octets 256), .ro, .fm, false, .any, fun _ => 0⟩,
  ⟨4, (.octets 256), .rw, .fm, false, .any, fun _ => 0⟩,
  ⟨5, .bool, .wo, .fm, false, .any, fun _ => 0⟩,
  ⟨6, .enum8, .ro, .fm, false, .any, fun _ => 0⟩,
  ⟨7, (.octets 32), .ro, .fm, false, .any, fun _ => 0⟩,
  ⟨8, .bool, .ro, .fm, false, .any, fun _ => 0⟩]

/-- 0x10C0 straps and board pins. -/
def strapEntries : List Entry := [
  ⟨0, .u8, .const, .fm, false, .any, fun _ => 3⟩,
  ⟨1, .bits32, .ro, .fm, false, .any, fun _ => 0⟩,
  ⟨2, .enum8, .ro, .fm, false, .any, fun _ => 0⟩,
  ⟨3, .bool, .ro, .fm, false, .any, fun _ => 0⟩]

/-- The index groups of the Pattern Book (R41): first index, number of instances, index stride. -/
def groups0 : List Group := [
  ⟨0x1000, 1, 1, identEntries⟩,
  ⟨0x1010, 2, 1, ethEntries⟩,
  ⟨0x1020, 1, 1, preocEntries⟩,
  ⟨0x1030, 8, 1, sessEntries⟩,
  ⟨0x1040, 1, 1, mctpEntries⟩,
  ⟨0x1050, 1, 1, spdmEntries⟩,
  ⟨0x1060, 16, 1, mwEntries⟩,
  ⟨0x1080, 1, 1, logEntries⟩,
  ⟨0x10A0, 1, 1, fwEntries⟩,
  ⟨0x2000, 64, 16, portEntries⟩,
  ⟨0x2001, 64, 16, portStatEntries⟩,
  ⟨0x2002, 64, 16, portIdeEntries⟩,
  ⟨0x2003, 64, 16, portErrEntries⟩,
  ⟨0x2004, 64, 16, portCtlEntries⟩,
  ⟨0x3C00, 1, 1, bridgeEntries⟩,
  ⟨0x3C01, 1, 1, xlateEntries⟩]

def groups1 : List Group := [
  ⟨0x3C40, 64, 1, vcsEntries⟩,
  ⟨0x3C80, 128, 1, vppbEntries⟩,
  ⟨0x2400, 288, 1, laneEntries⟩,
  ⟨0x2580, 36, 1, blkEntries⟩,
  ⟨0x2600, 1, 1, seamEntries⟩,
  ⟨0x2610, 2, 1, seamCfgEntries⟩,
  ⟨0x2620, 2, 1, seamStatEntries⟩,
  ⟨0x2630, 2, 1, seamCntEntries⟩,
  ⟨0x2800, 1, 1, fabEntries⟩,
  ⟨0x2801, 1, 1, admEntries⟩,
  ⟨0x2808, 8, 1, dieEntries⟩,
  ⟨0x2810, 4, 1, quadEntries⟩,
  ⟨0x2820, 8, 1, mirEntries⟩,
  ⟨0x2830, 1, 1, mirRingEntries⟩,
  ⟨0x2900, 1, 1, nocEntries⟩,
  ⟨0x2901, 6, 1, nocAgeEntries⟩]

def groups2 : List Group := [
  ⟨0x2910, 32, 1, nocStatEntries⟩,
  ⟨0x3000, 1, 1, cohEntries⟩,
  ⟨0x3001, 4, 1, ceEntries⟩,
  ⟨0x3100, 1, 1, hlcEntries⟩,
  ⟨0x3110, 4, 1, ceHlcEntries⟩,
  ⟨0x3102, 1, 1, lostLogEntries⟩,
  ⟨0x3103, 1, 1, agentsEntries⟩,
  ⟨0x3104, 1, 1, specEntries⟩,
  ⟨0x3400, 1024, 1, winEntries⟩,
  ⟨0x3800, 1, 1, ctEntries⟩,
  ⟨0x3801, 1, 1, ctBankEntries⟩,
  ⟨0x3810, 64, 1, gateEntries⟩,
  ⟨0x4000, 4096, 1, slcEntries⟩,
  ⟨0x2005, 64, 16, portMapEntries⟩,
  ⟨0x2640, 2, 1, seamMapEntries⟩,
  ⟨0x5000, 4096, 1, polEntries⟩]

def groups3 : List Group := [
  ⟨0x6000, 64, 1, tgEntries⟩,
  ⟨0x6100, 64, 1, queueEntries⟩,
  ⟨0x6140, 64, 1, qStatEntries⟩,
  ⟨0x6180, 1, 1, schedEntries⟩,
  ⟨0x6200, 10, 1, arbEntries⟩,
  ⟨0x6800, 128, 1, chanEntries⟩,
  ⟨0x7000, 1, 1, twinEntries⟩,
  ⟨0x7001, 1, 1, hbEntries⟩,
  ⟨0x7002, 1, 1, mirrorEntries⟩,
  ⟨0x7003, 1, 1, timeEntries⟩,
  ⟨0x7200, 32, 1, slotEntries⟩,
  ⟨0x7200, 1, 1, slotAllEntries⟩,
  ⟨0x8000, 1536, 1, srcEntries⟩,
  ⟨0x8800, 1, 1, colEntries⟩,
  ⟨0x9000, 1024, 1, ctrEntries⟩,
  ⟨0x9000, 1, 1, ctrAllEntries⟩]

def groups4 : List Group := [
  ⟨0xA000, 77, 1, pdEntries⟩,
  ⟨0xA000, 1, 1, pdAllEntries⟩,
  ⟨0xA100, 48, 1, tempEntries⟩,
  ⟨0xA130, 40, 1, voltEntries⟩,
  ⟨0xA170, 1, 1, thermEntries⟩,
  ⟨0xA180, 1, 1, clkEntries⟩,
  ⟨0xA200, 1, 1, avsEntries⟩,
  ⟨0xA210, 96, 1, selvEntries⟩,
  ⟨0xB000, 1, 1, lcEntries⟩,
  ⟨0xB001, 1, 1, otpEntries⟩,
  ⟨0x10C0, 1, 1, strapEntries⟩]

/-- Every index group. -/
def groups : List Group := groups0 ++ groups1 ++ groups2 ++ groups3 ++ groups4

/-- The instance of index `idx` in group g, when it has one. -/
def Group.instanceOf (g : Group) (idx : Nat) : Option Nat :=
  if g.base ≤ idx ∧ (idx - g.base) % g.stride = 0 ∧ (idx - g.base) / g.stride < g.count
  then some ((idx - g.base) / g.stride) else none

/-- The entry and instance number at a key, searched in a list of groups. -/
def findIn : List Group → Nat → Nat → Option (Entry × Nat)
  | [], _, _ => none
  | g :: gs, idx, sub =>
    match g.instanceOf idx with
    | some i =>
      match g.entries.find? (fun e => e.sub == sub) with
      | some e => some (e, i)
      | none => findIn gs idx sub
    | none => findIn gs idx sub

/-- The entry at a key (R33). -/
def findEntry (k : Nat) : Option (Entry × Nat) := findIn groups (k / 256) (k % 256)

/-- Whether an index is allocated and present (R41). -/
def indexExists (idx : Nat) : Bool := groups.any (fun g => (g.instanceOf idx).isSome)

/-- The default of the entry at key k (R37); 0 where there is no entry. -/
def dflt (k : Nat) : Nat :=
  match findEntry k with
  | some (e, i) => e.dflt i
  | none => 0

/-- The number of bits of the entry at key k. -/
def widthOf (k : Nat) : Nat :=
  match findEntry k with
  | some (e, _) => 8 * e.ty.size
  | none => 0

end Sys2Proof.Machine
end

