-- ==== Sys2Proof/Machine/Tab.lean ====
section
/-! DEFINITION. Sparse tables in one canonical form: keys strictly rising, and no entry equal to what an
unlisted key reads as. Every register array, memory and indexed structure of the switch is one. -/

namespace Sys2Proof.Machine

/-- A sparse table: the listed keys with their values. -/
abbrev Tab (α : Type) := List (Nat × α)

/-- The value at key k, where an unlisted key reads as d. -/
def Tab.get {α : Type} (d : α) : Tab α → Nat → α
  | [], _ => d
  | (j, x) :: t, k => if j = k then x else Tab.get d t k

/-- List v at key k, in its place among the keys. -/
def Tab.insert {α : Type} : Tab α → Nat → α → Tab α
  | [], k, v => [(k, v)]
  | (j, x) :: t, k, v =>
    if k < j then (k, v) :: (j, x) :: t
    else if k = j then (k, v) :: t
    else (j, x) :: Tab.insert t k v

/-- Write v at key k, where an unlisted key k reads as d: writing d removes the entry. -/
def Tab.put {α : Type} [DecidableEq α] (d : α) (t : Tab α) (k : Nat) (v : α) : Tab α :=
  if v = d then t.filter (fun e => e.1 != k) else Tab.insert t k v

/-- Change the value at key k by f. -/
def Tab.upd {α : Type} [DecidableEq α] (d : α) (t : Tab α) (k : Nat) (f : α → α) : Tab α :=
  Tab.put d t k (f (Tab.get d t k))

/-- Apply f to every listed value. -/
def Tab.mapAll {α : Type} [DecidableEq α] (d : α) (f : α → α) : Tab α → Tab α
  | [] => []
  | (j, x) :: t => if f x = d then Tab.mapAll d f t else (j, f x) :: Tab.mapAll d f t

/-- Drop the listed keys that satisfy a test: they read their defaults again. -/
def Tab.drop {α : Type} (test : Nat → Bool) (t : Tab α) : Tab α := t.filter fun e => !test e.1

/-- Every key of the table is above b, keys rise strictly, and no entry equals its default. -/
def Tab.wfFrom {α : Type} [DecidableEq α] (d : Nat → α) : Option Nat → Tab α → Bool
  | _, [] => true
  | b, (j, x) :: t =>
    (match b with
     | none => true
     | some b => b < j) && (x != d j) && Tab.wfFrom d (some j) t

/-- The canonical form of a table whose unlisted key k reads as d k. -/
def Tab.wf {α : Type} [DecidableEq α] (d : Nat → α) (t : Tab α) : Bool := Tab.wfFrom d none t

end Sys2Proof.Machine
end

