-- ==== Sys2Proof/Machine/State.lean ====
section
/-! DEFINITION. The state of the switch: the Pattern Book's entries, and the state that its blocks hold
beside them. Plain data. Unlisted keys of every table read their defaults. -/

namespace Sys2Proof.Machine

/-- Why a step stops. -/
inductive Fault
  /-- Raised by `State.run` for a command that names a unit the part does not have (WellFormed, R1): a port
  above P63, a slice above S4095. Safe: the model stops where the sender errs. -/
  | noSuchUnit
  deriving DecidableEq, Repr

/-- Why a command has no meaning. -/
inductive Refusal
  /-- The command has no meaning yet; raised by an arm of `exec` alone. Safe. -/
  | notModelled (mnemonic : String)
  deriving DecidableEq, Repr

/-- Operation status codes (R44). -/
inductive Status
  | ok | noEntry | noSubindex | access | privilege | range | length | state | compareFail | busy
  | lifecycle | duplicate | session | internal | notExecuted
  deriving DecidableEq, Repr

/-- The code of a status (R44). -/
def Status.code : Status → Nat
  | .ok => 0
  | .noEntry => 1
  | .noSubindex => 2
  | .access => 3
  | .privilege => 4
  | .range => 5
  | .length => 6
  | .state => 7
  | .compareFail => 8
  | .busy => 9
  | .lifecycle => 10
  | .duplicate => 11
  | .session => 12
  | .internal => 13
  | .notExecuted => 14

/-- Where an answer goes (R47, R54): the UDP end that asked, from the switch's UDP port; an MCTP transport, in packets of at most `unit`
bytes; or a mailbox. -/
inductive Reply
  | udp (dst : UdpEnd) (src : Nat)
  | mctp (on : Medium) (unit : Nat)
  | cci (v : Nat)
  deriving DecidableEq, Repr

/-- What the switch sends or answers, as the model records it (the model's own log, log entry 2). -/
inductive Out
  /-- Answer to one operation: its status and the value read. -/
  | answer (st : Status) (value : Nat)
  /-- Answer to PB_ACCESS: its return code, and the operations' statuses and values (R55). -/
  | reply (dst : Reply) (code : Nat) (ops : List (Status × Nat))
  /-- Preoc response datagram in session k, or in no session (255): SEQUENCE, STATUS, and the records. -/
  | preoc (dst : Reply) (k seq : Nat) (st : Status) (ops : List (Status × Nat))
  /-- NOTIFY to session k (R52). -/
  | notify (dst : Reply) (k seq payload : Nat)
  /-- SPDM response: code of the request it answers, and its payload. -/
  | spdm (dst : Reply) (code payload : Nat)
  /-- SPDM error response; 3 is Busy. -/
  | spdmError (dst : Reply) (code : Nat)
  /-- MCTP control response. -/
  | mctp (dst : Reply) (command payload : Nat)
  /-- FM API response: return code of R44 and payload. -/
  | fmApi (dst : Reply) (code payload : Nat)
  /-- A message passed to the device behind a port. -/
  | tunnel (port ld payload : Nat)
  /-- PLDM response: completion code. -/
  | pldm (dst : Reply) (code : Nat)
  /-- A bus error to a management core (R64), or the data of its read. -/
  | busError (m : Nat)
  | busData (m data : Nat)
  /-- In-band interrupt on I3C, or answer of the SMBus Alert Response Address (R519). -/
  | ibi
  | alertAddress (addr : Nat)
  /-- Slice notification: 4 B write of data to addr by the USP function of a port (R320). -/
  | note (port slice vector addr data : Nat)
  /-- Final response to a requester: status 0 success, 1 Unsupported Request, 2 Completer Abort; CXL.mem
  data with poison where `poison` is set (R94). -/
  | complete (port tag status data : Nat) (poison : Bool)
  /-- A request forwarded to a target: egress port or seam, LD, address, data, byte enables and poison. `kind` 0 to 8 is the CXL.mem
  request of that place in `MemOp`; 16 and the kind of an `IoReq`, or 24 and the code of an AtomicOp; `len` is its length in bytes. -/
  | forward (port tag egress : Nat) (ld : Option Nat) (kind addr len data be : Nat) (poison : Bool)
  /-- An express packet that stalled is ended at its output: nullified TLP or poisoned data (R179). -/
  | abort (output id : Nat) (nullified : Bool)
  /-- Swatch `k` of a packet fails its check at egress: its data is sent poisoned, or its TLP ends nullified (R31). -/
  | spoiled (output id k : Nat) (nullified : Bool)
  /-- A coherence slice forwards to a target (R225): kind 0 MemRd, 1 MemWr, 2 MemWrPtl, 3 AtomicOp, 4 fill read. -/
  | target (c egress : Nat) (ld : Option Nat) (addr kind tag data be : Nat) (poison : Bool)
  /-- A lane's balls carry symbols in raw test mode (R112). -/
  | symbols (lane line : Nat)
  /-- Answer to the partner's request in equalisation: accepted or refused, and the coefficients in use (R106). -/
  | equalised (lane : Nat) (accepted : Bool) (fir : Nat)
  /-- Key refresh indication of transmit stream `stream` of a port (R74). -/
  | keyRefresh (port stream : Nat)
  /-- Hot-plug interrupt of a vPPB to the host of a virtual switch (R82). -/
  | hotplug (port vppb : Nat)
  /-- A CXL.cache request that an unbind refuses (R83). -/
  | cacheRefused (port cacheId addr : Nat)
  /-- BISnp to an agent: kind 0 BISnpInv, 1 BISnpData, 2 BISnpCur; `mask` names the lines (R220). -/
  | snoop (port agent bitag kind addr mask : Nat)
  /-- NAK and GO to a requester (R237, R238). -/
  | nak (port tag : Nat) (rsv : Bool)
  | go (port tag : Nat)
  /-- Home line cache message to the controller of a die: kind 0 HRD, 1 HWR, 2 HATOM, 3 HRECALL, 4 flush (R254). -/
  | hlc (die kind addr data be : Nat)
  /-- Answer of a controller to slice c: kind 0 HDATA, 1 HCMP. -/
  | hlcAnswer (c kind addr data : Nat) (failed : Bool)
  /-- Answer of a slice to a requester: kind 0 Cmp, 1 Cmp-S, 2 Cmp-E, 3 BI-ConflictAck, 4 data granted I, 5 the error
  response of R14, 6 a completion notice, 7 completion of an atomic with its old value. -/
  | coherent (port tag kind data : Nat) (poison : Bool)
  /-- Completion notice of a target's port engine to slice c for a line it forwarded (R224, R229). -/
  | cmpn (c sector line tag : Nat) (bad : Bool) (data : Nat)
  /-- Release notice for a held response (R393). -/
  | release (port tag : Nat)
  /-- A requester presents a kept request again (R237). -/
  | again (port tag naks : Nat) (refused : Option Nat)
  /-- A port engine sends a request to slice c (R26, R222): kind 0 RdS, 1 RdA, 2 RdI, 3 InvA, 4 ClnEv, 5 write, 6 BIConflict, 7
  atomic at home, 8 atomic at memory. -/
  | noc (c kind : Nat) (q : CohReq)
  /-- The needle engine begins to move the data of a descriptor of channel c (R367, R368, R370; log entry 25). -/
  | move (c op src dst len : Nat)
  /-- The needle engine writes to host memory through the USP function on a port (R373). -/
  | hostWrite (port addr len data : Nat)
  /-- It reads host memory so (R363, R367, R372). -/
  | hostRead (port tag addr len : Nat)
  /-- Pair messages on seam class 5 (R396): kind 0 HELLO, 1 HEARTBEAT; TREQ and TRSP with their times. -/
  | pair (kind : Nat) (h : PairMsg)
  | treq (t1 : Nat)
  | trsp (t1 t2 t3 : Nat)
  /-- A frame sent on seam s: header, payload of 234 B, CRC-64 and FEC parity, and the symbols that it puts on each lane (R125 to
  R128). -/
  | frame (s header payload crc fec : Nat) (lanes : List (Nat × Nat))
  /-- A swatch that the link logic of seam s delivers to the fabric core: its 72 B with OUTPUT written (R129). -/
  | swatch (s bits : Nat)
  /-- A message or completion routed by the edge bridge. -/
  | route (port egress : Nat) (ld : Option Nat) (data : Nat)
  deriving DecidableEq, Repr

/-- Occurrences of a source that the collector has yet to handle (R438): their number, the cause of R317 that a raise sets, and the
context that the raising block sends. -/
structure Raised where
  source : Nat
  count  : Nat
  cause  : Option Nat
  ctx    : Ctx
  deriving DecidableEq, Repr

/-- Time and the state of the stitch (R5, R6, R21, R24). -/
structure Now where
  stitch     : Nat      -- number of the stitch that runs next
  ftime      : Nat      -- fabric time in ns (0x1000.09)
  sampled    : Nat      -- last stitch whose commit phase was complete (R462)
  carried    : List Increment   -- increments carried by lost stitches (R24, R457)
  refillDue  : Bool     -- a refill carried by a lost stitch
  lost       : Bool     -- the last stitch was lost: the next starts no newly granted transfer
  incs       : List Increment   -- increments that the model's own blocks report for the running stitch
  tick       : Nat      -- slot ticks since chip reset
  kept       : Option (Tab Nat)   -- the entries at the end of a lost stitch: they govern the next one (R24)
  raised     : List Raised   -- occurrences that the collector handles at the end of the stitch, newest first (R438)
  waits      : Tab Nat       -- stitch in which a timed wait of the power controller, a seam or a slot began, by its number
  deriving DecidableEq, Repr

def Now.reset : Now := ⟨0, 0, 0, [], false, false, [], 0, none, [], []⟩

/-- The collector's state of one source beside its entries (chapter 16). -/
structure SrcSt where
  window    : Nat            -- occurrences in the threshold window (R438)
  thresh    : Option Nat     -- THRESH in force while a write waits for the next window (R439)
  raisedAt  : List Nat       -- fabric times of the latest raises, newest first (R444)
  chatterAt : Option Nat     -- fabric time of the last CHATTER, STUCK and WIRE_FAULT raise for it
  stuckAt   : Option Nat
  wireAt    : Option Nat
  held      : Bool           -- an injection holds the pair raised (R452)
  roseAt    : Option Nat     -- fabric time of the pair's last change to raised (R445)
  cls       : Nat            -- class of the last raise
  slice     : Nat            -- slice of the last raise
  raisedFt  : Nat            -- fabric time of the last raise
  used      : Nat            -- storm tokens used, in 10^-9 tokens (R450)
  usedAt    : Nat            -- fabric time of `used`
  stormed   : Bool           -- STORM raised since STICKY was cleared
  deriving DecidableEq, Repr

def SrcSt.reset : SrcSt := ⟨0, none, [], none, none, none, false, none, 0, 65535, 0, 0, 0, false⟩

/-- A reserved capture entry that waits for its context (R441): what the raising block stamped and sent. -/
structure CapWait where
  source : Nat
  cls    : Nat
  stitch : Nat
  ftime  : Nat
  ctx    : Ctx
  deriving DecidableEq, Repr

/-- An event record posted for Get Event Records (R447). -/
structure CciRec where
  source : Nat
  cls    : Nat
  slice  : Nat
  raises : Nat
  summary : Nat
  deriving DecidableEq, Repr

/-- The fault collector beside its entries (chapter 16). -/
structure Collector where
  srcs       : Tab SrcSt
  waits      : Tab (Option CapWait)   -- by capture entry
  near       : List Nat               -- capture entries whose context comes without the NoC, in the next stitch (R441)
  capFull    : Bool                   -- CAPTURE_FULL raised since an entry was last freed (R440)
  alertReq   : Bool                   -- a raise with ALERT is not yet answered (R519)
  malert     : Bool                   -- MALERT_N asserted
  stopDue    : Option Nat             -- source whose raise brings fault stop (R447)
  records    : List CciRec            -- posted event records, oldest first
  winMs      : Nat                    -- THRESH_MS in force (R439)
  winAt      : Nat                    -- fabric time at which the threshold window began (R438)
  deriving DecidableEq, Repr

def Collector.reset : Collector := ⟨[], [], [], false, false, false, none, [], 1000, 0⟩

/-- The counters beside their entries (chapter 17). -/
structure Counters where
  value   : Tab Nat      -- 48-bit values
  service : Nat          -- last value written to SERVICE_SET, 0 for none (R465)
  deriving DecidableEq, Repr

def Counters.reset : Counters := ⟨[], 0⟩

/-- A notification that was sent and is not yet acknowledged (R53). -/
structure Sent where
  seq     : Nat
  payload : Nat
  tries   : Nat
  sent    : Nat      -- stitch of the last send
  deriving DecidableEq, Repr

/-- A Preoc session beside its entries (R50 to R53). -/
structure SessSt where
  highest   : Option Nat                           -- highest sequence accepted
  window    : Nat                                  -- bit d: highest - 1 - d was accepted, 64 bits
  responses : List (Nat × Status × List (Status × Nat))   -- the last 16, newest first
  nextNote  : Nat                                  -- sequence of the next notification
  unacked   : List Sent                            -- oldest first, at most 16
  queue     : List Nat                             -- payloads waiting, oldest first, at most 256
  lostFlag  : Bool                                 -- a notification was discarded since the last one queued
  notified  : Tab Nat                              -- RAISES of a source at its previous notification
  authFails : Nat                                  -- datagrams that failed authentication (R48)
  eth       : Nat                                  -- management Ethernet port of the session
  heard     : Nat                                  -- stitch of its last datagram (R50)
  deriving DecidableEq, Repr

def SessSt.reset : SessSt := ⟨none, 0, [], 0, [], [], false, [], 0, 0, 0⟩

/-- A firmware slot in flash (R59, R60). -/
structure FwSlot where
  written     : Nat      -- next expected offset of a block write
  valid       : Bool     -- its image verifies
  version     : Nat
  svn         : Nat
  unconfirmed : Nat      -- unconfirmed boots in a row
  deriving DecidableEq, Repr

def FwSlot.reset : FwSlot := ⟨0, false, 0, 0, 0⟩

/-- One copy of the flash settings image (R38): the saved entries, the saved rule and translation
memories, and the margin plan (R482). -/
structure FlashCopy where
  valid : Bool
  gen   : Nat
  regs  : Tab Nat
  ram   : Tab Nat
  plan  : Option (Nat × Nat)    -- VDD and the five thresholds
  deriving DecidableEq, Repr

def FlashCopy.reset : FlashCopy := ⟨false, 0, [], [], none⟩

/-- A log record in management SRAM (R62): 64 B as a number. -/
structure LogPage where
  records : List Nat
  first   : Nat          -- fabric time of the first record
  deriving DecidableEq, Repr

/-- The flash on the board: it keeps its contents through every reset. -/
structure Flash where
  slotA   : FwSlot
  slotB   : FwSlot
  next    : Nat          -- FW_NEXT
  copyA   : FlashCopy
  copyB   : FlashCopy
  ring    : Tab Nat      -- the event log ring, 4 B words
  image   : Tab Nat      -- firmware slots, 4 B words: slot B from word 2^22 on
  nextSeq : Nat          -- SEQ of the next log record
  count   : Nat          -- records held
  boots   : Nat          -- management boot count
  hours   : Nat          -- POWER_HOURS
  planned : Nat          -- POWER_HOURS at the last margin plan (R481)
  deriving DecidableEq, Repr

def Flash.reset : Flash := ⟨FwSlot.reset, FwSlot.reset, 0, FlashCopy.reset, FlashCopy.reset, [], [], 0, 0, 0, 0, 0⟩

/-- A line of a management window access: its tag, and the pairs of a byte's place in the core's access and in the line. -/
structure MwPiece where
  tag : Nat
  at_ : List (Nat × Nat)
  deriving DecidableEq, Repr

/-- An access of a management core through window MWm that is not complete (R64, R66). -/
structure MwAccess where
  m      : Nat
  write  : Bool
  pieces : List MwPiece     -- lines not yet answered
  data   : Nat              -- data read so far, as the core sees it
  bad    : Bool             -- a line has failed
  told   : Bool             -- a line was refused where it was issued, and the refusal is counted (R64)
  deriving DecidableEq, Repr

/-- The management subsystem beside its entries (chapter 2). -/
structure Mgmt where
  up        : Bool           -- the firmware runs and the Pattern Book answers (R486)
  recovery  : Bool           -- boot ROM recovery (R59 step 4)
  booting   : Bool           -- the boot ROM has chosen an image and reads it
  confirmed : Bool
  active    : Nat            -- running slot, 0 A or 1 B
  runSvn    : Nat            -- security version of the running image
  pldm      : Bool           -- a PLDM update is in progress (R61)
  preocFw   : Bool           -- a Preoc write of FW_IMAGE is in progress (R61)
  saving    : Bool           -- a settings save runs (R38)
  sessions  : Tab SessSt
  secured   : Bool           -- an MCTP secured session is open
  page      : LogPage
  applied   : Bool           -- the saved entries have been applied since chip reset (R486)
  mctpHs    : Bool           -- a KEY_EXCHANGE on MCTP waits for its FINISH (R58)
  dhcp      : Tab (Nat × Nat × Nat)   -- address, mask and gateway that DHCPv4 gave port i (R47)
  bootWin   : List Nat       -- windows that start-up has still to enable (R486 steps 5 and 6)
  accesses  : List MwAccess  -- accesses in flight through management fabric windows (R64)
  closing   : List Nat       -- windows whose MW_ENABLE clears once they have none (R66)
  fault     : Bool           -- the dictionary engine has a fault that no operation has met yet (R44)
  deriving DecidableEq, Repr

def Mgmt.reset : Mgmt := ⟨false, false, false, false, 0, 0, false, false, false, [], false, ⟨[], 0⟩, false, false, [], [], [], [], false⟩

/-- A ramp that the stager runs (R476). -/
structure Ramp where
  domain : Nat
  up     : Bool
  deriving DecidableEq, Repr

/-- A margin plan that is being applied (R481, R482). -/
structure Plan where
  vddOld  : Nat
  vddNew  : Nat
  slack   : Int
  monitor : Nat
  flags   : Nat
  temp    : Int
  droop   : List Nat
  record  : Bool         -- it is recorded once applied: not the one of start-up (R486)
  deriving DecidableEq, Repr

/-- Power, clocks and sensors beside their entries (chapter 18). -/
structure Power where
  batch      : List Ramp       -- requests of the open batch (R476)
  running    : List Ramp       -- ramps of the granted batch, in order
  prewarn    : Bool            -- PREWARN_N asserted
  tripHot    : List Nat        -- sensors whose last sample read TRIP_C or more (R484)
  tripped    : Bool            -- THERMTRIP_N asserted
  tripStitch : Option Nat      -- stitch of the trip (R488)
  warned     : Bool            -- TEMP_WARN raised and not yet cleared (R483)
  tempSeen   : Bool            -- the sensors have sampled since chip reset
  voltSeen   : Tab Bool
  voltInside : Tab Nat         -- slot ticks still to pass inside the window before the next alarm (R485)
  plan       : Option Plan     -- plan being applied
  commanded  : Bool            -- the plan that measures was commanded by PLAN_NOW
  avsRetries : Nat
  resetDue   : Bool            -- CHIP_RESET was written and a chip reset follows 1 ms later (R487)
  straps     : Nat             -- straps as sampled: [1:0] BOOT_SRC, [2] TWIN_ROLE (R504)
  boardRun   : Nat             -- consecutive differing samples of BRD_PRSNT_N (R510)
  deriving DecidableEq, Repr

def Power.reset : Power := ⟨[], [], false, [], false, none, false, false, [], [], none, false, 0, false, 0, 0⟩

/-- The OTP macro (chapter 19): fuses, and what is latched from them at chip reset. -/
structure Otp where
  ctrl    : Nat              -- 256-bit control region (R490)
  gens    : List Nat         -- G0 to G3, 2,048 bits each
  spent   : Nat              -- bit n: a burn of generation n began
  inForce : Nat              -- generation in force, or 255 (R492)
  lcState : Nat              -- life-cycle state that governs since the last chip reset (R497)
  burning : Option Nat       -- generation being burnt (R496)
  lcBusy  : Bool             -- a life-cycle burn runs until the chip reset that ends it
  nonce   : Nat              -- LC_NONCE (R500)
  jtag    : Bool             -- a JTAG session is open beyond IDCODE and BYPASS (R499)
  deriving DecidableEq, Repr

def Otp.reset : Otp := ⟨0, [0, 0, 0, 0], 0, 255, 0, none, false, 0, false⟩

/-- A port beside its entries (chapter 3). -/
structure PortSt where
  applied   : Nat           -- width code applied at the last enable (R2, R67)
  resting   : Bool          -- rests in Detect under R71
  busMaster : Bool          -- the host has enabled bus mastering in the USP function (R320)
  full      : Nat           -- lanes the link trained with (R73)
  holding   : Nat           -- bit 0 CXL.io, bit 1 CXL.cachemem: traffic held for want of a key (R75)
  heldIo    : List (Bool × IoReq)   -- requests held in the ingress queue, oldest first, each with whether it is a locked read
  heldMem   : List MemReq
  heldCache : List (Nat × Nat × Nat)   -- CXL.cache requests held: LD, cache ID and address
  heldOut   : List (Nat × Out)   -- what waits to leave, with its protocol as in `holding`
  errDomain : Bool          -- link down because a domain of the port is off (R521)
  aer       : Nat           -- last AER error generated on the USP function (R57)
  loaded    : Tab Nat       -- key and initial field loaded for a KEY_SEL: key + 2^256 * field (R74)
  inUse     : Tab Nat       -- those that the stream uses
  txDue     : List Nat      -- transmit streams whose key is in use from the next flit boundary (R74)
  fellAt    : Option Nat    -- stitch in which PERST_N took its link down (R88)
  deriving DecidableEq, Repr

def PortSt.reset : PortSt := ⟨0, false, false, 0, 0, [], [], [], [], false, 0, [], [], [], none⟩

/-- A transaction that is open at a port (R93). -/
structure Txn where
  port   : Nat           -- port of the requester, or 255 for the switch's own
  tag    : Nat
  io     : Bool          -- CXL.io, otherwise CXL.mem
  read   : Bool          -- data is due to the requester
  egress : Nat           -- egress port or seam, or 255 for a coherence slice
  ld     : Option Nat
  vcs    : Nat
  slice  : Nat
  gen    : Nat
  addr   : Nat
  len    : Nat
  need   : Nat           -- permissions that its check needed (R287)
  grant  : Nat           -- NDR that completes it: 0 Cmp, 1 Cmp-S, 2 Cmp-E (R211)
  lines  : Nat           -- lines of it that are not yet answered by their slices
  rld    : Option Nat    -- LD of the requester, where it is one of a multi-logical device
  since  : Nat           -- stitch in which it opened (R93)
  deriving DecidableEq, Repr

/-- A vPPB beside its descriptor (R82, R83): what it shows the host. -/
structure VppbSt where
  present : Bool         -- presence and Data Link Layer Link Active
  changed : Bool         -- a change of its presence or link is shown to the host
  attn    : Bool         -- managed removal signalled
  hotplug : Bool         -- the host has enabled its hot-plug interrupt (R82)
  bus     : Option Nat   -- secondary bus number
  aer     : Nat          -- last AER error generated (R57)
  deriving DecidableEq, Repr

def VppbSt.reset : VppbSt := ⟨false, false, false, false, none, 0⟩

/-- What the bind engine runs (R80). -/
structure BindJob where
  bind    : Bool
  vcs     : Nat
  vppb    : Nat
  port    : Nat
  ld      : Option Nat
  mode    : Nat
  drain   : Bool          -- an unbind that waits for open transactions (R83 step 3)
  deriving DecidableEq, Repr

/-- A CXL.io request that waits for a target's semaphore (R91), already translated. -/
structure IoWait where
  req    : IoReq
  egress : Nat
  ld     : Option Nat
  addr   : Nat
  locked : Bool
  slice  : Nat
  tracked : Option (Nat × Nat × Nat)   -- of a window served by a slice: the window, the slice's request kind, the permissions
  since  : Nat            -- stitch in which it joined the queue (R93)
  deriving DecidableEq, Repr

/-- The semaphore of a target (R91). -/
structure Sem where
  holder  : Option Nat    -- port of the requester that holds it
  waiting : List IoWait   -- in arrival order
  since   : Nat           -- stitch in which the holder took it (R91)
  deriving DecidableEq, Repr

def Sem.reset : Sem := ⟨none, [], 0⟩

/-- A posted write, or a read, that covers several lines of a tracked window and is presented line by line (R234). -/
structure Stream where
  cur   : CohReq          -- the line that is presented
  taken : Bool            -- its slice has taken it
  rest  : List CohReq
  deriving DecidableEq, Repr

/-- Ports, virtual switches and the edge bridge beside their entries (chapter 3). -/
structure Edge where
  ports  : Tab PortSt
  txns   : List Txn        -- open transactions, oldest first
  vppbs  : Tab VppbSt
  job    : Option BindJob
  sems   : Tab Sem         -- by target: port * 32 + (LD + 1, or 0 for the whole port)
  perst  : Tab Bool        -- port p: PERST_N of its group is kept asserted after the power-good of its slot (R85)
  served : List IoWait     -- requests that a released semaphore has let go to their slices
  streams : Tab (Option Stream)   -- by port
  deriving DecidableEq, Repr

def Edge.reset : Edge := ⟨[], [], [], none, [], [], [], []⟩

/-- What an entry into deep doze found (R120). -/
structure DozeWas where
  stitch : Nat
  state  : Nat           -- LANE_STATE
  pll    : Nat           -- PLL_STATE of its block
  ltssm  : Nat           -- LTSSM of its port
  deriving DecidableEq, Repr

/-- A lane beside its entries (chapter 4). -/
structure LaneSt where
  slipping : Bool        -- a slip is still taking effect (R118)
  matches_ : Nat         -- consecutive words equal to ALIGN_PATTERN (R119)
  wake     : Bool        -- an exit request waits or runs (R109)
  pllRan   : Bool        -- the PLL was locked when it was made, and has stayed so
  stopped  : Bool        -- both PRBS counters have stopped (R115)
  inverted : Nat         -- generator bits that PRBS_INJECT has still to invert (R117)
  skip     : Nat         -- bits of a slipped word that the checker leaves out (R118)
  exitAt   : Option Nat  -- stitch of the last exit request (R120)
  entered  : Option DozeWas   -- what the last entry into deep doze found (R120)
  gen      : Nat         -- the latest 31 bits of the generator (R113)
  phase    : Nat         -- bit of ALIGN_PATTERN that the generator sends next (R113)
  past     : Nat         -- the latest 31 bits at the checker (R114)
  run      : Nat         -- bits in a row that have matched while it seeks
  errs     : Nat         -- bit i: the compared bit i back was in error, of the latest 1,024
  tailLen  : Nat         -- received bits of the word that is not yet complete, and their number (R119)
  tail     : Nat
  late     : Nat         -- received bits that a slip leaves out of the next word
  fir      : Nat         -- transmit coefficients in use on a port lane (R106)
  deriving DecidableEq, Repr

def LaneSt.reset : LaneSt := ⟨false, 0, false, false, false, 0, 0, none, none, 0, 0, 0, 0, 0, 0, 0, 0, 0x3000⟩

/-- A lane block beside its entries (chapter 4). -/
structure BlkSt where
  fault : Bool           -- a reference fault is declared (R103)
  good  : Nat            -- consecutive windows within range since the fault
  unlockAt : Option Nat  -- stitch of the last PLL_UNLOCK (R120)
  deriving DecidableEq, Repr

def BlkSt.reset : BlkSt := ⟨false, 0, none⟩

/-- Lanes and lane blocks beside their entries. -/
structure Lanes where
  lanes  : Tab LaneSt
  blocks : Tab BlkSt
  deriving DecidableEq, Repr

def Lanes.reset : Lanes := ⟨[], []⟩

/-- A packet at the fabric core (R167, R174). -/
structure Pkt where
  id      : Nat
  input   : Nat           -- 0-63 port, 64 needle engine, 65, 66 seam, 67-70 coherence slice
  output  : Nat           -- 0-63 port, 64 needle engine, 65, 66 seam
  cls     : Nat
  slice   : Nat
  len     : Nat
  io      : Bool
  kind    : Nat
  fill    : Nat
  payload : Nat
  held    : Nat           -- swatches presented so far
  path    : Nat           -- 0 waiting at its input, 1 express, 2 stored
  since   : Nat           -- stitch of its presentation
  moved   : Nat           -- swatches that have crossed (express) or have been written (stored)
  grant   : Nat           -- swatches granted to cross, or to be read, in the running stitch
  wgrant  : List Nat      -- slots granted for writing in the running stitch (R157)
  cells   : List Nat      -- slots of the written swatches that are not yet freed, in order (R157, R164)
  ready   : Option Nat    -- stitch of its commit
  read    : Nat           -- swatches read
  freed   : Nat           -- those of them whose slots have been freed
  stall   : Nat           -- stall count (R178)
  failed  : Nat           -- bit k: swatch k is marked failed (R156)
  errs    : Nat           -- payload bits that have changed since the CRC-32C of their swatch was computed (R31)
  ran     : Bool          -- it moved in the running stitch
  ending  : Option Nat    -- stalled: the stitch in whose commit phase it leaves (R179, R180)
  deriving DecidableEq, Repr

/-- The figures of one queue in the running sample period (R350). -/
structure QFigures where
  depthMax : Nat
  delayMax : Nat
  delaySum : Nat
  pkts     : Nat
  deriving DecidableEq, Repr

def QFigures.reset : QFigures := ⟨0, 0, 0, 0⟩

/-- A swatch handed to a seam's transmitter: its VC, whether it is marked failed, and its 72 B (R128, R154). -/
structure SeamSw where
  vc     : Nat
  failed : Bool
  bits   : Nat
  deriving DecidableEq, Repr

/-- The fabric core beside its entries (chapter 6). Queues are keyed by 64 * output + class. -/
structure Core where
  pkts    : List Pkt           -- waiting and in flight; committed packets of a queue in queue order
  tags    : Tab Nat            -- tag F of a queue's head packet (R343)
  vint    : Tab Nat            -- virtual time of outputs 64 to 66 (R345)
  cbkt    : Tab Int            -- committed buckets of the queues (R344)
  pbkt    : Tab Int            -- peak buckets
  figures : Tab QFigures
  staged  : Tab Nat            -- egress staging places in use
  rebuild : List Nat      -- ports that rebuild a flit in the running stitch (R31)
  undrained : Nat         -- lost stitches whose credits are still to be returned (R24)
  retired : List Nat      -- retired slots (R165)
  lastDie : Nat                -- die of the last swatch placed (R162)
  latch   : Option Nat         -- free count latched at the end of the last commit phase (R173)
  low     : Bool               -- FREE_SLOTS was below LOW_WATER at the last boundary (R188)
  carved  : Nat                -- byte d: steps of die d in the hands of the home line cache (R160)
  carveAt : Nat                -- stitch that accepted the running carve change
  discard : Tab (Option Nat)   -- input that discards to the next SOP: packet that stalled (R181)
  hits    : Tab Nat            -- match count of a mirror selector (R184)
  samples : Tab Nat            -- SEQ of a mirror selector
  seamTx  : Tab (List SeamSw)  -- swatches handed to seam s and not yet framed
  rings   : Tab Nat            -- frame-buffer slots of the ring of needle channel c (R361)
  deriving DecidableEq, Repr

def Core.reset : Core := ⟨[], [], [], [], [], [], [], [], 0, [], 7, none, false, 0, 0, [], [], [], [], []⟩

/-- A PAYLOAD frame that is not yet acknowledged (R130, R135). -/
structure TxFrame where
  seq    : Nat
  vc     : Nat
  poison : Nat
  slots  : List Nat       -- 72 B each
  sentAt : Nat            -- fabric time of its first sending
  deriving DecidableEq, Repr

/-- A lane command that this side sends (lane commands table). -/
structure LaneCmd where
  cmd  : Nat
  mask : Nat
  tag  : Nat
  deriving DecidableEq, Repr

/-- A change of the active lane set in progress (R144). `tx`: LARG of the next SWITCH frame; `rx`: frames still to come on the
old set. Each is none before its countdown; `txDone` and `rxDone` tell that the direction has changed. -/
structure LaneSwitch where
  mask   : Nat
  tag    : Nat
  tx     : Option Nat
  txDone : Bool
  rx     : Option Nat
  rxDone : Bool
  deriving DecidableEq, Repr

/-- A swatch in a receive buffer of a seam, not yet delivered (R140). -/
structure SeamRx where
  vc   : Nat
  bits : Nat
  deriving DecidableEq, Repr

/-- A seam beside its entries (chapter 5). NEXT, OLDEST and EXPECT are its entries. -/
structure SeamSt where
  replay     : List TxFrame      -- outstanding frames, oldest first
  cursor     : Option Nat        -- sequence number that a replay in progress sends next
  nakPending : Bool
  nakDue     : Bool              -- a NAK travels with the next frame (R132)
  ackDue     : Bool              -- an ACK travels with the next frame (R131)
  ackSent    : Nat               -- EXPECT at the last ACK sent
  framedAt   : Nat               -- stitch of the last PAYLOAD or CONTROL frame
  timerAt    : Nat               -- fabric time of the last restart of the replay timer (R136)
  replays    : Nat               -- replays started with the same OLDEST (R137)
  sent       : List Nat          -- swatches first sent, by VC (R139)
  returned   : List Nat          -- CREDIT_RET last received, by VC
  freed      : List Nat          -- receive slots freed, by VC
  peerBuf    : List Nat          -- VC_BUF of the peer
  mirDone    : Nat               -- mirror swatches that CREDIT_RET has covered (R392)
  rx         : List SeamRx
  peer       : Option InitRecord -- the peer's INIT record of this training
  resume     : Bool              -- this side keeps its sequence state (RESUME)
  badRun     : Nat               -- consecutive bad frames (R149)
  fails      : Nat               -- full trainings failed in a row (R150)
  cmd        : Option LaneCmd    -- own command, until it is answered
  cmdSent    : Bool              -- it has travelled
  answer     : Option LaneCmd    -- answer that is repeated
  switching  : Option LaneSwitch
  tag        : Nat               -- tag of the last proposal
  standby    : Nat               -- inactive blocks in standby; other inactive blocks are in deep doze
  corr       : List Nat          -- corrected bytes of each lane in the running 1 ms window
  final      : Bool              -- training has changed to its final rate (R147 step 5)
  initSent   : Bool              -- an INIT frame has been sent in this training
  inits      : Nat               -- consecutive good INIT frames at the final rate
  replayFrom : Option Nat        -- OLDEST at the start of the last replay (R135)
  arrived    : List Bool         -- swatches delivered to the fabric core and not yet presented, oldest first: whether each has failed
  deriving DecidableEq, Repr

def SeamSt.reset : SeamSt :=
  ⟨[], none, false, false, false, 0, 0, 0, 0, List.replicate 8 0, List.replicate 8 0, List.replicate 8 0, List.replicate 8 0, 0,
   [], none, false, 0, 0, none, false, none, none, 0, 0, List.replicate 32 0, false, false, 0, none, []⟩

/-- The transient states of a line (R228). `idle` is a stable line. -/
inductive TState | idle | r | re | bS | bE | bC | bI | w | m | a
  deriving DecidableEq, Repr

/-- An agent snooped for a line, and what it has answered (R231). -/
structure Snooped where
  agent  : Nat
  answer : Option Nat    -- BIRsp received: 0 BIRspI, 1 BIRspS, 2 BIRspE
  writes : Nat           -- writebacks from it accepted and not yet completed
  wb     : Option Nat    -- state of its last completed writeback: 0 I, 1 S, 2 E
  forced : Bool          -- done without an answer: dead, or its timer expired
  deriving DecidableEq, Repr

/-- A writeback or write forwarded and not yet completed. -/
structure WbOut where
  tag   : Nat
  agent : Nat
  to_   : Nat
  need  : Nat      -- completions still due
  deriving DecidableEq, Repr

/-- A line of a transient line table entry (R219). -/
structure TLine where
  st       : TState
  came     : TState          -- the state that W came from
  base     : Nat             -- stable state under the transient one: 0 I, 1 S, 2 E, 3 L
  data     : Bool            -- B_E with data
  req      : Option CohReq   -- the request that the transient state serves; none: an eviction
  rs       : List CohReq     -- reads in flight in R
  back     : Nat             -- state that M returns to
  joins    : Option Nat      -- agent that joins SHARERS when M ends in S
  snoops   : List Snooped
  owner    : Option Nat      -- OWNER when the snoop was sent
  transfer : Bool            -- waits for an ownership transfer (R227)
  wbs      : List WbOut
  step     : Nat             -- of an atomic: 1 snoops, 2 old value awaited, 3 write awaited
  old      : Nat             -- old value of an atomic
  own      : Option Nat      -- mirror record number of its OWN, not yet confirmed (R392)
  grantE   : Bool            -- a Cmp-E that only waits for its OWN
  need     : Nat             -- completions still due in M
  due      : Nat             -- stitch in which the writeback timer of W expires (R232)
  deriving DecidableEq, Repr

def TLine.idleLine : TLine :=
  ⟨.idle, .idle, 0, false, none, [], 0, none, [], none, false, [], 0, 0, none, false, 0, 0⟩

/-- An entry of the transient line table (R219). -/
structure Tlt where
  c     : Nat
  slot  : Nat
  tag   : Nat
  lines : List TLine       -- lines 0 to 3
  evict : Bool             -- the sector is being evicted (R235)
  blocked : Bool           -- its holders have been sent BISnpInvBlk for the eviction
  deriving DecidableEq, Repr

/-- An entry of a snoop table, or a snoop that waits for one (R220). -/
structure SnoopRec where
  bitag : Nat
  sent  : Bool
  c     : Nat
  slot  : Nat
  tag   : Nat
  agent : Nat
  kind  : Nat
  mask  : Nat
  tries : Nat
  due   : Nat              -- stitch in which its wait for an answer ends (R233)
  deriving DecidableEq, Repr

/-- A place of a reservation queue (R238). -/
structure Rsv where
  tag  : Nat
  port : Nat
  who  : Requester
  slice : Nat
  addr : Nat
  go   : Bool
  due  : Nat             -- stitch in which it lapses after GO (R239)
  deriving DecidableEq, Repr

/-- Work in flight between a slice and a bolt store controller, or a fill (R251, R254, R257, R259). `op`: 0 HRD,
1 HWR, 2 HATOM, 3 HRECALL, 4 flush, 5 demand fill, 6 fill-ahead, 7 fill of an atomic. -/
structure HPend where
  c       : Nat
  sector  : Nat
  line    : Nat
  op      : Nat
  way     : Nat
  req     : Option CohReq
  spoiled : Bool
  deriving DecidableEq, Repr

/-- A request that a requester keeps after a NAK (R237). -/
structure Retry where
  port  : Nat
  tag   : Nat
  naks  : Nat
  rsv   : Bool
  due   : Nat                    -- stitch in which its back-off ends
  sent  : Bool                   -- it has been presented again and is on its way
  req   : Option (Nat × CohReq)  -- the request as it was sent, with its kind as `Out.noc` counts kinds
  deriving DecidableEq, Repr

/-- A BIConflict that waits, with the tags of the requests of its agent for the line that the slice had admitted (R240). -/
structure BiWait where
  req  : CohReq
  tags : List Nat
  deriving DecidableEq, Repr

/-- A place of a slice's mirror queue (R389). -/
structure MirPlace where
  number : Nat                 -- number of the record at its slice
  record : MirrorRec
  swatch : Option (Nat × Nat)  -- seam, and number of the mirror swatch that carries it
  deriving DecidableEq, Repr

/-- The messages that a coherence slice takes. -/
inductive CohMsg
  | rds (q : CohReq)
  | rda (q : CohReq)
  | rdi (q : CohReq)
  | inva (q : CohReq)
  | clnEv (q : CohReq)
  | write (q : CohReq)
  | conflict (q : CohReq)
  | birsp (r : BiRsp)
  | cmpn (c sector line tag : Nat) (bad : Bool) (data : Nat)
  | wbTimeout (c sector line : Nat)
  | hdata (c sector line data : Nat) (failed : Bool)
  | hcmp (c sector line old : Nat)
  | atomHome (q : CohReq)
  | atomMem (q : CohReq)
  deriving DecidableEq, Repr

/-- A flagged response that a target port engine holds (R393). -/
structure HeldRsp where
  port   : Nat
  tag    : Nat
  data   : Nat
  poison : Bool
  deriving DecidableEq, Repr

/-- An access that a slice has forwarded to a target and that is not yet answered (R225). -/
structure Fwd where
  egress : Nat
  tag    : Nat
  addr   : Nat
  kind   : Nat       -- as `Out.target` counts kinds: the answer to a fill read also goes to a controller (R251)
  deriving DecidableEq, Repr

/-- The coherence engine beside its entries (chapters 8 and 9). Slots are keyed by c * 2^24 + slot. -/
structure Coh where
  dir        : Tab Nat             -- directory entries, 128 bits each (R215)
  tlt        : List Tlt
  snoops     : List SnoopRec
  rsv        : Tab (List Rsv)      -- reservation queues by slot
  hpend      : List HPend
  hlcTag     : Tab Nat             -- tag words of the home line cache slots (R249)
  hlcData    : Tab Nat             -- their 64 data bytes
  hlcBad     : List Nat            -- slots whose data is marked failed (R30, R156)
  victim     : Tab Nat             -- victim pointers of the sets (R253)
  sweep      : Tab Nat             -- next slot of the HOTCNT sweep (R252)
  retries    : List Retry
  recallWait : List HPend          -- recalls that wait for their line (R257)
  biWait     : List BiWait         -- BIConflicts that wait (R240)
  llHold     : Tab (List Nat)      -- lost-line records that wait for a slot (R274)
  walkEnd    : Tab Nat             -- end of the current pass of slice c (R270)
  walkNext   : Tab Nat             -- end of the further pass that is due
  drainPos   : Tab Nat             -- next slot of the drain walk of a window, by window * 4 + c
  resetPos   : Tab Nat             -- next slot of the walk of a slice reset, by slice * 4 + c (R324)
  mq         : Tab (List MirPlace) -- mirror queues (R389)
  mqNext     : Tab Nat             -- number of the next record of slice c
  mirSent    : Tab Nat             -- mirror swatches handed to seam s
  work       : List CohMsg         -- completions that a slice owes itself in the running command
  deferred   : List CohMsg         -- messages that wait for a mirror credit (R241)
  busy       : Tab Nat             -- directory reads of slice c in the running stitch (R221)
  dirBad     : Nat                 -- bit c: the interface of directory die 8 + c has failed (R243)
  heldRsp    : List HeldRsp        -- flagged responses that target port engines hold (R393)
  early      : List (Nat × Nat)    -- release notices that came before their response
  fwds       : List Fwd            -- accesses forwarded to targets and not yet answered, oldest first
  dying      : List (Nat × Nat)    -- agents declared dead, and the stitch in which it takes effect (R268)
  backoff    : Nat                 -- BACKOFF_MAX as NAKs sent in the running stitch find it (R245)
  initPos    : Tab Nat             -- next slot that slice c writes empty (R218)
  deriving DecidableEq, Repr

def Coh.reset : Coh :=
  ⟨[], [], [], [], [], [], [], [], [], [], [], [], [], [], [], [], [], [], [], [], [], [], [], [], 0, [], [], [], [], 32, []⟩

/-- What a message of the on-chip network says (chapters 7 and 9). -/
inductive NocBody
  /-- For a coherence slice. -/
  | slice (x : CohMsg)
  /-- For a bolt store controller (R254): 0 HRD, 1 HWR, 2 HATOM, 3 HRECALL, 4 HRECALL marked keep, 5 FILL. -/
  | home (kind : Nat) (h : HlcMsg)
  /-- NAK of a request, with the request that its requester keeps, and the longest back-off in force when it was sent (R237,
  R245). -/
  | nak (port tag : Nat) (rsv : Bool) (kind : Nat) (q : CohReq) (limit : Nat)
  | go (port tag : Nat)
  /-- Release notice of a held response (R393). -/
  | release (port tag : Nat)
  /-- Completion notice, or an answer of a slice, for a requester at the needle engine (R229). -/
  | notice (port tag : Nat) (bad : Bool) (data : Nat)
  /-- Snoop notice that pairs a BISnp with its BIRsp (R196). -/
  | snoopNotice (bitag : Nat)
  /-- Capture context for entry e, reserved by a raise of a source in a stitch (R441). -/
  | capture (e source stitch : Nat)
  /-- Half of a mirror record of selector i (R185). -/
  | mirror (i record : Nat) (last : Bool)
  /-- A line of an access through management window k, for the needle engine (R196, R201). -/
  | window (k : Nat) (write : Bool) (need tag addr data be : Nat)
  /-- The data or status of such a line, for the management bridge. -/
  | answer (tag : Nat) (bad : Bool) (data : Nat)
  deriving DecidableEq, Repr

/-- Where a message is: at its source, or in the buffer of an input of a router (R197). -/
inductive NocPlace
  | source
  | mid (router input : Nat)
  deriving DecidableEq, Repr

/-- A message of the on-chip network (R192, R193). -/
structure NocMsg where
  id      : Nat            -- the model's own number of the message
  src     : Nat            -- endpoint 0 to 31, or 32 + q for the mirror tap of quadrant q (R190)
  header  : Nat            -- 8 B
  swatch  : Option Nat     -- the 72 B of the swatch that it carries (R29, R192)
  failed  : Bool           -- its 1-flit body is marked failed (R206)
  body    : NocBody
  gen     : Nat            -- generation of its slice when it was made (R321)
  place   : NocPlace
  ready   : Nat            -- core cycle from which it can go on
  since   : Nat            -- stitch in which it came to wait at its source
  alarmed : Bool           -- it has reached AGE_ALARM (R204)
  deriving DecidableEq, Repr

/-- A message in the ejection buffer of its destination, and the first stitch that can take it. -/
structure NocIn where
  msg : NocMsg
  at_ : Nat
  deriving DecidableEq, Repr

/-- The on-chip network beside its entries (chapter 7). -/
structure NocSt where
  msgs    : List NocMsg    -- on their way, oldest first
  arrived : List NocIn     -- delivered and not yet taken, oldest first
  next    : Nat            -- number of the next message
  freed   : Tab Nat        -- flits freed in the running stitch, by buffer * 8 + network: their credits return with its end (R16, R198)
  deriving DecidableEq, Repr

def NocSt.reset : NocSt := ⟨[], [], 0, []⟩

/-- A check site of protection rules beside its entries (R290 to R301). -/
structure SiteSt where
  copying   : Bool                -- a RULE_COPY runs (R295)
  writtenAt : Option Nat          -- stitch of the last accepted write to the basted bank (R297)
  swappedAt : Option Nat          -- stitch of the last accepted SWAP (R297)
  blocked   : Bool                -- the sewn bank was loaded with an overlap: nothing is allowed (R300)
  bad       : List (Nat × Nat)    -- (bank, rule) that could not be corrected and is not yet rewritten (R301)
  due       : Nat                 -- stitch in which the check or copy that runs ends (R295, R296)
  deriving DecidableEq, Repr

def SiteSt.reset : SiteSt := ⟨false, none, none, false, [], 0⟩

/-- The EPOCH stamp of an access that has not retired (R298). -/
structure Stamp where
  site  : Nat          -- 0 central table, 1 + p gate of port p
  epoch : Nat
  port  : Nat          -- requester: a port, or 256 + channel
  tag   : Nat
  addr  : Nat          -- the address that was checked
  deriving DecidableEq, Repr

/-- Protection beside its entries (chapter 10). -/
structure Protect where
  sites  : Tab SiteSt
  stamps : List Stamp
  handed : List (Nat × Nat)   -- accesses, by port and tag, that a lane block takes in the running stitch (R298)
  deriving DecidableEq, Repr

def Protect.reset : Protect := ⟨[], [], []⟩

/-- A tenant slice beside its entries (chapter 11). -/
structure SliceSt where
  hold      : List (Nat × Nat)   -- class holds: kind (0 MEM, 1 IO, 2 RSP, 3 CACHE) and its old class (R314)
  releasing : Nat                -- needle channels removed while they run (R315)
  ending    : Nat                -- SLC_STATE after the running reset (R308)
  began     : Nat                -- first stitch in which the running reset can end (R327)
  moves     : Nat                -- stitch in which the last granted swatch of a descriptor that the reset ended moves (R322)
  walk      : Bool               -- the running reset walks the directory (R324)
  deriving DecidableEq, Repr

def SliceSt.reset : SliceSt := ⟨[], 0, 1, 0, 0, false⟩

/-- A CXL.mem request held at its input (R337, R340). -/
structure HeldMem where
  req    : MemReq
  slice  : Nat
  passed : Bool       -- the policer has passed it: the shaper holds it
  red    : Bool       -- it has been coloured red
  deriving DecidableEq, Repr

/-- A CXL.io request held at its input (R337, R340). -/
structure HeldIo where
  req    : IoReq
  slice  : Nat
  passed : Bool
  red    : Bool
  locked : Bool
  deriving DecidableEq, Repr

/-- The time gates of a port beside their entries (R346 to R349). -/
structure GateSt where
  due    : Option Nat     -- stitch S of the scheduled takeover
  start  : Nat            -- stitch at which the running list began
  offset : Nat            -- position of the list in that stitch
  deriving DecidableEq, Repr

def GateSt.reset : GateSt := ⟨none, 0, 0⟩

/-- Policing, shaping and gates beside their entries (chapter 12). -/
structure Traffic where
  slices    : Tab SliceSt
  heldMem   : Tab (List HeldMem)     -- by port * 2 + 1 for requests with data, oldest first
  heldIo    : Tab (List HeldIo)
  oldValue  : Tab (Option Nat)       -- entries whose former value is in force until the next refill (R333)
  debits    : Tab Nat                -- units of each slice presented in the running stitch (R340)
  last      : Tab Nat                -- debits of the last commit phase: slice shaper, queue, bobbin (R21)
  gates     : Tab GateSt
  refillLen : Nat                    -- refill window in force (R334)
  refilled  : Option Nat             -- stitch of the last refill boundary that was met (R23)
  sampleEnd : Option Nat             -- stitch that ended the last sample period (R350)
  deriving DecidableEq, Repr

def Traffic.reset : Traffic := ⟨[], [], [], [], [], [], [], 128, none, none⟩

/-- A descriptor that a channel holds (R359, R362). -/
structure NDesc where
  index   : Nat
  raw     : Nat                  -- 64 B
  slice   : Nat
  gen     : Nat                  -- generation stamp (R357)
  verdict : Option (Option Nat)  -- none until checked; then none to start, or the ERR it ends with
  base    : Nat                  -- HOST_BASE, HOST_SIZE and OUT_MAX when it was fetched (R381)
  size    : Nat
  outMax  : Nat
  deriving DecidableEq, Repr

/-- A source read of a descriptor (R367): a line of space 0, or a request in space 1. -/
structure NRead where
  pos  : Nat          -- first byte of the transfer that it serves, and how many
  len  : Nat
  tag  : Nat
  addr : Nat          -- address of the line or the request
  at_  : Nat          -- place of the first byte in its data
  data : Option Nat   -- none until it is answered
  bad  : Nat          -- 1 poisoned or failed, 2 answered with an error
  deriving DecidableEq, Repr

/-- A write of a descriptor that has no completion yet. -/
structure NWrite where
  tag  : Nat
  pos  : Nat
  addr : Nat          -- address of its line
  deriving DecidableEq, Repr

/-- How far a descriptor has come (R367 to R374, R379). Places are bytes of the transfer. -/
structure NRun where
  granted : Nat                 -- the units up to here are granted
  part    : Nat                 -- grants that the next space 1 request holds
  rpos    : Nat                 -- reads are issued up to here
  wpos    : Nat                 -- writes are issued up to here
  units   : Nat                 -- units between first read and write completion
  reads   : List NRead
  writes  : List NWrite         -- oldest first
  flush   : Option Nat          -- tag of the read that follows the last write to space 1 (R372)
  flushed : Bool                -- it has been answered
  fail    : Option (Nat × Nat)  -- ERR, and the first failing byte (R374)
  result  : Nat                 -- old value of an atomic
  deriving DecidableEq, Repr

def NRun.reset : NRun := ⟨0, 0, 0, 0, 0, [], [], none, false, none, 0⟩

/-- An answer that has reached the needle engine: 1 poisoned, 2 an error. -/
structure NIn where
  port : Nat
  tag  : Nat
  bad  : Nat
  data : Nat
  deriving DecidableEq, Repr

/-- A needle channel beside its entries (chapter 13). -/
structure Channel where
  moving : Option NDesc           -- started, and the last to start; not ended
  run    : NRun                   -- how far it has come
  next   : Option NDesc           -- fetched and not started
  ahead  : NRun                   -- what is read ahead for it (R369)
  before : List (NDesc × NRun)    -- started before, have issued every write, and not ended; oldest first (R362)
  deriving DecidableEq, Repr

def Channel.reset : Channel := ⟨none, NRun.reset, none, NRun.reset, []⟩

/-- The pair beside its entries (chapter 14). -/
structure TwinSt where
  hello     : Option PairMsg   -- the peer's HELLO of this pairing, accepted
  flushed   : Bool             -- step 3 of the pairing is passed here (R386)
  timed     : Bool             -- the first time exchange of this pairing has run (R397)
  digestBad : Nat              -- consecutive heartbeats with another digest (R387)
  seamFell  : Bool             -- a seam has gone down since state 2 was left (R401)
  peerAll   : Bool             -- the peer acts as home for every tracked window (R385, R408)
  levelP    : Bool             -- last sampled levels of the twin-sense inputs (R400)
  levelN    : Bool
  equal     : Nat              -- consecutive slot ticks with equal levels
  quiet     : Nat              -- slot ticks since the last toggle with complementary rails
  fast      : List Nat         -- slot ticks of the latest early toggles, newest first
  masked    : Bool             -- the input is masked as chattering
  faultAt   : Option Nat       -- fabric time of the last SENSE_FAULT raised by re-arming
  outP      : Bool             -- level of TWSENSE_OUT_P
  outTicks  : Nat              -- slot ticks since it toggled
  slew      : Int              -- nanoseconds of offset still to be slewed (R397)
  within    : Nat              -- exchanges in a row with an offset within 50 ns
  syncPos   : Tab Nat          -- next slot of the resynchronisation walk, by slice (R408)
  handing   : Bool             -- a handback runs (R409)
  handed    : Nat              -- bit c: HANDOVER of slice c applied here; bit 4: HANDOVER queued at every slice
  promoting : Bool             -- the walk of a failover promotes the upper half (R405)
  ppsOut    : Bool             -- PPS_OUT is high (R398)
  ppsAt     : Option Nat       -- stitch of the last accepted edge of PPS_IN (R512)
  hbHeard   : Nat              -- stitch in which the last HEARTBEAT was accepted (R399)
  hbSent    : Nat              -- stitch in which the last HEARTBEAT was sent (R396)
  treqSent  : Nat              -- stitch in which the last TREQ was sent (R396)
  suspectAt : Nat              -- stitch in which state 3 or 4 was entered (R403)
  backAt    : Option Nat       -- stitch in which both heartbeats returned before a decision (R407)
  deriving DecidableEq, Repr

def TwinSt.reset : TwinSt :=
  ⟨none, false, false, 0, false, false, false, true, 0, 0, [], false, none, false, 0, 0, 0, [], false, 0, false, false, none, 0, 0, 0, 0, none⟩

/-- A filtered input of a slot: presence, button or alert (R422, R424). Its filtered level and its mask are bits of INPUTS. -/
structure SlotInput where
  level     : Bool          -- last sampled level
  run       : Nat           -- consecutive samples that differ from the filtered level
  changes   : List Nat      -- slot ticks of the latest changes of the sampled level, newest first
  active    : Nat           -- slot ticks for which the filtered level has been active
  chatterAt : Option Nat    -- fabric times of the last CHATTER and STUCK raised for it
  stuckAt   : Option Nat
  deriving DecidableEq, Repr

def SlotInput.reset : SlotInput := ⟨false, 0, [], 0, none, none⟩

/-- A slot beside its entries (chapter 15). Durations are in slot ticks. -/
structure SlotSt where
  inputs   : List SlotInput   -- presence, button, alert
  gate     : Bool             -- the gate is driven
  inserted : Bool             -- the insertion debounce has ended and no removal has been declared
  absent   : Nat              -- since filtered presence was lost
  debounce : Option Nat       -- of the running insertion debounce
  ramp     : Nat              -- since the ramp was admitted
  fault    : Nat              -- for which current limit has held
  clean    : Nat              -- clean ticks in a row (R419)
  low      : Nat              -- ticks in a row with VOUT below 88% of VIN
  pgFor    : Nat              -- for which power-good has held
  uv       : Nat              -- ticks in a row with VIN below UV_MV
  up       : Nat              -- ticks in a row with VIN at or above UV_MV + 500 mV
  retry    : Nat              -- left of the retry timer or the retry remainder
  running  : Bool             -- the retry timer or remainder runs
  offFor   : Nat              -- for which the gate has been off
  short    : Nat              -- ticks in a row with the short condition of R427
  opened   : Nat              -- ticks in a row with the open condition of R427
  recheck  : Option Nat       -- of a running recheck
  rebad    : Bool             -- the short condition has held in every tick of the recheck
  aux      : Nat              -- ticks in a row of auxiliary over-current
  auxOff   : Bool             -- the auxiliary output is held off (R429)
  shorted  : Bool             -- the gate was pulled down; the slot trips in the next tick (R418)
  deriving DecidableEq, Repr

def SlotSt.reset : SlotSt :=
  ⟨List.replicate 3 SlotInput.reset, false, false, 0, none, 0, 0, 0, 0, 0, 0, 0, 0, false, 0, 0, 0, none, false, 0, false, false⟩

/-- The slot-power die beside its entries. -/
structure Slots where
  slots  : Tab SlotSt
  writes : List (Nat × Nat)   -- accepted writes of slot entries, which the next slot tick applies (R413)
  blink  : Bool               -- phase of the blinking indicators (R430)
  blinkAt : Nat               -- slot tick in which they last toggled
  deriving DecidableEq, Repr

def Slots.reset : Slots := ⟨[], [], false, 0⟩

/-- Everything in the switch but its fuses and the queue of waiting commands. -/
structure Mach where
  pb       : Tab Nat        -- the Pattern Book's entries by key (index * 256 + subindex)
  ram      : Tab Nat        -- entries larger than 1,024 B, in 4 B words: key * 2^24 + word number
  free     : Nat            -- free values taken so far (the model's own)
  out      : List Out       -- what the switch has sent, newest first (the model's own)
  held     : Bool           -- chip reset is asserted
  now      : Now
  col      : Collector
  counters : Counters
  mgmt     : Mgmt
  flash    : Flash
  power    : Power
  edge     : Edge
  lanes    : Lanes
  protect  : Protect
  traffic  : Traffic
  core     : Core
  seams    : Tab SeamSt
  coh      : Coh
  noc      : NocSt
  chans    : Tab Channel    -- needle channels
  answers  : List NIn       -- answers that have reached the needle engine, oldest first
  twin     : TwinSt
  slots    : Slots
  deriving DecidableEq, Repr

/-- The entries right after chip reset that differ from their defaults: PD0 and PD76 are on (R471), and the
core PLL is locked (R486, start-up before release). -/
def resetEntries : Tab Nat :=
  Tab.put 0 (Tab.put 0 (Tab.put 0 [] (Pd.PD_STATE 0) 3) (Pd.PD_STATE 76) 3) Clk.CLK_STATE 1

def Mach.reset : Mach where
  pb := resetEntries
  ram := []
  free := 0
  out := []
  held := false
  now := Now.reset
  col := Collector.reset
  counters := Counters.reset
  mgmt := Mgmt.reset
  flash := Flash.reset
  power := Power.reset
  edge := Edge.reset
  lanes := Lanes.reset
  protect := Protect.reset
  traffic := Traffic.reset
  core := Core.reset
  seams := []
  coh := Coh.reset
  noc := NocSt.reset
  chans := []
  answers := []
  twin := TwinSt.reset
  slots := Slots.reset

/-- The switch without the queue of waiting commands. -/
structure Dev where
  m   : Mach
  otp : Otp
  deriving DecidableEq, Repr

/-- The state: the switch, and the commands that wait, first in first out. -/
structure State extends Dev where
  pending : List Instr
  deriving DecidableEq, Repr

/-- Right after chip reset is released for the first time: an unburnt part with empty flash (log entry 1). -/
def State.reset : State where
  m := Mach.reset
  otp := Otp.reset
  pending := []

end Sys2Proof.Machine
end

