-- ==== Sys2Proof/Machine/Ops.lean ====
section
/-! DEFINITION. The named operations on entries, large entries, free values and the record of what the
switch sends. Every block's operations are built of these. -/

namespace Sys2Proof.Machine

/-- The value of the entry at key k. -/
def Mach.rd (m : Mach) (k : Nat) : Nat := Tab.get (dflt k) m.pb k

/-- Write the entry at key k. -/
def Mach.wr (m : Mach) (k v : Nat) : Mach := { m with pb := Tab.put (dflt k) m.pb k v }

/-- Record something sent. -/
def Mach.emit (m : Mach) (o : Out) : Mach := { m with out := o :: m.out }

/-- Take the next free value. -/
def Mach.fresh (m : Mach) : Nat × Mach := (Config.freeValue m.free, { m with free := m.free + 1 })

/-- Add n to the count register at key k. A count that passes its register's width is a free value there: the
specification gives no rule for it (log entry 6). -/
def Mach.bump (m : Mach) (k n : Nat) : Mach :=
  let v := m.rd k + n
  if v < 2 ^ widthOf k then m.wr k v
  else
    let (f, m1) := m.fresh
    m1.wr k (f % 2 ^ widthOf k)

/-- Add n to the count register at key k, modulo its width, where a rule says that it wraps. -/
def Mach.bumpWrap (m : Mach) (k n : Nat) : Mach := m.wr k ((m.rd k + n) % 2 ^ widthOf k)

/-- Add n to the U16, U32 or U64 element i of the OCTETS entry at key k: element width w bits. -/
def Mach.bumpField (m : Mach) (k w i n : Nat) : Mach :=
  let v := getBits (m.rd k) (w * i) w + n
  if v < 2 ^ w then m.wr k (setBits (m.rd k) (w * i) w v)
  else
    let (f, m1) := m.fresh
    m1.wr k (setBits (m.rd k) (w * i) w f)

/-- Bit n of the entry at key k. -/
def Mach.bit (m : Mach) (k n : Nat) : Bool := bitAt (m.rd k) n

/-- Set or clear bit n of the entry at key k. -/
def Mach.putBit (m : Mach) (k n : Nat) (b : Bool) : Mach := m.wr k (setBit (m.rd k) n b)

/-- Stitches of a number of microseconds and of milliseconds (R5). -/
def usStitches (n : Nat) : Nat := 125 * n
def msStitches (n : Nat) : Nat := 125000 * n

/-- Timed wait k begins. -/
def Mach.beginWait (m : Mach) (k : Nat) : Mach := { m with now := { m.now with waits := Tab.put 0 m.now.waits k m.now.stitch } }

/-- The stitch in which timed wait k began. -/
def Mach.begun (m : Mach) (k : Nat) : Nat := Tab.get 0 m.now.waits k

/-- Timed wait k began n stitches ago or earlier. -/
def Mach.waited (m : Mach) (k n : Nat) : Bool := m.begun k + n ≤ m.now.stitch

/-- Timed wait k runs no more, or has not yet begun. -/
def Mach.stopWait (m : Mach) (k : Nat) : Mach := { m with now := { m.now with waits := Tab.put 0 m.now.waits k 0 } }

/-- The timed waits: a managed removal, an unconfirmed boot, PREWARN_N of the open batch, the first running ramp, a plan's measurement, a
step of AVS, a written chip reset; the five of seam s; the PERST hold of port p; the return of domain d. -/
def waitRemoval : Nat := 16
def waitBoot : Nat := 17
def waitWarn : Nat := 18
def waitRamp : Nat := 19
def waitPlan : Nat := 20
def waitAvs : Nat := 21
def waitReset : Nat := 22
def waitLaneErr (s : Nat) : Nat := 32 + 8 * s
def waitTraining (s : Nat) : Nat := 33 + 8 * s
def waitDown (s : Nat) : Nat := 34 + 8 * s
def waitRetrain (s : Nat) : Nat := 35 + 8 * s
def waitLcmd (s : Nat) : Nat := 36 + 8 * s
def waitPerst (p : Nat) : Nat := 64 + p
def waitDomain (d : Nat) : Nat := 128 + d

/-- Whether the BOOL or count at key k is not 0. -/
def Mach.on (m : Mach) (k : Nat) : Bool := m.rd k != 0

/-- The key of 4 B word w of the large entry at key k. -/
def wordKey (k w : Nat) : Nat := k * 2 ^ 24 + w

/-- One 4 B word of a large entry. -/
def Mach.word (m : Mach) (k w : Nat) : Nat := Tab.get 0 m.ram (wordKey k w)

/-- Write one 4 B word of a large entry. -/
def Mach.putWord (m : Mach) (k w v : Nat) : Mach := { m with ram := Tab.put 0 m.ram (wordKey k w) (v % 2 ^ 32) }

/-- The number held by n words of a large entry from word w on. -/
def Mach.words (m : Mach) (k w : Nat) : Nat → Nat
  | 0 => 0
  | n + 1 => m.word k w + 2 ^ 32 * m.words k (w + 1) n

/-- Write a number to n words of a large entry from word w on. -/
def Mach.putWords (m : Mach) (k w v : Nat) : Nat → Mach
  | 0 => m
  | n + 1 => (m.putWord k w v).putWords k (w + 1) (v / 2 ^ 32) n

/-- The entries and the large entries are in their one canonical form: keys strictly rising, and nothing listed that reads as it
would unlisted. -/
def Memory.wf (m : Mach) : Bool := Tab.wf dflt m.pb && Tab.wf (fun _ => 0) m.ram

/-- Report occurrences of a countable event in the running stitch (R457). -/
def Mach.count (m : Mach) (event slice amount : Nat) : Mach :=
  { m with now := { m.now with incs := ⟨event, slice, amount⟩ :: m.now.incs } }

/-- Report n units of event k of port p, attributed to a slice, or to none by 65535 (R456, port events). -/
def portCount (p k slice n : Nat) (m : Mach) : Mach := if p < 64 && n != 0 then m.count (16 * p + k) slice n else m

/-- PD_STATE of domain d reads 3, on (R471). -/
def Mach.domOn (m : Mach) (d : Nat) : Bool := d == 0 || m.rd (Pd.PD_STATE d) == 3

/-- The block of domain d has its supply and runs: on, or quiescing before it is switched off (R471, R474). -/
def Mach.powered (m : Mach) (d : Nat) : Bool := m.domOn d || m.rd (Pd.PD_STATE d) == 4

/-- Power domain of the port engine of port p (main blocks table). -/
def portDomain (p : Nat) : Nat := 38 + p / 4

/-- Power domain of lane block b (main blocks table). -/
def blockDomain (b : Nat) : Nat := 2 + b

/-- Lane block of a lane. -/
def laneBlock (n : Nat) : Nat := n / 8

/-- Quadrant of port p (main blocks table). -/
def portQuadrant (p : Nat) : Nat := p / 16

/-- Whether the link of port p is up: LTSSM in L0, Recovery or L1 (log entry 7). -/
def Mach.linkUp (m : Mach) (p : Nat) : Bool :=
  let l := m.rd (PortStat.LTSSM p)
  l == 4 || l == 5 || l == 6

/-- The state of port p beside its entries. -/
def Mach.port (m : Mach) (p : Nat) : PortSt := Tab.get PortSt.reset m.edge.ports p

/-- Change the state of port p. -/
def Mach.updPort (m : Mach) (p : Nat) (f : PortSt → PortSt) : Mach :=
  { m with edge := { m.edge with ports := Tab.upd PortSt.reset m.edge.ports p f } }

/-- x4 positions that port p occupies at its applied width (R2). -/
def positions (m : Mach) (p : Nat) : Nat := 2 ^ (m.port p).applied

/-- The first of 0 to n - 1 that satisfies a test. -/
def firstBelow (n : Nat) (test : Nat → Bool) : Option Nat := (List.range n).find? test

/-- The enabled wide port that covers port p at its applied width (R2). -/
def coverer (m : Mach) (p : Nat) : Option Nat :=
  firstBelow 64 fun q => q < p && p < q + positions m q && m.on (Port.ENABLE q)

/-- Apply f for every element of a list, in order. -/
def forAll {α : Type} (l : List α) (f : α → Mach → Mach) (m : Mach) : Mach := l.foldl (fun m x => f x m) m

/-- The state of lane n beside its entries. -/
def Mach.lane (m : Mach) (n : Nat) : LaneSt := Tab.get LaneSt.reset m.lanes.lanes n

def Mach.updLane (m : Mach) (n : Nat) (f : LaneSt → LaneSt) : Mach :=
  { m with lanes := { m.lanes with lanes := Tab.upd LaneSt.reset m.lanes.lanes n f } }

/-- Lane n is in raw test mode. -/
def rawLane (m : Mach) (n : Nat) : Bool := m.rd (Lane.LANE_MODE n) == 1

/-- A ramp joins the stager's open batch, or opens one (R476). PREWARN_N asserts at the start of the next stitch. -/
def joinBatch (r : Ramp) (m : Mach) : Mach :=
  let p := m.power
  let m := if p.batch.isEmpty then (m.bump PdAll.PREWARNS 1).stopWait waitWarn else m
  let m := { m with power := { m.power with batch := p.batch ++ [r] } }
  (m.wr PdAll.STAGE_PENDING (p.batch.length + 1)).wr PdAll.STAGE_STATE (if p.running.isEmpty then 1 else 2)

/-- The PLL restart of lane block b as a ramp of the stager (R110). -/
def pllRamp (b : Nat) : Ramp := ⟨77 + b, true⟩

/-- The restart of lane block b's PLL waits for the stager (R110). -/
def stagePll (b : Nat) (m : Mach) : Mach := if m.power.batch.contains (pllRamp b) then m else joinBatch (pllRamp b) m

/-- The state of seam s beside its entries. -/
def Mach.seam (m : Mach) (s : Nat) : SeamSt := Tab.get SeamSt.reset m.seams s

def Mach.updSeam (m : Mach) (s : Nat) (f : SeamSt → SeamSt) : Mach := { m with seams := Tab.upd SeamSt.reset m.seams s f }

/-- Microseconds, milliseconds and seconds in nanoseconds. -/
def usNs (n : Nat) : Nat := n * 1000
def msNs (n : Nat) : Nat := n * 1000000

/-- A context that names nothing (capture record table). -/
def noCtx : Ctx where
  cause := 0
  slice := 65535
  gen := 0
  addr := 0
  initKind := 0
  initId := 0
  access := 0
  flags := 0
  level := 7
  kind := 0
  unit := 65535
  die := 12
  quad := 255
  detail := 0

end Sys2Proof.Machine
end

