-- ==== Sys2Proof/Machine/Noc.lean ====
section
/-! DEFINITION. The on-chip network (chapter 7): endpoints and routes, message headers, buffers and credits, urgency, and how a
message comes to wait at its source. Its movement is in NocFlow.lean. -/

namespace Sys2Proof.Machine

def Mach.updNoc (m : Mach) (f : NocSt → NocSt) : Mach := { m with noc := f m.noc }

/-! ### Endpoints and routes (R190, R191, R194) -/

/-- Endpoints: the port engine of a port, the Epyaro link logic of a seam, and the needle engine for its channels and for the accesses
of management windows (R190). -/
def endpointOf (port : Nat) : Nat := if port < 64 then port / 4 else if port = 65 || port = 66 then 31 else 30
def sliceEnd (c : Nat) : Nat := 16 + c
def ctrlEnd (d : Nat) : Nat := 20 + d
def bridgeEnd : Nat := 28
def collectorEnd : Nat := 29
def needleEnd : Nat := 30

/-- The router of a source: QN0 to QN3 are 0 to 3, HN0 to HN3 are 4 to 7. Sources 32 to 35 are the mirror taps (R190). -/
def routerOf (e : Nat) : Nat :=
  if e < 16 then e / 4 else if e < 20 then 4 + (e - 16) else if e < 28 then 4 + (e - 20) % 4 else if e < 32 then 4 + (e - 28) else e % 4

/-- The power domain of an endpoint (R190). -/
def endDomain (e : Nat) : Nat :=
  if e < 16 then 38 + e else if e < 20 then 58 + (e - 16) else if e < 28 then 64 + (e - 20) else [1, 0, 62, 63].getD (e - 28) 0

/-- The power domain of a router (R191). -/
def routerDomain (r : Nat) : Nat := if r < 4 then 54 + r else 1

/-- A message can be injected for endpoint e: its domain and its router's are on (R205). -/
def nocReach (m : Mach) (e : Nat) : Bool := m.domOn (endDomain e) && m.domOn (routerDomain (routerOf e))

/-- The router that comes after router r on the way to endpoint e; none where e is on r itself (R194). -/
def nocRoute (r e : Nat) : Option Nat :=
  let b := routerOf e
  if b = r then none
  else if 4 ≤ b then some b
  else if r < 4 then some (4 + b)
  else some b

/-! ### Buffers (R197) -/

/-- The number of an input of a router: the endpoint on it, 32 + r for router r, 40 for the mirror tap. -/
def inputOf (src : Nat) : Nat := if src < 32 then src else 40

/-- The buffer of input i of router r, and the ejection buffer of endpoint e. -/
def inputBuf (r i : Nat) : Nat := r * 64 + i
def ejectBuf (e : Nat) : Nat := 512 + e

/-- Flits that the buffer of a router input holds for each network (R197). -/
def inputSizes (r i : Nat) : List Nat :=
  if r < 4 then (if i < 32 then [64, 0, 32, 96, 0, 8] else if i = 40 then [0, 0, 0, 0, 0, 32] else [0, 32, 64, 96, 16, 0])
  else if 32 ≤ i && i < 36 then [128, 0, 64, 192, 0, 32]
  else [64, 32, 64, 96, 16, 16]

/-- Flits that an ejection buffer holds for each network (R197). -/
def ejectSizes (e : Nat) : List Nat :=
  if e < 16 then [0, 32, 64, 96, 8, 0]
  else if e < 20 then [256, 0, 128, 384, 8, 0]
  else if e < 28 then [0, 32, 32, 96, 8, 0]
  else [[0, 0, 0, 0, 0, 256], [0, 0, 0, 0, 8, 64], [64, 0, 64, 192, 64, 0], [128, 32, 64, 192, 8, 0]].getD (e - 28) []

/-- The size of a buffer for network v. -/
def bufSize (b v : Nat) : Nat := (if 512 ≤ b then ejectSizes (b - 512) else inputSizes (b / 64) (b % 64)).getD v 0

/-! ### Messages (R192, R193) -/

/-- The swatch of a message: one line of a slice, with SOP and EOP (R154, R155); its CRC-32C travels unchanged (R29). CLASS and OUTPUT
are 0: it is bound for no egress queue (log entry 149). -/
def nocSwatch (slice data : Nat) : Nat :=
  let head := slice % 2 ^ 12 + 2 ^ 25 + 2 ^ 26 + 15 * 2 ^ 28
  data % 2 ^ 512 + head * 2 ^ 512 + crc32c (toBytes 64 data ++ toBytes 4 head) * 2 ^ 544

/-- The swatch is good: it is not marked failed, and its CRC-32C fits (R31, R155). -/
def swatchGood (b : Nat) : Bool :=
  let head := getBits b 512 32
  !bitAt head 27 && crc32c (toBytes 64 b ++ toBytes 4 head) == getBits b 544 32

/-- The header of a message before its injection (R193); STAMP and AGED are set later. -/
def nocHeaderOf (v src dst slice flits tag : Nat) : Nat :=
  v + src * 2 ^ 5 + dst * 2 ^ 10 + slice % 2 ^ 12 * 2 ^ 32 + (flits - 1) * 2 ^ 44 + tag % 2 ^ 16 * 2 ^ 48

def NocMsg.vn (x : NocMsg) : Nat := getBits x.header 0 3
def NocMsg.aged (x : NocMsg) : Bool := bitAt x.header 3
def NocMsg.dst (x : NocMsg) : Nat := getBits x.header 10 5
def NocMsg.stamp (x : NocMsg) : Nat := getBits x.header 16 16
def NocMsg.slice (x : NocMsg) : Nat := getBits x.header 32 12
def NocMsg.flits (x : NocMsg) : Nat := getBits x.header 44 2 + 1
def NocMsg.tag (x : NocMsg) : Nat := getBits x.header 48 16

/-- SRC of a source. The mirror tap has no endpoint ID: its messages carry that of the first port engine of its quadrant (DESIGN
CHOICE, log entry 149). -/
def srcId (src : Nat) : Nat := if src < 32 then src else 4 * (src % 4)

/-- The message has not been damaged (R206). -/
def NocMsg.good (x : NocMsg) : Bool := !x.failed && x.swatch.all swatchGood

/-- A message that does not cross a router the model has sent on: it is counted, and delivered at age 0 (R207). -/
def nocSend (e flits : Nat) (m : Mach) : Mach := (m.bump (NocStat.MSGS e) 1).bump (NocStat.FLITS e) flits

/-- A message comes to wait at its source, where its endpoints have power (R205). -/
def nocPut (v src dst slice tag : Nat) (data : Option Nat) (b : NocBody) (m : Mach) : Mach :=
  if !nocReach m dst || !m.domOn (routerDomain (routerOf src)) then m
  else
    let s := if slice < 4096 then slice else 0
    let x : NocMsg := {
      id := m.noc.next
      src := src
      header := nocHeaderOf v (srcId src) dst s (if data.isSome then 3 else 1) tag
      swatch := data.map (nocSwatch s)
      failed := false
      body := b
      gen := m.rd (Slc.SLC_GEN s)
      place := .source
      ready := 16 * m.now.stitch
      since := m.now.stitch
      alarmed := false }
    m.updNoc fun n => { n with msgs := n.msgs ++ [x], next := n.next + 1 }

/-! ### Credits (R198, R201, R255) -/

/-- The buffer that a message holds; none at its source. -/
def NocMsg.buf (x : NocMsg) : Option Nat :=
  match x.place with
  | .source => none
  | .mid r i => some (inputBuf r i)

/-- Flits of network v that a buffer holds. -/
def bufHeld (m : Mach) (b v : Nat) : Nat :=
  (if 512 ≤ b then (m.noc.arrived.filter fun y => y.msg.dst + 512 == b && y.msg.vn == v).map (·.msg.flits)
   else (m.noc.msgs.filter fun x => x.buf == some b && x.vn == v).map (·.flits)).sum

/-- Reads of management windows that the bridge has sent and whose data it has not received: each has three MM flits reserved
(R201). -/
def windowReads (m : Mach) : Nat :=
  ((m.mgmt.accesses.filter fun a => !a.write).map fun a => a.pieces.length).sum -
  (m.noc.msgs.filter fun x => match x.place, x.body with
    | .source, .window _ false _ _ _ _ _ => true
    | _, _ => false).length -
  (m.noc.arrived.filter fun y => match y.msg.body with
    | .answer t _ _ => m.mgmt.accesses.any fun a => !a.write && a.pieces.any (·.tag == t)
    | _ => false).length

/-- Fill reads of slice c whose HCMP has room reserved in its response ejection buffer (R255). -/
def fillsOut (m : Mach) (c : Nat) : Nat := (m.coh.hpend.filter fun h => 5 ≤ h.op && h.c == c).length

/-- Flits of network v of an ejection buffer that are reserved for other messages than x. -/
def nocReserved (m : Mach) (b v : Nat) (x : NocBody) : Nat :=
  if b = ejectBuf bridgeEnd && v = 5 then
    (match x with
     | .answer _ _ _ => 0
     | _ => 3 * windowReads m)
  else if ejectBuf 16 ≤ b && b < ejectBuf 20 && v = 2 then
    (match x with
     | .slice (.hcmp _ _ _ _) => 0
     | _ => fillsOut m (b - ejectBuf 16))
  else 0

/-- The buffer of the next hop of a message (R194). -/
def NocMsg.nextBuf (x : NocMsg) : Nat :=
  match x.place with
  | .source => inputBuf (routerOf x.src) (inputOf x.src)
  | .mid r _ =>
    match nocRoute r x.dst with
    | none => ejectBuf x.dst
    | some s => inputBuf s (32 + r)

/-- The next hop holds credits for all flits of the message (R198). A read of a management window leaves the bridge only with room
for its answer (R201). -/
def nocFits (m : Mach) (x : NocMsg) : Bool :=
  let b := x.nextBuf
  bufHeld m b x.vn + Tab.get 0 m.noc.freed (b * 8 + x.vn) + nocReserved m b x.vn x.body + x.flits ≤ bufSize b x.vn &&
  (match x.place, x.body with
   | .source, .window _ false _ _ _ _ _ =>
     3 * windowReads m + 3 + bufHeld m (ejectBuf bridgeEnd) 5 ≤ bufSize (ejectBuf bridgeEnd) 5
   | _, _ => true)

/-! ### Urgency (R202) -/

/-- The age of a message in a stitch: modulo 65,536, from its STAMP. -/
def nocAge (x : NocMsg) (stitch : Nat) : Nat := (stitch + 65536 - x.stamp) % 65536

/-- Its urgency. -/
def urgency (m : Mach) (x : NocMsg) (stitch : Nat) : Nat :=
  let a := nocAge x stitch
  let v := x.vn
  if x.aged || m.rd (NocAge.AGE3 v) ≤ a then 3
  else if m.rd (NocAge.AGE2 v) ≤ a then 2
  else if m.rd (NocAge.AGE1 v) ≤ a then 1
  else 0

/-- The thresholds of a virtual network are in order (R209). -/
def agesFit (a1 a2 a3 : Nat) : Bool := 1 ≤ a1 && a1 < a2 && a2 < a3

/-- The networks on which an endpoint that consumes a message of network v may need to send (R199). Response and MM messages need no
credit; a data message only lets a bolt store controller answer HCMP. -/
def mayNeed : Nat → List Nat
  | 0 => [1, 2, 3]
  | 1 => [2, 3]
  | 3 => [2]
  | 4 => [5]
  | _ => []

/-! ### Power (R205) -/

/-- The message needs domain d: its destination lies there, or a router on its way. -/
def NocMsg.needs (x : NocMsg) (d : Nat) : Bool :=
  endDomain x.dst == d || routerDomain (routerOf x.dst) == d || routerDomain (routerOf x.src) == d

/-- A message that is on its way needs domain d, or one waits in an ejection buffer there. -/
def nocBusy (m : Mach) (d : Nat) : Bool :=
  m.noc.msgs.any (·.needs d) || m.noc.arrived.any fun y => endDomain y.msg.dst == d

/-- What the network holds for domain d, and what waits there to be injected, is lost with it. -/
def nocGone (d : Nat) (m : Mach) : Mach :=
  m.updNoc fun n => { n with
    msgs := n.msgs.filter fun x => !(x.needs d || (x.place == .source && x.src < 32 && endDomain x.src == d))
    arrived := n.arrived.filter fun y => endDomain y.msg.dst != d }

/-! ### Statistics (R207, R208) -/

/-- STAT_SNAP copies the statistics of all endpoints (R208). -/
def statSnap (m : Mach) : Mach :=
  let m := forAll (List.range 32) (fun e m =>
    ((m.wr (NocStat.SNAP_MSGS e) (m.rd (NocStat.MSGS e))).wr (NocStat.SNAP_FLITS e) (m.rd (NocStat.FLITS e))).wr
      (NocStat.SNAP_LAT_SUM e) (m.rd (NocStat.LAT_SUM e))) m
  m.wr Noc.SNAP_STITCH (m.now.stitch - 1)

/-- LAT_MAX_CLEAR of endpoint e. -/
def latMaxClear (e : Nat) (m : Mach) : Mach := m.wr (NocStat.LAT_MAX e) 0

/-- NOC_STATE: the quadrant routers follow PD54 to PD57, the hub routers PD1 (R191). -/
def nocState (m : Mach) : Nat :=
  ((List.range 4).map fun q => (if m.domOn (54 + q) then 2 ^ q else 0) + (if m.domOn 1 then 2 ^ (4 + q) else 0)).sum

end Sys2Proof.Machine
end

