-- ==== Sys2Proof/Machine/Collector.lean ====
section
/-! DEFINITION. The fault collector (chapter 16): occurrences of the sources through the steps of R438, with
capture, chatter, slice causes and their notification messages (R317 to R320), and the alert request. What a command raises is handled at
the end of the stitch (R453). -/

namespace Sys2Proof.Machine

/-- The power domain that drives source j's pair; 0 for the sources that PD0 drives (R435, R436, log entry 8). -/
def sourceDomain (j : Nat) : Nat :=
  if j < 1024 then portDomain (j / 16)
  else if j < 1168 then blockDomain ((j - 1024) / 4)
  else if j < 1264 then 64 + (j - 1168) / 8
  else if j < 1280 then 0
  else if j < 1344 then 58 + (j - 1280) / 16
  else if j < 1408 then 54 + (j - 1344) / 16
  else if j < 1440 then 62
  else if j < 1456 then 63
  else if j < 1472 then 0
  else if j < 1504 then 76
  else 0

/-- The class of a raise of source j with a cause code (R432, R437, R489). -/
def raiseClass (j cause : Nat) : Nat :=
  if sourceClass j != 5 then sourceClass j
  else if j == 1510 then [1, 1, 2, 1, 1].getD cause 1
  else if j == 1524 then [2, 1, 2].getD cause 2
  else [4, 4, 4, 4, 4, 1, 1, 1, 1, 2, 1, 2, 1, 1, 1].getD cause 1

/-- The slice cause bit that a raise of source j sets (R317); QUOTA of an admission and POLICER come
with the raise itself. -/
def sourceCause (j : Nat) : Option Nat :=
  if j < 1024 then (if j % 16 == 15 then some 0 else if j % 16 == 10 then some 1 else none)
  else if 1280 ≤ j && j < 1344 then
    (match (j - 1280) % 16 with
     | 9 => some 2
     | 8 => some 3
     | 4 => some 4
     | _ => none)
  else if j == 1409 then some 0
  else if j == 1408 then some 6
  else if j == 1522 then some 7
  else none

/-- The collector's state of source j. -/
def Mach.src (m : Mach) (j : Nat) : SrcSt := Tab.get SrcSt.reset m.col.srcs j

/-- Change the collector's state of source j. -/
def Mach.updSrc (m : Mach) (j : Nat) (f : SrcSt → SrcSt) : Mach :=
  { m with col := { m.col with srcs := Tab.upd SrcSt.reset m.col.srcs j f } }

/-- STICKY, WIRE, CHATTER and STUCK of SRC_STATUS. -/
def stickyBit : Nat := 0
def wireBit : Nat := 1
def chatterBit : Nat := 2
def stuckBit : Nat := 3

/-- Source j's pair is driven: its power domain is on, or has only begun to switch off (R435, R474). A covered port is absent and
raises nothing (R2). -/
def Mach.driven (m : Mach) (j : Nat) : Bool :=
  m.powered (sourceDomain j) && !(j < 1024 && (coverer m (j / 16)).isSome)

/-- A source is masked (R438 step 5). -/
def Mach.masked (m : Mach) (j : Nat) : Bool :=
  m.on (Src.MASK j) || m.bit (Src.SRC_STATUS j) wireBit || m.bit (Src.SRC_STATUS j) chatterBit ||
  m.bit (Src.SRC_STATUS j) stuckBit || !m.driven j

/-- The action set of a class (R447). -/
def Mach.actions (m : Mach) (cls : Nat) : Nat := m.rd (Col.ACT_CORR + cls)

/-- THRESH in force for source j (R439). -/
def Mach.threshOf (m : Mach) (j : Nat) : Nat := ((m.src j).thresh).getD (m.rd (Src.THRESH j))

/-- The raises of the last CHATTER_MS, newest first, of a list of raise times. -/
def recentRaises (m : Mach) (j : Nat) : List Nat :=
  (m.src j).raisedAt.filter (fun t => m.now.ftime < t + msNs (m.rd (Src.CHATTER_MS j)))

/-- A source is over its chatter limit (R444). -/
def Mach.chattering (m : Mach) (j : Nat) : Bool :=
  m.rd (Src.CHATTER_N j) != 0 && (recentRaises m j).length > m.rd (Src.CHATTER_N j)

/-- Remember `r` raises now for the chatter test: one more than the limit is enough. -/
def noteRaises (j r : Nat) (m : Mach) : Mach :=
  let n := m.rd (Src.CHATTER_N j)
  if n = 0 then m.updSrc j (fun x => { x with raisedAt := [] })
  else
    let l := (List.replicate (min r (n + 1)) m.now.ftime ++ recentRaises m j).take (n + 1)
    m.updSrc j (fun x => { x with raisedAt := l })

/-- Whether 100 ms have passed since the time in `last` (R434, R446). -/
def mayRepeat (m : Mach) (last : Option Nat) : Bool :=
  match last with
  | none => true
  | some t => t + msNs 100 ≤ m.now.ftime

/-- The bytes of a capture record from offset 16 to 47: the capture summary (R441, R442). -/
def captureSummary (source cls : Nat) (c : Ctx) : Nat :=
  source % 65536 + cls % 256 * 2 ^ 16 + c.cause % 256 * 2 ^ 24 + c.slice % 65536 * 2 ^ 32 +
  c.gen % 65536 * 2 ^ 48 + c.addr % 2 ^ 64 * 2 ^ 64 + c.initKind % 256 * 2 ^ 128 +
  c.initId % 256 * 2 ^ 136 + c.access % 256 * 2 ^ 144 + c.flags % 256 * 2 ^ 152 +
  c.level % 256 * 2 ^ 160 + c.kind % 256 * 2 ^ 168 + c.unit % 65536 * 2 ^ 176 +
  c.die % 256 * 2 ^ 192 + c.quad % 256 * 2 ^ 200

/-- A whole capture record with its CRC-32C (capture record table). -/
def captureRecord (w : CapWait) (c : Ctx) : Nat :=
  let body := w.ftime % 2 ^ 64 + w.stitch % 2 ^ 64 * 2 ^ 64 + captureSummary w.source w.cls c * 2 ^ 128 +
    c.detail % 2 ^ 128 * 2 ^ 352
  body + crc32c (toBytes 60 body) * 2 ^ 480

/-- The context of an entry that no context reached: SOURCE, CLASS, STITCH and FTIME only (R441). -/
def emptyCtx : Ctx where
  cause := 0
  slice := 0
  gen := 0
  addr := 0
  initKind := 0
  initId := 0
  access := 0
  flags := 0
  level := 0
  kind := 0
  unit := 0
  die := 0
  quad := 0
  detail := 0

/-- Write capture entry e. -/
def putCapture (e : Nat) (w : CapWait) (c : Ctx) (m : Mach) : Mach :=
  (m.putWords Col.CAP_DATA (16 * e) (captureRecord w c) 16)

/-- Set or clear whether capture entry e waits for its context. -/
def setWait (e : Nat) (w : Option CapWait) (m : Mach) : Mach :=
  { m with col := { m.col with waits := Tab.put none m.col.waits e w } }

/-- The port whose host owns slice s's notifications, when a message can reach it: SLC_PORT is the USP of an
enabled virtual switch, its link is up and the host has enabled bus mastering (R320). -/
def notePort (m : Mach) (s : Nat) : Option Nat :=
  let p := m.rd (Slc.SLC_PORT s)
  if p < 64 && (firstBelow 64 (fun v => m.on (Vcs.VCS_ENABLE v) && m.rd (Vcs.USP v) == p)).isSome &&
     m.linkUp p && (m.port p).busMaster then some p else none

/-- Vector v of slice s is pending: a cause mapped to it is set (R319). -/
def vectorPending (m : Mach) (s v : Nat) : Bool :=
  (List.range 10).any fun k =>
    m.bit (Slc.SLC_CAUSE s) k && getBits (m.rd (Slc.SLC_VEC_MAP s)) (4 * k) 4 == v

/-- Vector v of slice s, 16 B (R318). -/
def vectorOf (m : Mach) (s v : Nat) : Nat := getBits (m.rd (Slc.SLC_VECTORS s)) (128 * v) 128

/-- The alert request of a raise whose class has ALERT (R519). -/
def requestAlert (m : Mach) : Mach :=
  if m.rd Mctp.BUS = 0 then
    (if m.mgmt.up then m.emit .ibi else { m with col := { m.col with alertReq := true } })
  else { m with col := { m.col with alertReq := true, malert := m.col.malert || m.mgmt.up } }

/-- The class of a raise and where it happened, kept for delivery (R448). -/
def noteRaise (j cls : Nat) (c : Ctx) (m : Mach) : Mach :=
  m.updSrc j fun x => { x with cls := cls, slice := c.slice, raisedFt := m.now.ftime }

/-- The generation of slice s; 0 for no slice. -/
def sliceGen (m : Mach) (s : Nat) : Nat := if s < 4096 then m.rd (Slc.SLC_GEN s) else 0

/-- n occurrences of source j, with a cause bit and a context, which is stamped with its slice's generation (R441). A source whose
domain is off drives nothing (R435, R436). -/
def occur (j n : Nat) (bit : Option Nat) (c : Ctx) (m : Mach) : Mach :=
  if sourceClass j = 255 || !m.driven j then m
  else { m with now := { m.now with raised := ⟨j, n, bit, { c with gen := sliceGen m c.slice }⟩ :: m.now.raised } }

/-- One occurrence of source j, whose slice cause is the one of R317 for that source. -/
def raiseEv (j : Nat) (c : Ctx) (m : Mach) : Mach := occur j 1 (sourceCause j) c m

/-- The occurrence of one of the collector's own sources. -/
def ownRaise (j unit : Nat) (m : Mach) : Mach := raiseEv j { noCtx with kind := 10, unit := unit, level := 4 } m

/-- Send the message of vector v of slice s if it is pending, unmasked and not sent (R319, R320). -/
def notifyVector (s v : Nat) (m : Mach) : Mach :=
  let x := vectorOf m s v
  if vectorPending m s v && !bitAt x 96 && !bitAt x 97 then
    let m := m.putBit (Slc.SLC_VECTORS s) (128 * v + 97) true
    match notePort m s with
    | some p => (m.bump (Slc.SLC_NOTE_SENT s) 1).emit (.note p s v (x % 2 ^ 64) (getBits x 64 32))
    | none => raiseEv 1518 { noCtx with slice := s, gen := m.rd (Slc.SLC_GEN s) } (m.bump (Slc.SLC_NOTE_LOST s) 1)
  else m

/-- Send what slice s's vectors are due (R319). -/
def notifySlice (s : Nat) (m : Mach) : Mach := forAll (List.range 8) (notifyVector s) m

/-- Set a cause of slice s and send what is then due (R317, R319). -/
def setCause (s b : Nat) (m : Mach) : Mach := notifySlice s (m.putBit (Slc.SLC_CAUSE s) b true)

/-- Declare source j chattering (R444, R446). -/
def declareChatter (j : Nat) (m : Mach) : Mach :=
  if m.bit (Src.SRC_STATUS j) chatterBit then m
  else
    let m := m.putBit (Src.SRC_STATUS j) chatterBit true
    if mayRepeat m (m.src j).chatterAt then
      ownRaise 1505 j (m.updSrc j fun x => { x with chatterAt := some m.now.ftime })
    else m

/-- The endpoint whose block sends the context of source j on the NoC (R441): lane blocks and quadrants through a port engine beside
them (DESIGN CHOICE, log entry 150). None: the context comes on a control link, or the collector has it. -/
def captureEnd (j : Nat) : Option Nat :=
  if j < 1024 then some (j / 64)
  else if j < 1168 then some (if j < 1152 then (j - 1024) / 8 else 31)
  else if j < 1232 then some (20 + (j - 1168) / 8)
  else if j < 1264 then some (16 + (j - 1232) / 8)
  else if j < 1280 then none
  else if j < 1344 then some (16 + (j - 1280) / 16)
  else if j < 1408 then some (4 * ((j - 1344) / 16))
  else if j < 1440 then some needleEnd
  else if j < 1472 then some 31
  else if j = 1510 then some bridgeEnd
  else none

/-- The raising block sends its context for entry e (R441). -/
def sendContext (e : Nat) (w : CapWait) (m : Mach) : Mach :=
  match captureEnd w.source with
  | some s => nocPut 5 s collectorEnd w.ctx.slice e (some (captureRecord w w.ctx)) (.capture e w.source w.stitch) m
  | none => { m with col := { m.col with near := m.col.near ++ [e] } }

/-- Reserve a capture entry for a raise of source j (R440). -/
def reserveCapture (j cls : Nat) (c : Ctx) (m : Mach) : Mach :=
  match firstBelow 64 (fun e => !m.bit Col.CAP_VALID e) with
  | some e =>
    let m := (m.putBit Col.CAP_VALID e true).wr (Src.CAP_ENTRY j) e
    let w : CapWait := ⟨j, cls, m.now.stitch, m.now.ftime, c⟩
    sendContext e w ((setWait e (some w) m).putWords Col.CAP_DATA (16 * e) 0 16)
  | none =>
    let m := (m.bump Col.CAP_LOST 1).wr (Src.CAP_ENTRY j) 255
    if m.col.capFull then m else ownRaise 1508 65535 { m with col := { m.col with capFull := true } }

/-- Steps 6 to 9 of R438 for r raises of source j. A cause of an earlier generation is stale (R321, R328). -/
def raiseSteps (r : Nat) (x : Raised) (m : Mach) : Mach :=
  let j := x.source
  let c := x.ctx
  let cls := raiseClass j c.cause
  let was := m.bit (Src.SRC_STATUS j) stickyBit
  let m := (m.putBit (Src.SRC_STATUS j) stickyBit true).bump (Src.RAISES j) r     -- step 6
  let m := noteRaise j cls c (m.wr (Src.LAST_STITCH j) m.now.stitch)
  let m := if !was && m.on (Src.CAP_EN j) then reserveCapture j cls c m else m
  let m := match x.cause with                                                     -- step 7
    | some b => if c.slice < 4096 && c.gen == sliceGen m c.slice then setCause c.slice b m else m
    | none => m
  let m := if bitAt (m.actions cls) 4 && m.rd Col.FATAL_STATE = 0 && m.col.stopDue.isNone   -- step 8
    then { m with col := { m.col with stopDue := some j } } else m
  let m := if bitAt (m.actions cls) 3 then requestAlert m else m
  m.putBit Col.PENDING j true                                                     -- step 9

/-- The collector handles the occurrences of one source (R438, from step 3). -/
def handleRaised (x : Raised) (m : Mach) : Mach :=
  let j := x.source
  let m := m.bump (Src.OCCUR j) x.count                                           -- step 3
  let w := (m.src j).window + x.count
  let t := m.threshOf j
  let m := m.updSrc j fun y => { y with window := w % t, roseAt := if y.held then y.roseAt else some m.now.ftime }
  if w < t then m
  else
    let m := noteRaises j (w / t) m                                               -- step 4
    let m := if m.chattering j then declareChatter j m else m
    if m.masked j then m else raiseSteps (w / t) x m                              -- step 5

/-- Put occurrences before the first that are not of a lower source. -/
def insertRaised (x : Raised) : List Raised → List Raised
  | [] => [x]
  | y :: ys => if x.source ≤ y.source then x :: y :: ys else y :: insertRaised x ys

/-- The occurrences in ascending source number, those of one source in the order of arrival (R453). -/
def bySource (l : List Raised) : List Raised := l.foldl (fun l x => insertRaised x l) []

/-- The collector handles what has been raised, and then, round by round, what that has raised in its own sources (log entry 9). -/
def collect : Nat → Mach → Mach
  | 0, m => m
  | n + 1, m => collect n (forAll (bySource m.now.raised) handleRaised { m with now := { m.now with raised := [] } })

/-- Rounds of the collector in a stitch. -/
def collectRounds : Nat := 4

/-- Place of a raise by port p (R12): its port engine. -/
def portCtx (p : Nat) : Ctx := { noCtx with level := 4, kind := 3, unit := p / 4, quad := portQuadrant p }

/-- Declare a wire fault on source j (R434). -/
def wireFault (j : Nat) (m : Mach) : Mach :=
  if sourceClass j = 255 || !m.driven j || m.bit (Src.SRC_STATUS j) wireBit then m
  else
    let m := m.putBit (Src.SRC_STATUS j) wireBit true
    let m := m.bump Col.WIRE_FAULTS 1
    if mayRepeat m (m.src j).wireAt then
      let m := m.updSrc j fun x => { x with wireAt := some m.now.ftime }
      ownRaise 1504 j m
    else m

/-- Source j's pair rose STUCK_MS ago or earlier (R445). -/
def stuckFor (m : Mach) (j : Nat) : Bool :=
  (m.src j).roseAt.any fun t => t + msNs (m.rd (Src.STUCK_MS j)) ≤ m.now.ftime

/-- Declare source j, whose pair has stayed raised for STUCK_MS, stuck (R445). -/
def sourceStuck (j : Nat) (m : Mach) : Mach :=
  if sourceClass j = 255 || !m.driven j || m.bit (Src.SRC_STATUS j) stuckBit || !stuckFor m j then m
  else
    let m := m.putBit (Src.SRC_STATUS j) stuckBit true
    if mayRepeat m (m.src j).stuckAt then
      let m := m.updSrc j fun x => { x with stuckAt := some m.now.ftime }
      ownRaise 1506 j m
    else m

/-- Clear the bits of SRC_STATUS written as 1: STICKY is cleared, bits 1 to 3 re-arm (R434, R446). -/
def srcStatusWrite (j value : Nat) (m : Mach) : Mach :=
  let st := m.rd (Src.SRC_STATUS j)
  let wireWas := bitAt st wireBit && bitAt value wireBit
  let m := m.wr (Src.SRC_STATUS j) (setBits st 0 4 (st % 16 - Nat.land st value % 16))
  let m := if bitAt value stickyBit then m.updSrc j (fun x => { x with stormed := false }) else m
  let m := if wireWas then m.wr Col.WIRE_FAULTS (m.rd Col.WIRE_FAULTS - 1) else m
  -- R446: still chattering or still raised, it is declared again
  let m := if bitAt st chatterBit && bitAt value chatterBit && m.chattering j
    then declareChatter j m else m
  if bitAt st stuckBit && bitAt value stuckBit && (m.src j).held then sourceStuck j m else m

/-- Fabric time has passed a multiple of the THRESH_MS in force since the threshold window began (R438). -/
def windowOver (m : Mach) : Bool :=
  let w := msNs (max 1 m.col.winMs)
  m.col.winAt / w != m.now.ftime / w

/-- A threshold window ends: window counts return to 0, and what was written to THRESH and THRESH_MS comes into force (R438, R439). -/
def threshWindow (m : Mach) : Mach :=
  if !windowOver m then m
  else { m with col := { m.col with
      winMs := m.rd Col.THRESH_MS, winAt := m.now.ftime
      srcs := Tab.mapAll SrcSt.reset (fun x => { x with window := 0, thresh := none }) m.col.srcs } }

/-- Injected pairs held raised for STUCK_MS are stuck (R445, R452). -/
def stuckStitch (m : Mach) : Mach := forAll ((m.col.srcs.filter (·.2.held)).map (·.1)) sourceStuck m

/-- The context of capture entry e arrives (R441). -/
def captureContext (e : Nat) (m : Mach) : Mach :=
  match Tab.get none m.col.waits e with
  | some w => setWait e none (putCapture e w w.ctx m)
  | none => m

/-- No context reached entry e within 1,024 stitches of the raise (R441). -/
def captureTimeout (e : Nat) (m : Mach) : Mach :=
  match Tab.get none m.col.waits e with
  | some w => if w.stitch + 1024 ≤ m.now.stitch then setWait e none (putCapture e w emptyCtx m) else m
  | none => m

/-- What a stitch brings to the capture entries: contexts that come without the NoC, and timeouts (R441). -/
def captureStitch (m : Mach) : Mach :=
  if m.col.waits.isEmpty then m
  else
    let l := m.col.near
    let m := forAll l captureContext { m with col := { m.col with near := [] } }
    forAll (m.col.waits.map (·.1)) captureTimeout m

/-- Free the capture entries whose bits are set (R440, R443). -/
def capFree (bits : Nat) (m : Mach) : Mach :=
  let freed := Nat.land (m.rd Col.CAP_VALID) bits
  if freed = 0 then m
  else
    let m := m.wr Col.CAP_VALID (m.rd Col.CAP_VALID - freed)
    let m := forAll (bitsSet 64 freed) (fun e m => setWait e none m) m
    { m with col := { m.col with capFull := false } }

/-- The manager reads the Alert Response Address (R519). -/
def alertResponse (m : Mach) : Mach :=
  if m.rd Mctp.BUS = 1 && m.col.malert then
    { m with col := { m.col with alertReq := false, malert := false } }.emit (.alertAddress (m.rd Mctp.BUS_ADDR))
  else m

/-- The subsystem runs again: an unanswered alert request is signalled (R519). -/
def alertAfterReset (m : Mach) : Mach :=
  if !m.col.alertReq then m
  else if m.rd Mctp.BUS = 0 then { m with col := { m.col with alertReq := false } }.emit .ibi
  else { m with col := { m.col with malert := true } }

end Sys2Proof.Machine
end

