-- ==== Sys2Proof/Machine/Counters.lean ====
section
/-! DEFINITION. The event counters (chapter 17). -/

namespace Sys2Proof.Machine

/-- Value of counter i, 48 bits. -/
def Mach.ctr (m : Mach) (i : Nat) : Nat := Tab.get 0 m.counters.value i

/-- Write the value of counter i. -/
def Mach.putCtr (m : Mach) (i v : Nat) : Mach :=
  { m with counters := { m.counters with value := Tab.put 0 m.counters.value i v } }

/-- Whether a port event is attributed to a slice (port events table). -/
def portEventSlice (k : Nat) : Bool :=
  [false, false, true, true, true, true, true, true, false, false, true, true, true, true, true, false].getD k false

/-- COUNT_UNIT of a port event. -/
def portEventUnit (k : Nat) : Nat := [2, 2, 1, 1, 0, 0, 0, 0, 0, 0, 0, 0, 0, 0, 3, 3].getD k 0

/-- NAME of a port event as the little-endian number of its letters. -/
def portEventName (k : Nat) : Nat :=
  ofBytes (((["FLITS_RX", "FLITS_TX", "SWATCH_IN", "SWATCH_OUT", "MEM_REQ", "IO_REQ", "CACHE_REQ", "NDR_TX",
    "LINK_CORR", "REPLAY", "EXPRESS", "STORED", "REFUSED", "RED_UNITS", "HELD", "LOW_POWER"].getD k "").toList).map
    Char.toNat)

/-- The catalogue record of event n (R456): the port events as the manual lays them out, placed at their
port engine; the rest is held in the part and the manual does not show it (log entry 10). -/
def catalogueRecord (n : Nat) : Nat :=
  if n < 1024 then
    let p := n / 16
    let k := n % 16
    n + 4 * 2 ^ 16 + 3 * 2 ^ 24 + (p / 4) * 2 ^ 32 + 12 * 2 ^ 48 + portQuadrant p * 2 ^ 56 +
    portEventUnit k * 2 ^ 64 + (if portEventSlice k then 1 else 0) * 2 ^ 72 + portEventName k * 2 ^ 96
  else setBits (Config.catalogueRecord n % 2 ^ 256) 0 16 n

/-- SLICE_CAPABLE of event n (R456, R458). -/
def sliceCapable (n : Nat) : Bool := bitAt (catalogueRecord n) 72

/-- The counters that select event n: counter n by default, and every counter whose CTR_EVENT was written. -/
def countersOf (m : Mach) (n : Nat) : List Nat :=
  (if n < 1024 && m.rd (Ctr.CTR_EVENT n) == n then [n] else []) ++
  (m.pb.filter (fun e => 0x900001 ≤ e.1 && e.1 < 0x940000 && e.1 % 256 == 1 && e.2 == n)).map
    (fun e => (e.1 - 0x900001) / 256)

/-- Add an increment to counter i; a wrap sets OVF, raises CTR_WRAP and sets the owner's COUNTER cause (R459). -/
def addToCounter (n i : Nat) (m : Mach) : Mach :=
  let v := m.ctr i + n
  if v < 2 ^ 48 then m.putCtr i v
  else
    let m := (m.putCtr i (v % 2 ^ 48)).putBit (Ctr.CTR_STATUS i) 0 true
    let owner := m.rd (Ctr.CTR_OWNER i)
    raiseEv 1522 { noCtx with unit := i, slice := owner, level := 7 } m

/-- Add one event's increment to every counter that selects it and passes its filter (R457, R458). -/
def applyIncrement (x : Increment) (m : Mach) : Mach :=
  forAll ((countersOf m x.event).filter fun i =>
      let f := m.rd (Ctr.CTR_FILTER i)
      f == 65535 || f == x.slice) (addToCounter x.amount) m

/-- A parity error in the word of counter i (R461). -/
def counterParity (i : Nat) (m : Mach) : Mach :=
  raiseEv 1523 { noCtx with unit := i, slice := m.rd (Ctr.CTR_OWNER i), level := 7 }
    ((m.putCtr i 0).putBit (Ctr.CTR_STATUS i) 1 true)

/-- CTR_CLEAR: value and OVF become 0 (R460). -/
def ctrClear (i : Nat) (m : Mach) : Mach := (m.putCtr i 0).putBit (Ctr.CTR_STATUS i) 0 false

/-- Why a selection of counter i fails (R455, R458, R467). -/
def ctrSelectCheck (i event filter owner : Nat) : Option Status :=
  if event > 2815 || (filter ≥ 4096 && filter != 65535) then some .range
  else if filter != 65535 && !sliceCapable event then some .range
  else if owner < 4096 && filter != owner then some .state
  else if i ≥ 1024 then some .noEntry
  else none

/-- A write of CTR_EVENT or CTR_FILTER (R460): the value and OVF become 0, and the selection changes. -/
def ctrSelect (i event filter : Nat) (m : Mach) : Mach := ctrClear i ((m.wr (Ctr.CTR_EVENT i) event).wr (Ctr.CTR_FILTER i) filter)

/-- Why a selection of counter i fails. -/
def ctrSelectVerdict (i event filter : Nat) (m : Mach) : Option Status := ctrSelectCheck i event filter (m.rd (Ctr.CTR_OWNER i))

/-- The service state of the counters (R465) in life-cycle state lc. -/
def serviceState (lc : Nat) (m : Mach) : Nat :=
  let tw := m.rd Twin.TWIN_STATE
  if lc == 0 || lc == 1 || lc == 4 || m.counters.service == 2 then 2
  else if m.rd Col.FATAL_STATE == 1 || tw == 3 || tw == 4 || tw == 6 || tw == 7 ||
      ((List.range 4).any fun c => m.rd (Ce.CE_STATE c) == 1 || m.rd (Ce.CE_STATE c) == 3) ||
      m.counters.service == 3 then 3
  else if m.counters.service == 0 then 0
  else 1

/-- SERVICE_SET (R465). -/
def serviceSet (v : Nat) (m : Mach) : Mach := { m with counters := { m.counters with service := v } }

/-- What CTR_READ of counter i shows (CTR_READ layout, R462). -/
def ctrReadValue (m : Mach) (i : Nat) : Nat :=
  m.ctr i + (m.rd (Ctr.CTR_STATUS i) % 4) * 2 ^ 48 + m.now.sampled % 2 ^ 64 * 2 ^ 64

/-- Why a read of CTR_READ by a SLICE requester fails (R466); `own` are the requester's slices. -/
def ctrReadCheck (lc : Nat) (own : List Nat) (i : Nat) (m : Mach) : Option Status :=
  let o := m.rd (Ctr.CTR_OWNER i)
  if !(own.contains o) then some .privilege
  else if !(m.on (Slc.SLC_CTR_READ o) && m.rd (Slc.SLC_STATE o) == 1) then some .privilege
  else if serviceState lc m != 1 then some .state
  else none

end Sys2Proof.Machine
end

