-- ==== Sys2Proof/Machine/Journal.lean ====
section
/-! DEFINITION. The event log (R62, R63), notifications to sessions (R52, R53), posted event records, and
the delivery of a pending source (R448 to R450). -/

namespace Sys2Proof.Machine

/-- Records in the log ring (R62). -/
def ringRecords : Nat := 524288

/-- Write one 64 B record to the ring in flash: record SEQ lies at 64 * (SEQ mod 524,288) (R63). -/
def ringPut (r : Nat) (t : Tab Nat) : Tab Nat :=
  let seq := getBits r 128 32
  (List.range 16).foldl (fun t i => Tab.put 0 t (16 * (seq % ringRecords) + i) (getBits r (32 * i) 32)) t

/-- Write the page of SRAM to flash; `ok` is the flash's answer (R62). A page lost is counted and raises
LOG_FLASH, cause 4 of E1510. -/
def flushPage (ok : Bool) (m : Mach) : Mach :=
  let n := m.mgmt.page.records.length
  if n = 0 then m
  else
    let rs := m.mgmt.page.records
    let m := { m with mgmt := { m.mgmt with page := ⟨[], 0⟩ } }
    if ok then
      { m with flash := { m.flash with
          ring := rs.foldl (fun t r => ringPut r t) m.flash.ring
          count := min ringRecords (m.flash.count + n) } }
    else
      raiseEv 1510 { noCtx with cause := 4, kind := 9, level := 4 } (m.bump Log.FLASH_ERRORS 1)

/-- A log record without its CRC (event log record table). -/
def logBody (m : Mach) (source cls kind data : Nat) : Nat :=
  m.now.ftime % 2 ^ 64 + m.now.stitch % 2 ^ 64 * 2 ^ 64 + m.flash.nextSeq % 2 ^ 32 * 2 ^ 128 +
  m.flash.boots % 2 ^ 32 * 2 ^ 160 + source % 65536 * 2 ^ 192 + cls % 256 * 2 ^ 208 +
  kind % 256 * 2 ^ 216 + data % 2 ^ 256 * 2 ^ 224

/-- Add a record to the log: to the page in SRAM, and to flash when the page is full or the record is fatal
(R62). The record is lost while the subsystem is down, except that R497 and R447 write through it. -/
def logRecord (source cls kind data : Nat) (m : Mach) : Mach :=
  let b := logBody m source cls kind data
  let r := b + crc32c (toBytes 60 b) * 2 ^ 480
  let page := m.mgmt.page
  let page := { page with
    records := page.records ++ [r]
    first := if page.records.isEmpty then m.now.ftime else page.first }
  let m := { m with
    mgmt := { m.mgmt with page := page }
    flash := { m.flash with nextSeq := m.flash.nextSeq + 1 } }
  if page.records.length ≥ 64 || cls = 3 then flushPage true m else m

/-- Session k beside its entries. -/
def Mach.sess (m : Mach) (k : Nat) : SessSt := Tab.get SessSt.reset m.mgmt.sessions k

/-- Change session k. -/
def Mach.updSess (m : Mach) (k : Nat) (f : SessSt → SessSt) : Mach :=
  { m with mgmt := { m.mgmt with sessions := Tab.upd SessSt.reset m.mgmt.sessions k f } }

/-- Where session k's manager is, and the UDP port that the switch sends from (R47). -/
def sessEnd (k : Nat) (m : Mach) : Reply :=
  .udp ⟨(m.sess k).eth, m.rd (Sess.PEER_ADDR k), m.rd (Sess.PEER_PORT k)⟩ (m.rd Preoc.UDP_PORT)

/-- Send waiting notifications of session k while fewer than 16 are unacknowledged (R53). -/
def sendNotes : Nat → Nat → Mach → Mach
  | 0, _, m => m
  | n + 1, k, m =>
    let x := m.sess k
    match x.queue with
    | [] => m
    | p :: rest =>
      if x.unacked.length < 16 then
        let m := m.updSess k fun x => { x with
          queue := rest
          unacked := x.unacked ++ [⟨x.nextNote, p, 1, m.now.stitch⟩]
          nextNote := (x.nextNote + 1) % 2 ^ 32 }
        sendNotes n k (m.emit (.notify (sessEnd k m) k x.nextNote p))
      else m

/-- The NOTIFY payload (R52). FLAGS bit 0 tells of notifications discarded before it (R53). -/
def notePayload (ftime j cls flags slice capture count : Nat) : Nat :=
  ftime % 2 ^ 64 + j % 65536 * 2 ^ 64 + cls % 256 * 2 ^ 80 + flags % 256 * 2 ^ 88 +
  slice % 65536 * 2 ^ 96 + capture % 256 * 2 ^ 112 + count % 2 ^ 32 * 2 ^ 128

/-- The event of source j reaches session k (R52, R53). COUNT of the first notification of a source to a session, which has no previous
one, is the raises since chip reset: the specification names no start (DESIGN CHOICE, log entry 143). -/
def notifySession (j k : Nat) (m : Mach) : Mach :=
  let x := m.sess k
  let raises := m.rd (Src.RAISES j)
  if x.queue.length ≥ 256 then m.updSess k fun x => { x with lostFlag := true }
  else
    let s := m.src j
    let p := notePayload s.raisedFt j s.cls (if x.lostFlag then 1 else 0) s.slice (m.rd (Src.CAP_ENTRY j))
      (raises - Tab.get 0 x.notified j)
    let m := m.updSess k fun x => { x with
      queue := x.queue ++ [p]
      lostFlag := false
      notified := Tab.put 0 x.notified j raises }
    sendNotes 1 k m

/-- Open sessions that subscribe to a class (R52). -/
def subscribers (m : Mach) (cls : Nat) : List Nat :=
  (List.range 8).filter fun k => m.rd (Sess.STATE k) == 2 && m.bit (Sess.SUBSCRIBE k) cls

/-- Storm tokens of source j used up to now, in 10^-9 tokens: STORM_RATE tokens return each second (R450). -/
def stormUsed (m : Mach) (j : Nat) : Nat :=
  let s := m.src j
  s.used - (m.now.ftime - s.usedAt) * m.rd Col.STORM_RATE

/-- Source j has a storm token, or is fatal (R450). -/
def hasToken (m : Mach) (j : Nat) : Bool :=
  (m.src j).cls == 3 || stormUsed m j + 1000000000 ≤ m.rd Col.STORM_BURST * 1000000000

/-- Pending sources in the order of R448: by class fatal, uncorrected-contained, deferred, corrected,
status; ascending within a class. -/
def deliveryOrder (m : Mach) : List Nat :=
  if m.rd Col.PENDING = 0 then []
  else
    let l := bitsSet 1536 (m.rd Col.PENDING)
    let ofClass := fun c => l.filter fun j => (m.src j).cls == c
    ofClass 3 ++ ofClass 2 ++ ofClass 1 ++ ofClass 0 ++ ofClass 4

/-- The summary that a log record and an event record of source j carry: bytes 16 to 47 of its capture entry,
or SOURCE and CLASS alone (R442). -/
def eventSummary (m : Mach) (j : Nat) : Nat :=
  let e := m.rd (Src.CAP_ENTRY j)
  if e < 64 && m.bit Col.CAP_VALID e && m.word Col.CAP_DATA (16 * e + 4) % 65536 == j
  then m.words Col.CAP_DATA (16 * e + 4) 8
  else j + (m.src j).cls * 2 ^ 16

/-- The management subsystem delivers source j (R448). -/
def deliver (j : Nat) (m : Mach) : Mach :=
  let s := m.src j
  let acts := m.actions s.cls
  let m := m.putBit Col.PENDING j false
  let m := if s.cls = 3 then m
    else
      let u := stormUsed m j
      m.updSrc j fun x => { x with used := u + 1000000000, usedAt := m.now.ftime }
  let sum := eventSummary m j
  let m := if bitAt acts 0 then logRecord j s.cls 0 sum m else m
  let m := if bitAt acts 1 then forAll (subscribers m s.cls) (notifySession j) m else m
  let m := if bitAt acts 2 then
      { m with col := { m.col with records :=
          m.col.records ++ [⟨j, s.cls, s.slice, m.rd (Src.RAISES j), sum⟩] } }
    else m
  -- R443: with CAP_AUTOFREE the entry is freed once the record has reached the log
  let e := m.rd (Src.CAP_ENTRY j)
  if bitAt acts 0 && m.on Col.CAP_AUTOFREE && e < 64 && (Tab.get none m.col.waits e).isNone &&
     m.word Col.CAP_DATA (16 * e + 4) % 65536 == j then capFree (2 ^ e) m else m

/-- Mark the suppression of a source without a token: the first since STICKY was cleared raises STORM (R450). -/
def suppress (j : Nat) (m : Mach) : Mach :=
  if (m.src j).stormed then m
  else raiseEv 1507 { noCtx with kind := 10, unit := j, level := 4 }
    (m.updSrc j fun x => { x with stormed := true })

/-- Take the first pending source that has a token; those before it wait (R448, R450). -/
def deliverFirst : List Nat → Mach → Mach
  | [], m => m
  | j :: js, m => if hasToken m j then deliver j m else deliverFirst js (suppress j m)

/-- The management subsystem takes one pending source (R448). -/
def eventDelivery (m : Mach) : Mach := if m.mgmt.up then deliverFirst (deliveryOrder m) m else m

/-- Whether some pending source waits for a storm token (R450). -/
def stormWaiting (m : Mach) : Bool := m.mgmt.up && (deliveryOrder m).any fun j => !hasToken m j

/-- NOTIFY_ACK: every notification up to the acknowledged sequence is done (R53). A sequence that no unacknowledged one has
acknowledges nothing. -/
def notifyAck (k seq : Nat) (m : Mach) : Mach :=
  let x := m.sess k
  if x.unacked.any (fun u => u.seq == seq) then
    let m := m.updSess k fun x => { x with unacked := (x.unacked.dropWhile fun u => u.seq != seq).drop 1 }
    sendNotes 16 k m
  else m

/-- The oldest unacknowledged notification of session k has waited NOTIFY_RETRY_MS (R53). -/
def notifyRetryExpiry (k : Nat) (m : Mach) : Mach :=
  match (m.sess k).unacked with
  | [] => m
  | u :: rest =>
    if m.now.stitch < u.sent + msStitches (m.rd Preoc.NOTIFY_RETRY_MS) then m
    else if u.tries < m.rd Preoc.NOTIFY_TRIES then
      (m.updSess k fun x => { x with unacked := { u with tries := u.tries + 1, sent := m.now.stitch } :: rest }).emit
        (.notify (sessEnd k m) k u.seq u.payload)
    else
      sendNotes 1 k ((m.updSess k fun x => { x with unacked := rest }).bump (Sess.NOTIFY_LOST k) 1)

/-- FLUSH_MS has passed since the page's first record (R62). -/
def logFlushTimer (flashOk : Bool) (m : Mach) : Mach :=
  if m.mgmt.up && m.mgmt.page.first + msNs (m.rd Log.FLUSH_MS) ≤ m.now.ftime then flushPage flashOk m else m

/-- CLEAR empties the ring; SEQ continues (0x1080.06). -/
def logClear (m : Mach) : Mach :=
  { m with mgmt := { m.mgmt with page := ⟨[], 0⟩ }, flash := { m.flash with ring := [], count := 0 } }

end Sys2Proof.Machine
end

