-- ==== Sys2Proof/Machine/Txn.lean ====
section
/-! DEFINITION. Open transactions and the errors of the far side (R93 to R95), target semaphores (R91), and
the answers that a requester receives. -/

namespace Sys2Proof.Machine

/-- Do an action of an entry: answer the status of the check it fails, or do it and answer OK (R44). -/
def actAnyway (check : Mach → Option Status) (effect : Mach → Mach) (m : Mach) : Mach :=
  match check m with
  | some st => m.emit (.answer st 0)
  | none => (effect m).emit (.answer .ok 0)

/-- A write that a command makes by name: no request arrives while the management subsystem is down (R32). -/
def act (check : Mach → Option Status) (effect : Mach → Mach) (m : Mach) : Mach :=
  if m.mgmt.up then actAnyway check effect m else m

/-- SET_STATE, EPOCH and DRAIN_LEFT of a check site: 0 the central table, 1 + p the gate of port p. -/
def setStateKey (t : Nat) : Nat := if t = 0 then Ct.SET_STATE else Gate.SET_STATE (t - 1)
def epochKey (t : Nat) : Nat := if t = 0 then Ct.EPOCH else Gate.EPOCH (t - 1)
def drainKey (t : Nat) : Nat := if t = 0 then Ct.DRAIN_LEFT else Gate.DRAIN_LEFT (t - 1)

/-- Stamp an access to an address checked at a site (R298). -/
def stamp (t port tag addr : Nat) (m : Mach) : Mach :=
  { m with protect := { m.protect with stamps := m.protect.stamps ++ [⟨t, m.rd (epochKey t), port, tag, addr⟩] } }

/-- One stamp retires: at a draining site, an access of the previous epoch is no longer outstanding (R298). -/
def retireOne (x : Stamp) (m : Mach) : Mach :=
  if m.rd (setStateKey x.site) = 3 && x.epoch != m.rd (epochKey x.site) then
    m.wr (drainKey x.site) (m.rd (drainKey x.site) - 1)
  else m

/-- Every stamp of a requester's access retires (R298). -/
def retire (port tag : Nat) (m : Mach) : Mach :=
  let mine := m.protect.stamps.filter fun x => x.port == port && x.tag == tag
  let m := { m with protect := { m.protect with
    stamps := m.protect.stamps.filter fun x => !(x.port == port && x.tag == tag) } }
  forAll mine retireOne m

/-- An access goes to the lane block of its target port, which takes it in the next stitch (R298; log entry 28). -/
def handOver (port tag : Nat) (m : Mach) : Mach :=
  if m.protect.stamps.any fun x => x.port == port && x.tag == tag then
    { m with protect := { m.protect with handed := m.protect.handed ++ [(port, tag)] } }
  else m

/-- The lane blocks take what was handed to them (R298). -/
def retireHanded (m : Mach) : Mach :=
  forAll m.protect.handed (fun x m => retire x.1 x.2 m) { m with protect := { m.protect with handed := [] } }

/-- A transaction opens in this stitch (R93). -/
def openTxn (t : Txn) (m : Mach) : Mach :=
  { m with edge := { m.edge with txns := m.edge.txns ++ [{ t with since := m.now.stitch }] } }

/-- The oldest open transaction of a port with a tag. -/
def findTxn (m : Mach) (p tag : Nat) : Option Txn :=
  m.edge.txns.find? fun t => t.port == p && t.tag == tag

/-- Remove the first transaction of a port with a tag. -/
def dropTxn (p tag : Nat) : List Txn → List Txn
  | [] => []
  | t :: ts => if t.port == p && t.tag == tag then ts else t :: dropTxn p tag ts

/-- A transaction closes. -/
def closeTxn (p tag : Nat) (m : Mach) : Mach :=
  { m with edge := { m.edge with txns := dropTxn p tag m.edge.txns } }

/-- Place of an event at port p for an access of a slice (R12, R441). -/
def accessCtx (m : Mach) (p slice addr access : Nat) : Ctx :=
  { portCtx p with
    slice := slice
    gen := if slice < 4096 then m.rd (Slc.SLC_GEN slice) else 0
    addr := addr
    initKind := 1
    initId := p
    access := access
    flags := 1 }

/-- The port number of the switch's own requester: a management window access. -/
def ownPort : Nat := 255

/-- A management window with no access in flight clears its MW_ENABLE when that was asked (R66). -/
def mwSettle (k : Nat) (m : Mach) : Mach :=
  if m.mgmt.closing.contains k && !m.mgmt.accesses.any (·.m == k) then
    { m.wr (Mw.MW_ENABLE k) 0 with mgmt := { m.mgmt with closing := m.mgmt.closing.erase k } }
  else m

/-- A line of a management window access is answered, with the 64 B of a read. The core receives its data, or a bus error, with
the last line (R64, R65). -/
def mwDone (tag : Nat) (bad : Bool) (data : Nat) (m : Mach) : Mach :=
  match m.mgmt.accesses.find? fun a => a.pieces.any (·.tag == tag) with
  | none => m
  | some a =>
    let here := (a.pieces.filter (·.tag == tag)).flatMap (·.at_)
    let b : MwAccess := { a with
      pieces := a.pieces.filter (·.tag != tag)
      data := if a.write then a.data else here.foldl (fun v x => setBits v (8 * x.1) 8 (byteAt data x.2)) a.data
      bad := a.bad || bad }
    if b.pieces.isEmpty then
      let m := { m with mgmt := { m.mgmt with accesses := m.mgmt.accesses.erase a } }
      let m := if b.bad then m.emit (.busError b.m) else if b.write then m else m.emit (.busData b.m b.data)
      mwSettle b.m m
    else { m with mgmt := { m.mgmt with accesses := m.mgmt.accesses.map fun x => if x = a then b else x } }

/-- The stream of a protocol has no key in both directions while its IDE is on (R75): 0 CXL.io, 1 CXL.cachemem. -/
def ideBlocked (m : Mach) (p kind : Nat) : Bool :=
  m.on (if kind = 0 then PortIde.IO_IDE p else PortIde.CM_IDE p) &&
  getBits (m.rd (PortIde.IDE_STATE p)) (2 * kind) 2 != 3

/-- IDE_KEY (R98). -/
def ideKey (p : Nat) (m : Mach) : Mach := raiseEv (16 * p + 5) (portCtx p) m

/-- Traffic of a protocol is held for want of a key: the first raises IDE_KEY (R75). -/
def ideHold (p kind : Nat) (m : Mach) : Mach :=
  if bitAt (m.port p).holding kind then m
  else ideKey p (m.updPort p fun x => { x with holding := setBit x.holding kind true })

/-- Send on the link of a port, or to a seam. While the port's stream has no keys it sends no flit of that protocol, and what would
leave waits (R75). -/
def sendOn (p kind : Nat) (o : Out) (m : Mach) : Mach :=
  if p < 64 && ideBlocked m p kind then ideHold p kind (m.updPort p fun x => { x with heldOut := x.heldOut ++ [(kind, o)] })
  else m.emit o

/-- The protocol of an answer. -/
def answerKind : Out → Nat
  | .complete _ _ _ _ _ => 0
  | _ => 1

/-- The needle engine answers the bridge for a line of a management window: data, or a status (R196). -/
def windowAnswer (tag : Nat) (bad : Bool) (data : Nat) (m : Mach) : Mach :=
  let read := m.mgmt.accesses.any fun a => !a.write && a.pieces.any (·.tag == tag)
  nocPut 5 needleEnd bridgeEnd 0 tag (if read then some data else none) (.answer tag bad data) m

/-- An answer to a requester: it is sent to a port, and taken by the needle engine for a management window. -/
def answerTo (port tag bad data : Nat) (o : Out) (m : Mach) : Mach :=
  if port = ownPort then windowAnswer tag (bad != 0) data m
  else if 256 ≤ port then { m with answers := m.answers ++ [⟨port, tag, bad, data⟩] }
  else sendOn port (answerKind o) o m

/-- One line of a transaction is answered: the transaction closes with its last line (R93, R234). -/
def closeLine (p tag : Nat) (m : Mach) : Mach :=
  match findTxn m p tag with
  | none => m
  | some t =>
    if t.lines ≤ 1 then closeTxn p tag m
    else { m with edge := { m.edge with txns := m.edge.txns.map fun x => if x = t then { x with lines := x.lines - 1 } else x } }

/-- The answer that a requester receives for an error: a CXL.io completion with the status; CXL.mem data with
poison, or the completion the protocol requires (R14, R94). -/
def errorAnswer (t : Txn) (status : Nat) (m : Mach) : Mach :=
  if t.io then answerTo t.port t.tag 2 0 (.complete t.port t.tag status 0 false) m
  else answerTo t.port t.tag 2 0 (.coherent t.port t.tag t.grant 0 t.read) m

/-- An error arrives for an open transaction, or its egress link is lost while it is open (R94). -/
def farErrorOpen (t : Txn) (status : Nat) (m : Mach) : Mach :=
  let m := closeTxn t.port t.tag m
  let m := errorAnswer t status m
  let e := if t.egress < 64 then t.egress else t.port
  if e < 64 then
    raiseEv (16 * e + 10) { accessCtx m e t.slice t.addr 5 with gen := t.gen, initKind := 1, initId := t.port } m
  else m

/-- A response arrives for a transaction that is already closed (R95). -/
def farErrorClosed (p : Nat) (m : Mach) : Mach :=
  if p < 64 then raiseEv (16 * p + 11) (portCtx p) (m.bump (PortErr.LATE_CPL p) 1) else m

/-- The semaphore key of a target (R91). -/
def targetKey (egress : Nat) (ld : Option Nat) : Nat :=
  egress * 32 + (match ld with
    | none => 0
    | some l => l % 16 + 1)

/-- The semaphore of a target. -/
def Mach.sem (m : Mach) (k : Nat) : Sem := Tab.get Sem.reset m.edge.sems k

def Mach.putSem (m : Mach) (k : Nat) (x : Sem) : Mach :=
  { m with edge := { m.edge with sems := Tab.put Sem.reset m.edge.sems k x } }

/-- The generation of a slice. -/
def genOf (m : Mach) (slice : Nat) : Nat := if slice < 4096 then m.rd (Slc.SLC_GEN slice) else 0

/-- A forwarded CXL.io request by its kind: 16 and its own, or 24 and the code of an AtomicOp. -/
def ioCode (r : IoReq) : Nat := if r.kind = 2 then 24 + r.atomCode else 16 + r.kind

/-- The payload of a CXL.io request; that of an AtomicOp is its operand, after the compared value of a CAS (R261). -/
def ioPayload (r : IoReq) : Nat :=
  if r.kind != 2 then r.data
  else if r.atomCode = 2 then r.compare % 2 ^ (8 * r.atomSize) + r.operand * 2 ^ (8 * r.atomSize) else r.operand

/-- Forward a CXL.io request to its target at an address: one that needs a response opens a transaction (R93). -/
def forwardIo (r : IoReq) (slice egress : Nat) (ld : Option Nat) (addr : Nat) (m : Mach) : Mach :=
  let m := handOver r.port r.tag (sendOn egress 0 (.forward r.port r.tag egress ld (ioCode r) addr r.len (ioPayload r) (2 ^ r.len - 1) r.poison) m)
  if r.kind = 0 || r.kind = 2 || r.kind = 3 then
    openTxn ⟨r.port, r.tag, true, r.kind != 3, egress, ld, r.vcs, slice, genOf m slice, r.addr, r.len, 0, 0, 1, r.ld, 0⟩ m
  else m

/-- A request that no longer waits for its semaphore: it is forwarded, or it goes to the slice that serves its window. -/
def letGo (w : IoWait) (m : Mach) : Mach :=
  if w.tracked.isSome then { m with edge := { m.edge with served := m.edge.served ++ [w] } }
  else forwardIo w.req w.slice w.egress w.ld w.addr m

/-- Requests that wait for a semaphore and satisfy a test leave its queue, and their stamps retire (R93, R298). -/
def dropWaiting (test : IoWait → Bool) (m : Mach) : Mach :=
  let m := forAll ((m.edge.sems.flatMap (·.2.waiting)).filter test) (fun w m => retire w.req.port w.req.tag m) m
  forAll (m.edge.sems.map (·.1)) (fun k m =>
    m.putSem k { m.sem k with waiting := (m.sem k).waiting.filter fun w => !test w }) m

/-- The requests that wait for a semaphore. -/
def allWaiting (m : Mach) : List IoWait := m.edge.sems.flatMap (·.2.waiting)

/-- The transaction of a request that waits for a semaphore: it has passed the edge bridge, and is open (R93). -/
def waitTxn (m : Mach) (w : IoWait) : Txn :=
  ⟨w.req.port, w.req.tag, true, w.req.kind != 3, w.egress, w.ld, w.req.vcs, w.slice, genOf m w.slice, w.req.addr, w.req.len, 0, 0, 1,
   w.req.ld, w.since⟩

/-- End every open transaction on port p as a link loss (R69, R87): those it requested lose their context, and those that wait for
its far side, or for its semaphore, are answered. -/
def endTransactions (p : Nat) (m : Mach) : Mach :=
  let out := m.edge.txns.filter fun t => t.egress == p && t.port != p
  let m := { m with edge := { m.edge with
    txns := m.edge.txns.filter fun t => t.port != p, served := m.edge.served.filter fun w => w.req.port != p } }
  let waits := (allWaiting m).filter fun w => w.egress == p && w.req.port != p
  let m := forAll out (fun t m => farErrorOpen t 1 m) (dropWaiting (fun w => w.egress == p) m)
  forAll waits (fun w m =>
    if w.req.kind = 0 || w.req.kind = 2 || w.req.kind = 3 then farErrorOpen (waitTxn m w) 1 m
    else if p < 64 then raiseEv (16 * p + 10) { accessCtx m p w.slice w.addr 2 with initId := w.req.port } m
    else m) m

/-- Serve the queue of a released semaphore in arrival order (R91): until a locked read takes it, every waiting
request proceeds; behind it only the new holder's own requests pass. -/
def serveWaiting : List IoWait → Option Nat → Mach → List IoWait × Option Nat × Mach
  | [], h, m => ([], h, m)
  | w :: ws, h, m =>
    let may := match h with
      | none => true
      | some p => w.req.port == p
    if may then
      let h' := if w.locked then some w.req.port else h
      serveWaiting ws h' (letGo w m)
    else
      let (rest, h', m) := serveWaiting ws h m
      (w :: rest, h', m)

/-- Release the semaphore of target k (R91). -/
def releaseSem (k : Nat) (m : Mach) : Mach :=
  let (rest, h, m) := serveWaiting (m.sem k).waiting none m
  m.putSem k ⟨h, rest, m.now.stitch⟩

/-- Release every semaphore that the requester at port p holds, and drop what it waits for (R91). -/
def releaseHolder (p : Nat) (m : Mach) : Mach :=
  let keys := m.edge.sems.map (·.1)
  let m := forAll keys (fun k m =>
    let x := m.sem k
    m.putSem k { x with waiting := x.waiting.filter fun w => w.req.port != p }) m
  forAll (keys.filter fun k => (m.sem k).holder == some p) releaseSem m

/-- A request needs a block whose domain is off: it is answered at once and counted (R14). -/
def powerRefused (t : Txn) (m : Mach) : Mach :=
  let m := errorAnswer t 1 m
  if t.port < 64 then
    raiseEv (16 * t.port + 12) (accessCtx m t.port t.slice t.addr 0) (m.bump (PortErr.POWER_REFUSED t.port) 1)
  else m

end Sys2Proof.Machine
end

