-- ==== Sys2Proof/Machine/Windows.lean ====
section
/-! DEFINITION. Pool windows: their checks, the decoding of an address, and the place a member resolves to
(R278 to R286, R525). -/

namespace Sys2Proof.Machine

/-- Twin mode (R384). -/
def Mach.twinMode (m : Mach) : Bool := [2, 3, 4, 5, 7].contains (m.rd Twin.TWIN_STATE)

/-- The twin is fenced (R402). -/
def fenced (m : Mach) : Bool := m.rd Twin.TWIN_STATE == 3 || m.rd Twin.TWIN_STATE == 4

/-- A seam to the peer twin is active. -/
def twinSeam (m : Mach) (s : Nat) : Bool := m.rd (SeamCfg.SEAM_ROLE s) == 0 && m.rd (SeamStat.LINK_STATE s) == 3

/-- The active seam to the peer for traffic that prefers seam `n` mod 2 (R395). -/
def peerSeam (m : Mach) (n : Nat) : Option Nat :=
  if twinSeam m (n % 2) then some (n % 2) else if twinSeam m (1 - n % 2) then some (1 - n % 2) else none

/-- 0 on twin A, 1 on twin B. A switch that has no seam partner operates as twin A, whatever its strap (R3). -/
def Mach.role (m : Mach) : Nat := if m.rd Twin.TWIN_STATE = 0 then 0 else m.rd Ident.ROLE

/-- A plain PCIe partner takes no CXL.mem (R70). -/
def takesMem (m : Mach) (p : Nat) : Bool := p ≥ 64 || (m.rd (PortStat.FLIT_NOW p) != 4 && m.rd (PortStat.PARTNER p) != 1)

/-- Windows whose W_STATE reads v, ascending. -/
def windowsInState (m : Mach) (v : Nat) : List Nat :=
  (m.pb.filter fun e => 0x34000D ≤ e.1 && e.1 < 0x380000 && e.1 % 256 == 0x0D && e.2 == v).map
    fun e => (e.1 - 0x34000D) / 256

/-- Bytes of one granule of W_SIZE. -/
def granule : Nat := 2 ^ 28

def winBase (m : Mach) (w : Nat) : Nat := m.rd (Win.W_BASE w)
def winEnd (m : Mach) (w : Nat) : Nat := winBase m w + granule * m.rd (Win.W_SIZE w)

/-- Whether fabric address a lies in the range of window w. -/
def inWindow (m : Mach) (w a : Nat) : Bool := winBase m w ≤ a && a < winEnd m w

/-- The window of an address, enabled (R281). -/
def findWindow (m : Mach) (a : Nat) : Option Nat := (windowsInState m 1).find? fun w => inWindow m w a

/-- The window of an address, enabled or draining. -/
def findWindowOrDraining (m : Mach) (a : Nat) : Option Nat :=
  (windowsInState m 1 ++ windowsInState m 2).find? fun w => inWindow m w a

/-- W_TYPE values (R211). -/
def winTracked (m : Mach) (w : Nat) : Bool := m.rd (Win.W_TYPE w) == 1

/-- Target descriptor of member i of window w (R278). -/
def winTarget (m : Mach) (w i : Nat) : Nat := getBits (m.rd (Win.W_TARGETS w)) (64 * i) 64

/-- KIND, PORT, LD, PBR_ID and DEV_BASE of a target descriptor. -/
def tgtKind (d : Nat) : Nat := getBits d 0 2
def tgtPort (d : Nat) : Nat := getBits d 2 6
def tgtLd (d : Nat) : Option Nat := if bitAt d 12 then some (getBits d 8 4) else none
def tgtPbr (d : Nat) : Nat := getBits d 16 12
def tgtBase (d : Nat) : Nat := getBits d 32 32

/-- Ways of window w. -/
def winWays (m : Mach) (w : Nat) : Nat := 2 ^ m.rd (Win.W_WAYS w)

/-- Member of fabric address a in window w (R282). -/
def memberOf (m : Mach) (w a : Nat) : Nat :=
  (a - winBase m w) / 2 ^ (8 + m.rd (Win.W_GRAN w)) % winWays m w

/-- Device address of fabric address a in window w (R282). -/
def deviceAddr (m : Mach) (w a : Nat) : Nat :=
  let g := 8 + m.rd (Win.W_GRAN w)
  let o := a - winBase m w
  tgtBase (winTarget m w (memberOf m w a)) * granule + o / 2 ^ (g + m.rd (Win.W_WAYS w)) * 2 ^ g + o % 2 ^ g

/-- Where a member resolves to (R278, R525). -/
inductive Dest
  | port (p : Nat) (ld : Option Nat)
  | seam (s : Nat)
  | peer
  | none
  deriving DecidableEq, Repr

/-- The port of a GFD with a PBR ID (R278). -/
def gfdPort (m : Mach) (pbr : Nat) : Option Nat :=
  firstBelow 64 fun p => m.rd (Port.PBR_BASE p) == pbr / 16 * 16 && m.rd (PortStat.PARTNER p) == 6

/-- The fabric-role seam that a PBR ID is routed to (R278). -/
def pbrSeam (m : Mach) (pbr : Nat) : Option Nat :=
  firstBelow 2 fun s => m.rd (SeamCfg.SEAM_ROLE s) == 1 && m.rd (SeamCfg.PEER_PBR_LO s) ≤ pbr &&
    pbr ≤ m.rd (SeamCfg.PEER_PBR_HI s)

/-- The place of a KIND 2 target. -/
def resolvePbr (m : Mach) (pbr : Nat) : Dest :=
  match gfdPort m pbr with
  | some p => .port p .none
  | none =>
    match pbrSeam m pbr with
    | some s => .seam s
    | none => .none

/-- The place of a target descriptor at the moment a request is forwarded (R525). -/
def resolve (m : Mach) (d : Nat) : Dest :=
  match tgtKind d with
  | 1 =>
    let p := tgtPort d
    if m.on (Port.ENABLE p) && m.rd (PortStat.LTSSM p) != 0 && m.rd (PortStat.LTSSM p) != 1 && m.rd (PortStat.PARTNER p) != 6
    then .port p (tgtLd d) else .none
  | 2 => resolvePbr m (tgtPbr d)
  | 3 => .peer
  | _ => .none

/-- Whether two windows' ranges overlap. -/
def windowsMeet (m : Mach) (v w : Nat) : Bool := winBase m v < winEnd m w && winBase m w < winEnd m v

/-- The first broken condition of an enable of window w (R279). -/
def windowEnableCheck (w : Nat) (m : Mach) : Option Status :=
  let others := (windowsInState m 1 ++ windowsInState m 2).filter (· != w)
  let members := List.range (winWays m w)
  if m.rd (Win.W_STATE w) = 2 then some .busy                                    -- R286
  else if m.rd (Win.W_SIZE w) = 0 || winEnd m w > 2 ^ 52 then some .range
  else if others.any (windowsMeet m w) then some .state
  else if (others.map fun v => m.rd (Win.W_SIZE v)).sum + m.rd (Win.W_SIZE w) > 2 ^ 20 then some .state
  else if members.any (fun i => tgtKind (winTarget m w i) == 0) then some .state
  else if members.any (fun i =>
      let d := winTarget m w i
      (tgtKind d == 1 && !(m.on (Port.ENABLE (tgtPort d)) && m.rd (Port.ROLE (tgtPort d)) == 0)) ||
      (tgtKind d == 2 && resolvePbr m (tgtPbr d) == .none)) then some .state
  else if !m.twinMode && (members.any (fun i => tgtKind (winTarget m w i) == 3) ||
      m.rd (Win.W_HOME w) != m.role) then some .state
  else if winTracked m w && (List.range 4).any (fun c => m.rd (Ce.CE_STATE c) != 2) then some .state
  else if m.rd (Win.W_SWAP w) ≥ 2 && !([2, 4, 8].contains (m.rd (Win.W_ELEM w))) then some .range
  else none

/-- An accepted enable (R279). A write of 1 to a window that is enabled changes nothing. -/
def windowEnable (w : Nat) (m : Mach) : Mach := (m.wr (Win.W_ENABLE w) 1).wr (Win.W_STATE w) 1

/-- An accepted disable: the window drains (R286). -/
def windowDisable (w : Nat) (m : Mach) : Mach :=
  let m := m.wr (Win.W_ENABLE w) 0
  if m.rd (Win.W_STATE w) = 1 then m.wr (Win.W_STATE w) 2 else m

/-- Why a write of another entry of window w fails (R280). -/
def windowWriteCheck (w : Nat) (m : Mach) : Option Status :=
  match m.rd (Win.W_STATE w) with
  | 1 => some .state
  | 2 => some .busy
  | _ => none

end Sys2Proof.Machine
end

