-- ==== Sys2Proof/Machine/Protection.lean ====
section
/-! DEFINITION. Protection rules: the sewn and basted banks of the central table and of the thimble gates, the
check of an access, and swaps (R287 to R301). A site is 0 for the central table and 1 + p for the gate of
port p. -/

namespace Sys2Proof.Machine

/-- The number of a site. -/
def siteNo : Site → Nat
  | .central => 0
  | .gate p => p + 1

/-- A site's entries. -/
def sewnKey (t : Nat) : Nat := if t = 0 then Ct.SEWN_BANK else Gate.SEWN_BANK (t - 1)
def pairKey (t : Nat) : Nat := if t = 0 then Ct.OVERLAP_PAIR else Gate.OVERLAP_PAIR (t - 1)
def refusedKey (t : Nat) : Nat := if t = 0 then Ct.REFUSED else Gate.REFUSED (t - 1)

/-- The key of bank b of a site. -/
def bankKey (t b : Nat) : Nat :=
  if t = 0 then CtBank.CT_BANK0 + b else Gate.GATE_BANK0 (t - 1) + b

/-- Rules in a bank of a site. -/
def bankRules (t : Nat) : Nat := if t = 0 then 8192 else 64

/-- Beside its entries. -/
def Mach.site (m : Mach) (t : Nat) : SiteSt := Tab.get SiteSt.reset m.protect.sites t

def Mach.updSite (m : Mach) (t : Nat) (f : SiteSt → SiteSt) : Mach :=
  { m with protect := { m.protect with sites := Tab.upd SiteSt.reset m.protect.sites t f } }

/-- The quadrant whose sources carry a site's events (R302). -/
def siteQuadrant (t : Nat) : Nat := if t = 0 then 0 else portQuadrant (t - 1)

/-- A site raises event k of its quadrant; the capture names site, bank and rule (R302). -/
def siteEvent (t k bank rule : Nat) (m : Mach) : Mach :=
  raiseEv (1344 + 16 * siteQuadrant t + k)
    { noCtx with kind := if t = 0 then 12 else 13, unit := if t = 0 then 0 else t - 1, level := 4,
                 quad := siteQuadrant t, flags := 4, detail := t + bank * 2 ^ 32 + rule * 2 ^ 64 } m

/-- Rule r of bank b of a site, 128 bits (R288). -/
def ruleOf (m : Mach) (t b r : Nat) : Nat :=
  if t = 0 then m.words (bankKey t b) (4 * r) 4 else getBits (m.rd (bankKey t b)) (128 * r) 128

def ruleValid (x : Nat) : Bool := bitAt x 0
def ruleSlice (x : Nat) : Nat := getBits x 8 12
def ruleMask (x : Nat) : Nat := getBits x 20 12
def ruleFirst (x : Nat) : Nat := getBits x 32 40
def ruleLast (x : Nat) : Nat := getBits x 72 40

/-- Numbers of the valid rules of a bank, ascending. -/
def validRules (m : Mach) (t b : Nat) : List Nat :=
  if t = 0 then
    let lo := wordKey (bankKey t b) 0
    (m.ram.filter fun e => lo ≤ e.1 && e.1 < lo + 2 ^ 24 && (e.1 - lo) % 4 == 0 && e.2 % 2 == 1).map
      fun e => (e.1 - lo) / 4
  else (List.range 64).filter fun r => ruleValid (ruleOf m t b r)

/-- A rule matches slice s (R288). -/
def ruleMatches (x s : Nat) : Bool := Nat.land (Nat.xor s (ruleSlice x)) (ruleMask x) == 0

/-- A rule covers a page. -/
def ruleCovers (x page : Nat) : Bool := ruleFirst x ≤ page && page ≤ ruleLast x

/-- A rule grants every permission needed: bit 0 RD, bit 1 WR, bit 2 AT (R287). -/
def ruleGrants (x need : Nat) : Bool := Nat.land (getBits x 1 3) need == need

/-- Two rules overlap (R289). -/
def rulesOverlap (x y : Nat) : Bool :=
  ruleFirst x ≤ ruleLast y && ruleFirst y ≤ ruleLast x &&
  Nat.land (Nat.land (Nat.xor (ruleSlice x) (ruleSlice y)) (ruleMask x)) (ruleMask y) == 0

/-- The first overlapping pair with the lowest numbers among rules of a bank. -/
def firstOverlap (m : Mach) (t b : Nat) : List Nat → Option (Nat × Nat)
  | [] => none
  | r :: rs =>
    match rs.find? fun q => rulesOverlap (ruleOf m t b r) (ruleOf m t b q) with
    | some q => some (r, q)
    | none => firstOverlap m t b rs

/-- The overlapping pair of a whole bank, if any (R289, R296). -/
def bankOverlap (m : Mach) (t b : Nat) : Option (Nat × Nat) := firstOverlap m t b (validRules m t b)

/-- Verdict on one page: 0 allowed, 1 no rule, 2 permission, 6 rule error (R287, R301). -/
def pageVerdict (m : Mach) (t s need page : Nat) : Nat :=
  let b := m.rd (sewnKey t)
  let x := m.site t
  let hits := (validRules m t b).filter fun r =>
    let q := ruleOf m t b r
    ruleMatches q s && ruleCovers q page
  let good := hits.filter fun r => !(x.bad.contains (b, r))
  if x.blocked then 1
  else if good.any (fun r => ruleGrants (ruleOf m t b r) need) then 0
  else if !good.isEmpty then 2
  else if hits.any (fun r => ruleGrants (ruleOf m t b r) need) then 6
  else 1

/-- The refusal cause of an access by slice s to len bytes from address a (R287, R292, R294); none when it
is allowed. -/
def checkAccess (m : Mach) (t s need a len : Nat) : Option Nat :=
  if need = 0 then none
  else
    let f := a / 4096
    let l := (a + (len - 1)) / 4096
    match pageVerdict m t s need f with
    | 0 => if (List.range (l - f)).all fun k => pageVerdict m t s need (f + 1 + k) == 0 then none else some 3
    | v => some v

/-- The permissions an access needs (R287): RD, WR and AT as bits 0 to 2. -/
def needRead : Nat := 1
def needWrite : Nat := 2
def needOwn : Nat := 3
def needAtomic : Nat := 7

/-- A swap is complete in stitch `at_`: the former sewn bank can be written (R298). -/
def swapComplete (t at_ : Nat) (m : Mach) : Mach :=
  let m := m.wr (setStateKey t) 0
  let m := if t = 0 then m.wr Ct.SWAP_STITCH at_ else m
  siteEvent t 13 (m.rd (sewnKey t)) 0 m

/-- Complete the swap of a site that drains when no access of the previous epoch is left (R298). -/
def swapTest (t : Nat) (m : Mach) : Mach :=
  if m.rd (setStateKey t) = 3 && m.rd (drainKey t) = 0 then swapComplete t m.now.stitch m else m

/-- Why a write to bank b of a site fails (R295, R297). -/
def ruleWriteCheck (t b : Nat) (m : Mach) : Option Status :=
  if b = m.rd (sewnKey t) then some .state
  else if m.rd (setStateKey t) = 3 || (m.site t).copying || (m.site t).swappedAt == some m.now.stitch then some .busy
  else none

/-- A write to the basted bank was accepted: a check runs or is extended (R296), for 8 stitches a rule at the central table and one
stitch at a gate. The rules rewritten are good again (R301). -/
def ruleWritten (t b first count : Nat) (m : Mach) : Mach :=
  let from_ := if m.rd (setStateKey t) = 1 then (m.site t).due else m.now.stitch - 1
  (m.wr (setStateKey t) 1).updSite t fun x => { x with
    writtenAt := some m.now.stitch
    due := from_ + (if t = 0 then 8 * count else 1)
    bad := x.bad.filter fun q => !(q.1 == b && first ≤ q.2 && q.2 < first + count) }

/-- The verdict on the basted bank is shown: 2 and RULE_OVERLAP when a pair overlaps, otherwise 0 (R296). -/
def judgeBank (t b : Nat) (m : Mach) : Mach :=
  match bankOverlap m t b with
  | some (r, q) =>
    let m := (m.wr (setStateKey t) 2).wr (pairKey t) (r + q * 2 ^ 16 + 2 ^ 31)
    siteEvent t 12 b r m
  | none => (m.wr (setStateKey t) 0).wr (pairKey t) 0

/-- The check of the written rules ends (R296). -/
def ruleCheckDone (t : Nat) (m : Mach) : Mach :=
  if m.rd (setStateKey t) = 1 && !(m.site t).copying then judgeBank t (1 - m.rd (sewnKey t)) m else m

/-- Why RULE_COPY fails (R295, R297). -/
def ruleCopyCheck (t : Nat) (m : Mach) : Option Status :=
  if m.rd (setStateKey t) = 1 || m.rd (setStateKey t) = 3 || (m.site t).swappedAt == some m.now.stitch
  then some .busy else none

/-- RULE_COPY starts (R295). -/
def ruleCopy (t : Nat) (m : Mach) : Mach :=
  (m.wr (setStateKey t) 1).updSite t fun x => { x with copying := true, due := m.now.stitch - 1 + (if t = 0 then 128 else 1) }

/-- The contents of bank a of a site are written to bank b. -/
def copyBank (t a b : Nat) (m : Mach) : Mach :=
  if t = 0 then
    let la := wordKey (bankKey t a) 0
    let lb := wordKey (bankKey t b) 0
    let src := m.ram.filter fun e => la ≤ e.1 && e.1 < la + 2 ^ 24
    let keep := Tab.drop (fun k => lb ≤ k && k < lb + 2 ^ 24) m.ram
    { m with ram := src.foldl (fun t e => Tab.put 0 t (e.1 - la + lb) e.2) keep }
  else m.wr (bankKey t b) (m.rd (bankKey t a))

/-- RULE_COPY ends: the basted bank equals the sewn bank (R295). -/
def ruleCopyDone (t : Nat) (m : Mach) : Mach :=
  if (m.site t).copying then
    let a := m.rd (sewnKey t)
    let m := m.updSite t fun x => { x with
      copying := false
      bad := x.bad.filter fun q => q.1 == a }
    judgeBank t (1 - a) (copyBank t a (1 - a) m)
  else m

/-- A check or a copy whose time is over ends (R295, R296). -/
def siteStep (t : Nat) (m : Mach) : Mach :=
  if m.rd (setStateKey t) != 1 || m.now.stitch < (m.site t).due then m
  else if (m.site t).copying then ruleCopyDone t m else ruleCheckDone t m

/-- Why SWAP fails (R297). A refused swap of an overlapping bank raises RULE_OVERLAP again. -/
def swapCheck (t : Nat) (m : Mach) : Option Status :=
  if m.rd (setStateKey t) = 1 || m.rd (setStateKey t) = 3 || (m.site t).writtenAt == some m.now.stitch ||
     (m.site t).swappedAt == some m.now.stitch then some .busy
  else if m.rd (setStateKey t) = 2 then some .state
  else none

/-- An accepted SWAP (R297): the basted bank becomes sewn, EPOCH rises, and the former sewn bank is frozen until
every access of the previous epoch has retired. It was accepted in the stitch before the one that runs next (log entry 21). -/
def swap (t : Nat) (m : Mach) : Mach :=
  let old := m.rd (epochKey t)
  let m := m.wr (sewnKey t) (1 - m.rd (sewnKey t))
  let m := m.bump (epochKey t) 1
  let m := m.updSite t fun x => { x with swappedAt := some m.now.stitch, blocked := false }
  let m := m.wr (drainKey t) (m.protect.stamps.filter fun x => x.site == t && x.epoch == old).length
  let m := m.wr (setStateKey t) 3
  if m.rd (drainKey t) = 0 then swapComplete t (m.now.stitch - 1) m else m

/-- SWAP as a command: the status, and RULE_OVERLAP on a bank that overlaps (R297). -/
def swapCommand (t : Nat) (m : Mach) : Mach :=
  match swapCheck t m with
  | some .state =>
    (siteEvent t 12 (1 - m.rd (sewnKey t)) (m.rd (pairKey t) % 2 ^ 13) m).emit (.answer .state 0)
  | some st => m.emit (.answer st 0)
  | none => (swap t m).emit (.answer .ok 0)

/-- A corrected word of a rule (R301). -/
def ruleCorr (t bank rule : Nat) (m : Mach) : Mach := siteEvent t 14 bank rule m

/-- A rule whose word cannot be corrected (R301). -/
def ruleUncorr (t bank rule : Nat) (m : Mach) : Mach :=
  siteEvent t 15 bank rule (m.updSite t fun x => { x with bad := (bank, rule) :: x.bad })

/-- At start-up a site whose sewn bank overlaps raises RULE_OVERLAP and allows nothing (R300). -/
def siteLoaded (t : Nat) (m : Mach) : Mach :=
  match bankOverlap m t (m.rd (sewnKey t)) with
  | some (r, _) => siteEvent t 12 (m.rd (sewnKey t)) r (m.updSite t fun x => { x with blocked := true })
  | none => m.updSite t fun x => { x with blocked := false }

end Sys2Proof.Machine
end

