-- ==== Sys2Proof/Machine/SliceMap.lean ====
section
/-! DEFINITION. Tenant slices: the slice map, the checks of keys, and the writes of a slice's record that need no
other block (R303 to R316, R319). -/

namespace Sys2Proof.Machine

/-- A source of a request in the sense of R304. -/
inductive Src3
  | none
  | ld (n : Nat)
  | pbr (n : Nat)
  deriving DecidableEq, Repr

def keyPort (k : Nat) : Nat := getBits k 0 7
def keyValid (k : Nat) : Bool := bitAt k 7
def keyKind (k : Nat) : Nat := getBits k 8 2
def keySrc (k : Nat) : Nat := getBits k 12 12
def keyPasidValid (k : Nat) : Bool := bitAt k 24
def keyPasid (k : Nat) : Nat := getBits k 32 20

/-- The eight keys of a slice's SLC_KEYS value (R304). -/
def keysOf (v : Nat) : List Nat := (List.range 8).map fun i => getBits v (64 * i) 64

/-- The valid keys of a slice's SLC_KEYS value. -/
def validKeys (v : Nat) : List Nat := (keysOf v).filter keyValid

/-- Slices whose SLC_KEYS is not 0, ascending. -/
def keyedSlices (m : Mach) : List Nat :=
  (m.pb.filter fun e => 0x400004 ≤ e.1 && e.1 < 0x500000 && e.1 % 256 == 4).map fun e => (e.1 - 0x400004) / 256

/-- SLC_STATE of slice s. -/
def sliceState (m : Mach) (s : Nat) : Nat := m.rd (Slc.SLC_STATE s)

/-- The source of a key matches that of a request (R304). -/
def srcMatches (k : Nat) : Src3 → Bool
  | .none => false
  | .ld n => keyKind k == 1 && keySrc k == n
  | .pbr n => keyKind k == 2 && keySrc k == n

/-- The PASID of a key matches. -/
def pasidMatches (k : Nat) : Option Nat → Bool
  | none => false
  | some p => keyPasidValid k && keyPasid k == p

/-- The first slice that has a valid key naming a port that satisfies a test (R305). -/
def sliceWith (m : Mach) (port : Nat) (test : Nat → Bool) : Option Nat :=
  (keyedSlices m).find? fun s => sliceState m s != 0 &&
    (validKeys (m.rd (Slc.SLC_KEYS s))).any fun k => keyPort k == port && test k

/-- DEFAULT_SLICE of a port, or of a seam as ports 65 and 66. -/
def defaultSliceKey (port : Nat) : Nat :=
  if port < 64 then PortMap.DEFAULT_SLICE port else SeamMap.DEFAULT_SLICE (port - 65)

/-- The slice of a request (R305); none when no case yields one (R306). -/
def mapSlice (m : Mach) (port : Nat) (src : Src3) (pasid : Option Nat) : Option Nat :=
  match sliceWith m port fun k => srcMatches k src && pasidMatches k pasid with
  | some s => some s
  | none =>
    match sliceWith m port fun k => srcMatches k src && !keyPasidValid k with
    | some s => some s
    | none =>
      match sliceWith m port fun k => keyKind k == 0 && pasidMatches k pasid with
      | some s => some s
      | none =>
        match sliceWith m port fun k => keyKind k == 0 && !keyPasidValid k with
        | some s => some s
        | none =>
          let d := m.rd (defaultSliceKey port)
          if d < 4096 && sliceState m d != 0 then some d else none

/-- MAP_MISS of a port or seam. -/
def mapMissKey (port : Nat) : Nat := if port < 64 then PortMap.MAP_MISS port else SeamMap.MAP_MISS (port - 65)

/-- Count and raise a map miss (R306). -/
def mapMiss (port addr : Nat) (m : Mach) : Mach :=
  raiseEv 1516 { noCtx with initKind := if port < 64 then 1 else 5,
                            initId := if port < 64 then port else port - 65, addr := addr, flags := 1 }
    (portCount port 12 65535 1 (m.bump (mapMissKey port) 1))

/-- Caching agent of port p: CA_ID of an upstream port (R310). -/
def portAgent (m : Mach) (p : Nat) : Option Nat :=
  if p < 64 && m.rd (Port.ROLE p) == 1 && m.rd (Port.CA_ID p) < 64 then some (m.rd (Port.CA_ID p)) else none

/-- The caching agent of slice s (R310). -/
def sliceAgent (m : Mach) (s : Nat) : Option Nat :=
  let p := m.rd (Slc.SLC_PORT s)
  if p < 64 && mapSlice m p .none none == some s then portAgent m p else none

/-- The port of caching agent a. -/
def agentPort (m : Mach) (a : Nat) : Option Nat := firstBelow 64 fun p => portAgent m p == some a

/-- A key is well formed (R304): otherwise RANGE. -/
def keyRange (k : Nat) : Bool :=
  (keyPort k < 64 || keyPort k == 65 || keyPort k == 66) && keyKind k != 3 &&
  (keyKind k != 0 || keySrc k == 0) && (keyKind k != 1 || keySrc k < 16) &&
  (keyPasidValid k || keyPasid k == 0)

/-- The fields of a key without the reserved ones. -/
def keyFields (k : Nat) : Nat :=
  getBits k 0 10 + getBits k 12 13 * 2 ^ 12 + getBits k 32 20 * 2 ^ 32

/-- The engine that a key's port belongs to: 0 to 15 port engines, 16 the seams (R307). -/
def keyEngine (k : Nat) : Nat := if keyPort k < 64 then keyPort k / 4 else 16

/-- Valid keys of all slices that are not free, apart from slice s. -/
def keysBeside (m : Mach) (s : Nat) : List Nat :=
  ((keyedSlices m).filter fun t => t != s && sliceState m t != 0).flatMap fun t => validKeys (m.rd (Slc.SLC_KEYS t))

/-- The keys in value v pass the checks of R307 for slice s; `live` tells that s is not free, so that its own keys count. -/
def keysFit (live : Bool) (m : Mach) (s v : Nat) : Bool :=
  let mine := validKeys v
  let others := keysBeside m s
  mine.all (fun k => keyPort k ≥ 64 || keyPort k == m.rd (Slc.SLC_PORT s)) &&
  mine.all (fun k => !(others.any fun q => keyFields q == keyFields k)) &&
  (!live || (decide (mine.map keyFields).Nodup && (List.range 17).all fun e =>
    ((mine ++ others).filter fun k => keyEngine k == e).length ≤ (if e < 16 then 4096 else 1024)))

/-- Why a write of SLC_KEYS fails (R304, R307, R328). -/
def keysWriteCheck (s v : Nat) (m : Mach) : Option Status :=
  if !((keysOf v).all keyRange) then some .range
  else if sliceState m s = 2 then some .busy
  else if !keysFit (sliceState m s != 0) m s v then some .state
  else none

/-- A key without its reserved bits (R7). -/
def keyMask : Nat := 0x000FFFFF01FFF3FF

/-- An accepted write of SLC_KEYS (R307); the CONFIG cause is set (R317). -/
def keysWrite (s v : Nat) (m : Mach) : Mach :=
  setCause s 9 (m.wr (Slc.SLC_KEYS s) (packFields 64 ((keysOf v).map fun k => Nat.land k keyMask)))

/-- Valid keys that name a port, in slices that are not free (the KEYS entries of R306's tables). -/
def keysNaming (m : Mach) (port : Nat) : Nat :=
  ((keysBeside m 4096).filter fun k => keyPort k == port).length

/-- Beside its entries. -/
def Mach.slice (m : Mach) (s : Nat) : SliceSt := Tab.get SliceSt.reset m.traffic.slices s

def Mach.updSlice (m : Mach) (s : Nat) (f : SliceSt → SliceSt) : Mach :=
  { m with traffic := { m.traffic with slices := Tab.upd SliceSt.reset m.traffic.slices s f } }

/-- The egress class of a kind of slice s's traffic (R314): 0 MEM, 1 IO, 2 RSP, 3 CACHE. -/
def classOf (m : Mach) (s kind : Nat) : Nat := getBits (m.rd (Slc.SLC_CLASSES s)) (8 * kind) 6

/-- SLC_PEND bit 0 reads 1 while any hold lasts (R314). -/
def refreshPend (s : Nat) (m : Mach) : Mach :=
  let x := m.slice s
  m.wr (Slc.SLC_PEND s) ((if x.hold.isEmpty then 0 else 1) + (if x.releasing = 0 then 0 else 2))

/-- Why a write of SLC_CLASSES fails (R314, R328, R341). -/
def classesCheck (s v : Nat) (m : Mach) : Option Status :=
  let resp := m.rd Fab.RESP_CLASSES
  let c := fun k => getBits v (8 * k) 6
  if (List.range 4).any (fun k => c k == 63) then some .range
  else if bitAt resp (c 0) || bitAt resp (c 1) || bitAt resp (c 3) || !bitAt resp (c 2) then some .range
  else if sliceState m s = 2 then some .busy
  else none

/-- An accepted write of SLC_CLASSES: each kind whose class changes is held until its old class drains (R314). A kind that a hold
keeps already waits on for the class that its packets are in. -/
def classesWrite (s v : Nat) (m : Mach) : Mach :=
  let changed := (List.range 4).filter fun k => getBits v (8 * k) 6 != classOf m s k
  let holds := fun (l : List (Nat × Nat)) => l ++ (changed.filter fun k => l.all (·.1 != k)).map fun k => (k, classOf m s k)
  let old := holds (m.slice s).hold
  let m := (m.wr (Slc.SLC_CLASSES s) (Nat.land v 0x3F3F3F3F)).updSlice s fun x => { x with hold := old }
  setCause s 9 (refreshPend s m)

/-- A kind of slice s is held (R314). -/
def kindHeld (m : Mach) (s kind : Nat) : Bool := (m.slice s).hold.any fun h => h.1 == kind

/-- Why a write of SLC_PORT fails (R313, R328). -/
def slcPortCheck (s : Nat) (m : Mach) : Option Status :=
  if sliceState m s = 2 then some .busy
  else if (validKeys (m.rd (Slc.SLC_KEYS s))).any (fun k => keyPort k < 64) then some .state
  else none

/-- Why a write of SLC_VEC_MAP or SLC_VECTORS fails (R317, R318). -/
def vecMapCheck (v : Nat) : Option Status :=
  if (List.range 10).any (fun k => 8 ≤ getBits v (4 * k) 4 && getBits v (4 * k) 4 != 15) then some .range else none

def vectorsCheck (v : Nat) : Option Status :=
  if (List.range 8).any (fun i => getBits v (128 * i) 2 != 0) then some .range else none

/-- A write of SLC_VECTORS: SENT keeps its value, and an unmasked pending vector sends (R318, R319). -/
def vectorsWrite (s v : Nat) (m : Mach) : Mach :=
  let vs := (List.range 8).map fun i =>
    getBits v (128 * i) 97 + (if bitAt (vectorOf m s i) 97 then 2 ^ 97 else 0)
  notifySlice s (m.wr (Slc.SLC_VECTORS s) (packFields 128 vs))

/-- A write of SLC_CAUSE clears the causes it names and SENT of every vector; what is still pending sends
again (R319). -/
def causeWrite (s v : Nat) (m : Mach) : Mach :=
  let c := m.rd (Slc.SLC_CAUSE s)
  let m := m.wr (Slc.SLC_CAUSE s) (c - Nat.land c v)
  let vs := (List.range 8).map fun i => getBits (vectorOf m s i) 0 97
  notifySlice s (m.wr (Slc.SLC_VECTORS s) (packFields 128 vs))

end Sys2Proof.Machine
end

