-- ==== Sys2Proof/Machine/Policing.lean ====
section
/-! DEFINITION. Buckets, ingress policers, slice shapers, time gates and weighted-share arbiters (R331 to R340,
R346 to R355). -/

namespace Sys2Proof.Machine

/-- The signed value of an S32 entry. -/
def Mach.rdS (m : Mach) (k : Nat) : Int := toSigned 32 (m.rd k)

/-- Write an S32 entry. -/
def Mach.wrS (m : Mach) (k : Nat) (x : Int) : Mach := m.wr k (ofSigned 32 x)

/-- The value of a rate, size, weight or quantum entry that is in force until the next refill (R333). -/
def inForce (m : Mach) (k : Nat) : Nat := (Tab.get none m.traffic.oldValue k).getD (m.rd k)

/-- Write a rate, size, weight or quantum: the former value stays in force until the next refill (R333). -/
def wrDelayed (k v : Nat) (m : Mach) : Mach :=
  let old := inForce m k
  { m.wr k v with traffic := { m.traffic with oldValue := Tab.put none m.traffic.oldValue k (some old) } }

/-- A bucket after a refill (R331). -/
def refilled (x : Int) (rate size : Nat) : Int := min (x + rate) size

/-- A bucket after a debit: never below -size (R331). -/
def debited (x : Int) (units size : Nat) : Int := max (x - units) (-(size : Int))

/-- Colours (R336). -/
inductive Colour | green | yellow | red
  deriving DecidableEq, Repr

/-- The colour of a request of `u` units with bucket values c and p (R336). -/
def colourOf (pre : Bool) (c p : Int) (u : Nat) : Colour :=
  if p < u then .red
  else if pre || c < u then .yellow
  else .green

/-- The colour of a write that always passes (R338). -/
def colourPassing (pre : Bool) (c : Int) (u : Nat) : Colour := if !pre && c ≥ u then .green else .yellow

/-- Debit the policer of slice s for a colour, and count its units (R336). -/
def debitPolicer (s u : Nat) (col : Colour) (m : Mach) : Mach :=
  let cb := inForce m (Pol.POL_CBS s)
  let pb := inForce m (Pol.POL_PBS s)
  let c := m.rdS (Pol.POL_C_NOW s)
  let p := m.rdS (Pol.POL_P_NOW s)
  match col with
  | .green =>
    ((m.wrS (Pol.POL_C_NOW s) (debited c u cb)).wrS (Pol.POL_P_NOW s) (debited p u pb)).bump (Pol.POL_GREEN s) u
  | .yellow => (m.wrS (Pol.POL_P_NOW s) (debited p u pb)).bump (Pol.POL_YELLOW s) u
  | .red => m.bump (Pol.POL_RED_UNITS s) u

/-- A red request: the POLICER cause and POLICER_RED (R337, R356). -/
def redRequest (s : Nat) (m : Mach) : Mach :=
  occur 1521 1 (some 8) { noCtx with slice := s, gen := m.rd (Slc.SLC_GEN s) } m

/-- What the policer decides of a request. -/
inductive Policed | pass | hold | drop
  deriving DecidableEq, Repr

/-- The policer takes a request of u units of slice s (R335 to R338). `kind` is the POL_PRECOLOUR bit of its
kind at its port, `tc` the traffic class of a CXL.io TLP, `always` a write that may be a writeback (R338), `again` a held
request coloured again. -/
def police (port s u kind : Nat) (tc : Option Nat) (always again : Bool) (m : Mach) : Policed × Mach :=
  if m.rd (Pol.POL_MODE s) = 0 then (.pass, m)
  else
    let pc := m.rd (Pol.POL_PRECOLOUR s)
    let pre := m.rd (Pol.POL_MODE s) == 2 && (bitAt pc kind || (match tc with
      | some t => bitAt pc (8 + t)
      | none => false))
    let c := m.rdS (Pol.POL_C_NOW s)
    let p := m.rdS (Pol.POL_P_NOW s)
    let col := if always then colourPassing pre c u else colourOf pre c p u
    if col = .red then
      let red := m.rd (Pol.POL_RED s)
      let m := if again then m else redRequest s (portCount port 13 s u (debitPolicer s u .red m))
      (if red = 0 then .pass else if red = 1 then .hold else .drop, m)
    else (.pass, debitPolicer s u col m)

/-- The shaper of slice s lets a request through: both buckets, as latched at the last commit phase, are
positive (R340). -/
def shaperOpen (m : Mach) (s : Nat) : Bool :=
  !m.on (Pol.SHP_ENABLE s) || (m.rdS (Pol.SHP_C_NOW s) > 0 && m.rdS (Pol.SHP_P_NOW s) > 0)

/-- A request of u units is presented: its debit falls in the commit phase (R340). -/
def shaperDebit (s u : Nat) (m : Mach) : Mach :=
  if m.on (Pol.SHP_ENABLE s) then
    { m with traffic := { m.traffic with debits := Tab.upd 0 m.traffic.debits s (· + u) } }
  else m

/-- Keys of the debits of the last commit phase: slice shapers, queues and bobbins. -/
def debitSlice (s : Nat) : Nat := s
def debitQueue (p c : Nat) : Nat := 8192 + 64 * p + c
def debitBobbin (i r : Nat) : Nat := 16384 + 128 * i + r

/-- Remember a debit of this commit phase, so that a refill of the same commit phase comes before it (R21). -/
def noteDebit (k u : Nat) (m : Mach) : Mach :=
  { m with traffic := { m.traffic with last := Tab.upd 0 m.traffic.last k (· + u) } }

/-- Commit the shaper debits of the stitch (R340). -/
def commitShapers (m : Mach) : Mach :=
  let ds := m.traffic.debits
  let m := { m with traffic := { m.traffic with debits := [] } }
  forAll ds (fun (s, u) m =>
    let c := debited (m.rdS (Pol.SHP_C_NOW s)) u (inForce m (Pol.SHP_CBS s))
    let p := debited (m.rdS (Pol.SHP_P_NOW s)) u (inForce m (Pol.SHP_PBS s))
    noteDebit (debitSlice s) u ((m.wrS (Pol.SHP_C_NOW s) c).wrS (Pol.SHP_P_NOW s) p)) m

/-- Refill of a bucket whose debit of the same commit phase comes after it (R21, R331). -/
def refillAround (x : Int) (u rate size : Nat) : Int := debited (refilled (x + u) rate size) u size

/-- Slices with an entry of their own in 0x5000 + s. -/
def policedSlices (m : Mach) : List Nat :=
  ((m.pb.filter fun e => 0x500000 ≤ e.1 && e.1 < 0x600000).map fun e => (e.1 - 0x500000) / 256).eraseDups

/-- Refill the buckets of slice s (R331). -/
def refillSlice (s : Nat) (m : Mach) : Mach :=
  let u := Tab.get 0 m.traffic.last (debitSlice s)
  let m := m.wrS (Pol.POL_C_NOW s) (refilled (m.rdS (Pol.POL_C_NOW s)) (m.rd (Pol.POL_CIR s)) (m.rd (Pol.POL_CBS s)))
  let m := m.wrS (Pol.POL_P_NOW s) (refilled (m.rdS (Pol.POL_P_NOW s)) (m.rd (Pol.POL_PIR s)) (m.rd (Pol.POL_PBS s)))
  let m := m.wrS (Pol.SHP_C_NOW s)
    (refillAround (m.rdS (Pol.SHP_C_NOW s)) u (m.rd (Pol.SHP_CIR s)) (m.rd (Pol.SHP_CBS s)))
  m.wrS (Pol.SHP_P_NOW s) (refillAround (m.rdS (Pol.SHP_P_NOW s)) u (m.rd (Pol.SHP_PIR s)) (m.rd (Pol.SHP_PBS s)))

/-- Set the buckets of slice s full (R322 step 4, R331). -/
def fillSlice (s : Nat) (m : Mach) : Mach :=
  let m := m.wrS (Pol.POL_C_NOW s) (inForce m (Pol.POL_CBS s))
  let m := m.wrS (Pol.POL_P_NOW s) (inForce m (Pol.POL_PBS s))
  let m := m.wrS (Pol.SHP_C_NOW s) (inForce m (Pol.SHP_CBS s))
  m.wrS (Pol.SHP_P_NOW s) (inForce m (Pol.SHP_PBS s))

/-- The domain of arbiter i's block (R522). -/
def arbiterDomain (i : Nat) : Nat :=
  if i < 4 then 58 + i else if i < 6 then 54 else if i = 6 then 1 else if i < 9 then 63 else 62

/-- Bobbin of requester r of arbiter i. -/
def bobbin (m : Mach) (i r : Nat) : Int := toSigned 32 (getBits (m.rd (Arb.ARB_BOBBINS i)) (32 * r) 32)

/-- Weight in force of requester r of arbiter i (R352). -/
def weight (m : Mach) (i r : Nat) : Nat := getBits (inForce m (Arb.ARB_WEIGHTS i)) (8 * r) 8

/-- Refill the bobbins of arbiter i (R352). -/
def refillArbiter (i : Nat) (m : Mach) : Mach :=
  if m.domOn (arbiterDomain i) then
    let ws := m.rd (Arb.ARB_WEIGHTS i)
    let q := m.rd (Arb.ARB_QUANTUM i)
    let bs := (List.range (arbiterRequesters i)).map fun r =>
      let wq := getBits ws (8 * r) 8 * q
      ofSigned 32 (refillAround (bobbin m i r) (Tab.get 0 m.traffic.last (debitBobbin i r)) wq (2 * wq))
    m.wr (Arb.ARB_BOBBINS i) (packFields 32 bs)
  else m

/-- Debit a bobbin for units granted in this stitch (R352). -/
def debitBobbinOf (i r u : Nat) (m : Mach) : Mach :=
  let wq := weight m i r * inForce m (Arb.ARB_QUANTUM i)
  let b := if weight m i r = 0 then 0 else debited (bobbin m i r) u (2 * wq)
  let m := m.wr (Arb.ARB_BOBBINS i) (setBits (m.rd (Arb.ARB_BOBBINS i)) (32 * r) 32 (ofSigned 32 b))
  noteDebit (debitBobbin i r) u (m.bump (Arb.ARB_GRANTS i) u)

/-- The place of requester r after the rotating pointer of arbiter i (R353). -/
def rotation (m : Mach) (i r : Nat) : Nat :=
  let n := arbiterRequesters i
  (r + n - m.now.stitch % n) % n

/-- Whether requester a goes before requester b at arbiter i (R353); each is a requester with the stitch of
its request's arrival. -/
def goesBefore (m : Mach) (i : Nat) (a b : Nat × Nat) : Bool :=
  let tie := rotation m i a.1 < rotation m i b.1
  if m.rd (Arb.ARB_MODE i) = 1 then a.2 < b.2 || (a.2 == b.2 && tie)
  else
    let wa := weight m i a.1
    let wb := weight m i b.1
    if wa = 0 && wb = 0 then tie
    else if wa = 0 then false
    else if wb = 0 then true
    else bobbin m i a.1 > bobbin m i b.1 || (bobbin m i a.1 == bobbin m i b.1 && tie)

/-- The winner among waiting requesters (R353). -/
def arbitrate (m : Mach) (i : Nat) : List (Nat × Nat) → Option (Nat × Nat)
  | [] => none
  | x :: xs =>
    match arbitrate m i xs with
    | none => some x
    | some y => if goesBefore m i x y then some x else some y

/-- Beside its entries. -/
def Mach.gate (m : Mach) (p : Nat) : GateSt := Tab.get GateSt.reset m.traffic.gates p

def Mach.updGate (m : Mach) (p : Nat) (f : GateSt → GateSt) : Mach :=
  { m with traffic := { m.traffic with gates := Tab.upd GateSt.reset m.traffic.gates p f } }

/-- Entry e of a gate list: its gates and its interval. -/
def listGates (v e : Nat) : Nat := getBits v (32 * e) 8
def listInterval (v e : Nat) : Nat := getBits v (32 * e + 8) 16

/-- The cycle of a list (R346). -/
def listCycle (v len : Nat) : Nat := ((List.range len).map (listInterval v)).sum

/-- The entry in force at position `pos` of a list, from entry e with n entries left. -/
def entryAt (v : Nat) : Nat → Nat → Nat → Nat
  | 0, e, _ => e
  | n + 1, e, pos => if pos < listInterval v e then e else entryAt v n (e + 1) (pos - listInterval v e)

/-- The operating entry in force on port p in stitch t (R346). -/
def gateEntry (m : Mach) (p t : Nat) : Nat :=
  let v := m.rd (Tg.TG_OPER_LIST p)
  let len := m.rd (Tg.TG_OPER_LEN p)
  let g := m.gate p
  entryAt v (len - 1) 0 ((g.offset + (t - g.start)) % listCycle v len)

/-- The gate of class c on port p is open in stitch t (R341, R346). -/
def gateOpen (m : Mach) (p c t : Nat) : Bool :=
  c == 63 || !m.on (Tg.TG_ENABLE p) || m.rd (Tg.TG_STATE p) == 0 || (m.gate p).start > t ||
  bitAt (listGates (m.rd (Tg.TG_OPER_LIST p)) (gateEntry m p t)) (c / 8)

/-- Why TG_COMMIT fails (R349). -/
def tgCommitCheck (p : Nat) (m : Mach) : Option Status :=
  if m.rd (Tg.TG_STATE p) = 2 then some .busy
  else if (List.range (m.rd (Tg.TG_LEN p))).any (fun e => listInterval (m.rd (Tg.TG_LIST p)) e == 0) then some .state
  else none

/-- TG_COMMIT schedules a takeover at S (R348). The write was accepted in the stitch before the one that runs next (log entry 21). -/
def tgCommit (p : Nat) (m : Mach) : Mach :=
  let s0 := m.now.stitch + ceilDiv (m.rd (Tg.TG_START_TIME p) - m.now.ftime) 8
  (m.wr (Tg.TG_STATE p) 2).updGate p fun g => { g with due := some (max s0 (m.now.stitch + 1)) }

/-- GATE_TAKEOVER of port p (R348). -/
def gateTold (p : Nat) (m : Mach) : Mach := raiseEv 1520 { portCtx p with detail := p, flags := 4 } m

/-- The lists that begin in this stitch raise their event in it (R348). -/
def gatesBegin (m : Mach) : Mach :=
  forAll ((m.traffic.gates.filter fun x => x.2.start != 0 && x.2.start == m.now.stitch).map (·.1)) gateTold m

/-- The scheduled takeover of port p's list, from the commit phase of stitch S − 2 (R348), after which stitch
S − 1 runs next. One that falls due in a lost stitch is carried (R24). -/
def tgTakeover (p : Nat) (m : Mach) : Mach :=
  match (m.gate p).due with
  | none => m
  | some s =>
    if m.now.stitch + 1 < s || m.now.lost then m else
    let admin := m.rd (Tg.TG_LIST p)
    let len := m.rd (Tg.TG_LEN p)
    let ft := m.now.ftime + 8 * s - 8 * m.now.stitch
    let off := (ft - m.rd (Tg.TG_START_TIME p)) / 8 % listCycle admin len
    let m := (m.wr (Tg.TG_LIST p) (m.rd (Tg.TG_OPER_LIST p))).wr (Tg.TG_OPER_LIST p) admin
    let m := (m.wr (Tg.TG_LEN p) (m.rd (Tg.TG_OPER_LEN p))).wr (Tg.TG_OPER_LEN p) len
    let m := (m.wr (Tg.TG_STATE p) 1).wr (Tg.TG_TAKEOVER_STITCH p) s
    let m := m.updGate p fun _ => ⟨none, s, off⟩
    if s < m.now.stitch then gateTold p m else m

/-- Why a write of a rate or size fails (R332): `rate` and `size` are the values it would leave. -/
def rateCheck (rate size : Nat) : Option Status :=
  if rate > 16777216 || size < 64 || size > 16777216 || rate > size then some .range else none

end Sys2Proof.Machine
end

