-- ==== Sys2Proof/Machine/Fabric.lean ====
section
/-! DEFINITION. The fabric core and the bolt store (chapter 6): slots and the carve, presentation, the work of
an output scheduler in a stitch, express path, admission, reads and revocation, stalls, and the mirror tap. -/

namespace Sys2Proof.Machine

/-- Count or raise on quadrant q: while its domain is off its counts stand still and nothing is raised (R435, R523). -/
def quadCount (key : Nat → Nat) (q n : Nat) (m : Mach) : Mach := if m.powered (54 + q) then m.bump (key q) n else m

/-- Raise event k of quadrant q (R188), which is placed at level 6 (R12). -/
def quadRaise (q k : Nat) (c : Ctx) (m : Mach) : Mach :=
  raiseEv (1344 + 16 * q + k) { c with level := 6, kind := 12, unit := q, quad := q } m

/-- Quadrant of an input or of an output (R523). -/
def sideQuadrant (i : Nat) : Nat := if i < 64 then portQuadrant i else 0

/-- Raise event k of QDR die d (R189), placed at its controller (R12). -/
def dieRaise (d k : Nat) (c : Ctx) (m : Mach) : Mach :=
  raiseEv (1168 + 8 * d + k) { c with level := 4, kind := 5, unit := d, die := d } m

/-- Raise event k of QDR die d for a cell of it: a tile, by its bank group, with the bit-cell location in DETAIL, the word address
in the lower 8 B and the bit in the upper (R12, log entry 127). -/
def cellRaise (d k : Nat) (cell : BitCell) (c : Ctx) (m : Mach) : Mach :=
  raiseEv (1168 + 8 * d + k)
    { c with level := 3, kind := 5, unit := cell.bank, die := d, flags := 4
             detail := cell.word % 2 ^ 64 + cell.bit % 2 ^ 64 * 2 ^ 64 } m

/-- Change the fabric core. -/
def Mach.updCore (m : Mach) (f : Core → Core) : Mach := { m with core := f m.core }

/-- Change the packet with an identifier. -/
def Mach.updPkt (m : Mach) (id : Nat) (f : Pkt → Pkt) : Mach :=
  m.updCore fun c => { c with pkts := c.pkts.map fun x => if x.id = id then f x else x }

/-- The packet with an identifier. -/
def Mach.pkt (m : Mach) (id : Nat) : Option Pkt := m.core.pkts.find? (·.id == id)

/-! ### Slots -/

/-- Steps of die d in the hands of the home line cache, and steps written to HLC_STEPS (R159, R160). -/
def carvedSteps (m : Mach) (d : Nat) : Nat := byteAt m.core.carved d
def wantedSteps (m : Mach) (d : Nat) : Nat := byteAt (m.rd Fab.HLC_STEPS) d

/-- Slots of a step (R159): 524,288 rows of one slot each. -/
def stepSlots : Nat := 524288

/-- Die and row of slot s (R157). -/
def slotDie (s : Nat) : Nat := s % 8
def slotRow (s : Nat) : Nat := s / 8

/-- The first carved row of a die of which `steps` steps are carved (R159). -/
def carveRow (steps : Nat) : Nat := 4194304 - stepSlots * steps

/-- The write allocator uses die d: it runs, and no switch-off has begun (R162, R166, R524). -/
def dieOpen (m : Mach) (d : Nat) : Bool := m.rd (Die.DIE_STATE d) == 1 && m.domOn (64 + d)

/-- Slots in which a packet has a swatch, or will have one by the end of the stitch. -/
def Pkt.inSlots (x : Pkt) : List Nat := x.cells ++ x.wgrant

/-- A slot that is out of the frame buffer for good: it is retired, or its die has failed (R165, R166). -/
def slotLost (m : Mach) (s : Nat) : Bool := m.core.retired.contains s || m.rd (Die.DIE_STATE (slotDie s)) == 2

/-- Slots of die d that hold a swatch. -/
def dieCells (m : Mach) (d : Nat) : List Nat :=
  m.core.pkts.flatMap fun x => x.inSlots.filter fun s => slotDie s == d && !slotLost m s
def dieUsed (m : Mach) (d : Nat) : Nat := (dieCells m d).length

/-- Retired slots of die d in rows from `lo` up to below `hi`. -/
def retiredIn (m : Mach) (d lo hi : Nat) : Nat :=
  (m.core.retired.filter fun s => slotDie s == d && lo ≤ slotRow s && slotRow s < hi).length

/-- Frame-buffer slots of die d: neither carved nor retired. Of a die that is being switched off each slot leaves as it is freed;
those of a failed die have left (R159, R166, R524). -/
def dieSlots (m : Mach) (d : Nat) : Nat :=
  let top := carveRow (carvedSteps m d)
  if dieOpen m d then top - retiredIn m d 0 top else dieUsed m d

/-- Free slots of die d in the range that a growing carve takes: they are withheld (R160). -/
def dieWithheld (m : Mach) (d : Nat) : Nat :=
  if dieOpen m d then
    let lo := carveRow (wantedSteps m d)
    let hi := carveRow (carvedSteps m d)
    hi - lo - retiredIn m d lo hi - ((dieCells m d).filter fun s => lo ≤ slotRow s && slotRow s < hi).length
  else 0

/-- Free frame-buffer slots of die d that the write allocator may use. -/
def dieFree (m : Mach) (d : Nat) : Nat := dieSlots m d - dieUsed m d - dieWithheld m d

/-- Slots that a stored packet holds: each is freed in the commit phase of the stitch in which its read completes (R161, R164), and
one that is out of the frame buffer is no longer counted (R161, log entry 128). -/
def pktSlots (m : Mach) (x : Pkt) : Nat :=
  if x.path = 2 then x.len - x.freed - (x.inSlots.filter (slotLost m)).length else 0

/-- Depth of queue (p, c) (R161). -/
def queueDepth (m : Mach) (p c : Nat) : Nat :=
  ((m.core.pkts.filter fun x => x.output == p && x.cls == c).map (pktSlots m)).sum

/-- Sum of the depths of all queues, the lost-line log (R274) and the needle rings (R361) among them. -/
def allDepths (m : Mach) : Nat :=
  (m.core.pkts.map (pktSlots m)).sum + m.rd LostLog.LL_SLOTS + (m.core.rings.map (·.2)).sum

/-- FB_SLOTS (R161). -/
def fbSlots (m : Mach) : Nat := ((List.range 8).map (dieSlots m)).sum

/-- Slots withheld by a carve that is growing, the slots reserved for admitted packets aside (R161). -/
def withheldSlots (m : Mach) : Nat := min (((List.range 8).map (dieWithheld m)).sum) (fbSlots m - allDepths m)

/-- The running count of free slots (R161). -/
def freeSlots (m : Mach) : Nat := fbSlots m - allDepths m - withheldSlots m

/-- Slots that slice s holds. -/
def sliceHeldSlots (m : Mach) (s : Nat) : Nat :=
  ((m.core.pkts.filter fun x => x.slice == s).map (pktSlots m)).sum

/-- SLC_BS_HELD of slice s follows what it holds (R174). -/
def refreshHeld (s : Nat) (m : Mach) : Mach :=
  if s < 4096 then m.wr (Slc.SLC_BS_HELD s) (sliceHeldSlots m s) else m

/-- DIE_FREE and FB_SLOTS follow the dies (R159). -/
def refreshSlots (m : Mach) : Mach :=
  let m := forAll (List.range 8) (fun d m => if m.powered (64 + d) then m.wr (Die.DIE_FREE d) (dieFree m d) else m) m
  if m.powered 54 then m.wr Fab.FB_SLOTS (fbSlots m) else m

/-- What a stitch boundary shows: FREE_SLOTS, FREE_MIN, and BUFFER_LOW once for each fall (R173, R188). -/
def boundarySlots (m : Mach) : Mach :=
  let m := refreshSlots m
  let f := freeSlots m
  let m := m.updCore fun c => { c with latch := some f }
  if !m.powered 54 then m
  else
    let m := m.wr Fab.FREE_SLOTS f
    let m := m.wr Fab.FREE_MIN (min f (m.rd Fab.FREE_MIN))
    if f < m.rd Fab.LOW_WATER then
      if m.core.low then m else quadRaise 0 1 noCtx (m.updCore fun c => { c with low := true })
    else m.updCore fun c => { c with low := false }

/-- FREE_MIN_CLEAR sets FREE_MIN to FREE_SLOTS. -/
def freeMinClear (m : Mach) : Mach := m.wr Fab.FREE_MIN (m.rd Fab.FREE_SLOTS)

/-! ### The carve (R160) -/

/-- Why a write of HLC_STEPS fails (R160). -/
def hlcStepsCheck (steps : Nat) (m : Mach) : Option Status :=
  let now := m.rd Fab.HLC_STEPS
  let ds := List.range 8
  if ds.any (fun d => byteAt steps d > 4) then some .range
  else if ds.any (fun d => byteAt steps d > byteAt now d) && ds.any (fun d => byteAt steps d < byteAt now d)
  then some .range
  else if m.rd Fab.CARVE_STATUS != 0 then some .busy
  else none

/-- The carve change that an accepted write of HLC_STEPS starts (R160). -/
def hlcStepsStart (steps : Nat) (m : Mach) : Mach :=
  let now := m.rd Fab.HLC_STEPS
  let grows := (List.range 8).any fun d => byteAt steps d > byteAt now d
  let m := (m.wr Fab.HLC_STEPS steps).updCore fun c => { c with carveAt := m.now.stitch }
  if steps = now then m else refreshSlots (m.wr Fab.CARVE_STATUS (if grows then 1 else 2))

/-- Every slot of the growing range of die d is free or retired (R160). -/
def rangeFree (m : Mach) (d : Nat) : Bool := (dieCells m d).all fun s => slotRow s < carveRow (wantedSteps m d)

/-- Each growing die's range passes to the home line cache as soon as it is free (R160). -/
def carvePass (m : Mach) : Mach :=
  if m.rd Fab.CARVE_STATUS = 1 then
    forAll (List.range 8) (fun d m =>
      if wantedSteps m d > carvedSteps m d && rangeFree m d then
        m.updCore fun c => { c with carved := setBits c.carved (8 * d) 8 (wantedSteps m d) }
      else m) m
  else m

/-- The change ends and QD0 raises CARVE (R160). -/
def carveEnd (m : Mach) : Mach :=
  quadRaise 0 8 noCtx (refreshSlots
    ((m.updCore fun c => { c with carved := m.rd Fab.HLC_STEPS }).wr Fab.CARVE_STATUS 0))

/-! ### Rates, credits and queue records -/

/-- Lane rate of a RATE code in tenths of GT/s (R99). -/
def rateTenths (code : Nat) : Nat := [25, 50, 80, 160, 320, 640, 1280].getD code 0

/-- Raw line rate of an input or output, in tenths of Gb/s ("Inputs, outputs and the work of a stitch"). -/
def lineRate (m : Mach) (i : Nat) : Nat :=
  if i < 64 then m.rd (PortStat.WIDTH_NOW i) * rateTenths (m.rd (PortStat.RATE i))
  else if i = 64 then 40960
  else m.rd (SeamStat.WIDTH_NOW (i - 65)) * rateTenths (m.rd (SeamStat.RATE_NOW (i - 65)))

/-- Swatches that output p moves in a stitch (R347). -/
def movesPerStitch (m : Mach) (p : Nat) : Nat := max 1 (lineRate m p / 640)

/-- The block behind an output has its supply (R18). -/
def outputPowered (m : Mach) (p : Nat) : Bool :=
  m.powered (if p < 64 then portDomain p else if p = 64 then 62 else 63)

/-- Egress staging places of output p: two stitches at port rate for a port; 64 for the needle engine, and for a seam 64 on each
seam VC (block interfaces table, log entry 21). None while the output's block is off (R18). -/
def stagingPlaces (m : Mach) (p : Nat) : Nat :=
  if !outputPowered m p then 0 else if p < 64 then 4 * m.rd (PortStat.WIDTH_NOW p) else 64

/-- The seam traffic class of a packet (chapter 5, log entry 22). -/
def seamClass (x : Pkt) : Nat :=
  if x.input = 64 then (if x.kind = 2 then 7 else 6)
  else if x.kind = 4 then 2 else if x.kind = 2 then 3 else 0

def seamVcOf (m : Mach) (s cls : Nat) : Nat := byteAt (m.rd (SeamCfg.VC_MAP s)) cls

/-- Key of the staging places of packet x at its output: of the output, or of its seam VC there (block interfaces table). -/
def stagingKey (m : Mach) (x : Pkt) : Nat :=
  if x.output = 65 || x.output = 66 then 128 + 8 * (x.output - 65) + seamVcOf m (x.output - 65) (seamClass x) else x.output

/-- Swatches that wait at the link logic of the seam and VC of a staging key. -/
def seamQueued (m : Mach) (k : Nat) : Nat :=
  if 128 ≤ k then ((Tab.get [] m.core.seamTx ((k - 128) / 8)).filter fun w => w.vc == (k - 128) % 8).length else 0

/-- Staging credits left for packet x: places in use are counted in 640ths of a swatch (R15). -/
def creditsFree (m : Mach) (x : Pkt) : Nat :=
  stagingPlaces m x.output - seamQueued m (stagingKey m x) - ceilDiv (Tab.get 0 m.core.staged (stagingKey m x)) 640

def stagedUse (x : Pkt) (n : Nat) (m : Mach) : Mach :=
  m.updCore fun c => { c with staged := Tab.upd 0 c.staged (stagingKey m x) (· + 640 * n) }

/-- The credits that transmitters return in a stitch (R16). A port that rebuilds a flit sends nothing in it (R31). -/
def stagedDrain (m : Mach) : Mach :=
  let l := m.core.staged
  let late := m.core.rebuild
  let m := forAll l (fun (p, u) m =>
    if late.contains p then m
    else m.updCore fun c => { c with staged := Tab.put 0 c.staged p (u - (if p < 65 then lineRate m p else u)) }) m
  m.updCore fun c => { c with rebuild := [] }

/-- The record of queue c of output p (R341, R345): WEIGHT 16 and nothing else at outputs without ports. -/
def queueRecord (m : Mach) (p c : Nat) : Nat := if p < 64 then getBits (m.rd (Queue.Q_CONFIG p)) (128 * c) 128 else 16
def queueRecordInForce (m : Mach) (p c : Nat) : Nat :=
  if p < 64 then getBits (inForce m (Queue.Q_CONFIG p)) (128 * c) 128 else 16
def qWeight (m : Mach) (p c : Nat) : Nat := if c = 63 then 16 else getBits (queueRecord m p c) 0 8
def qStrict (m : Mach) (p c : Nat) : Bool := c != 63 && bitAt (queueRecord m p c) 8
def qShape (m : Mach) (p c : Nat) : Bool := c != 63 && bitAt (queueRecord m p c) 9

/-- Key of queue (p, c). -/
def queueKey (p c : Nat) : Nat := 64 * p + c

/-- The latched buckets of a queue let it take part (R342, R344). -/
def peakOpen (m : Mach) (p c : Nat) : Bool := !qShape m p c || Tab.get 0 m.core.pbkt (queueKey p c) > 0
def committedOpen (m : Mach) (p c : Nat) : Bool := !qShape m p c || Tab.get 0 m.core.cbkt (queueKey p c) > 0

/-- Debit the buckets of a queue for the swatches granted (R344). -/
def queueDebit (p c u : Nat) (m : Mach) : Mach :=
  if u = 0 || !qShape m p c then m
  else
    let q := queueKey p c
    let r := queueRecordInForce m p c
    let m := noteDebit (debitQueue p c) u m
    m.updCore fun x => { x with cbkt := Tab.upd 0 x.cbkt q fun b => debited b u (getBits r 48 16),
                                pbkt := Tab.upd 0 x.pbkt q fun b => debited b u (getBits r 64 16) }

/-- Ports with a queue configuration of their own. -/
def shapedPorts (m : Mach) : List Nat := (List.range 64).filter fun p => m.rd (Queue.Q_CONFIG p) != dflt (Queue.Q_CONFIG p)

/-- Refill the buckets of port p's queues (R331). -/
def refillQueues (p : Nat) (m : Mach) : Mach :=
  forAll (List.range 63) (fun c m =>
    let q := queueKey p c
    let r := queueRecord m p c
    let u := Tab.get 0 m.traffic.last (debitQueue p c)
    m.updCore fun x => { x with
      cbkt := Tab.upd 0 x.cbkt q fun b => refillAround b u (getBits r 16 16) (getBits r 48 16)
      pbkt := Tab.upd 0 x.pbkt q fun b => refillAround b u (getBits r 32 16) (getBits r 64 16) }) m

/-- Virtual time of output p (R343). -/
def vtime (m : Mach) (p : Nat) : Nat := if p < 64 then m.rd (Queue.Q_VTIME p) else Tab.get 0 m.core.vint p
def putVtime (p v : Nat) (m : Mach) : Mach :=
  if p < 64 then m.wr (Queue.Q_VTIME p) (v % 2 ^ 32)
  else m.updCore fun c => { c with vint := Tab.put 0 c.vint p (v % 2 ^ 32) }

/-- Cost of a packet of len swatches in queue (p, c) (R343). -/
def wfqCost (m : Mach) (p c len : Nat) : Nat := ceilDiv (len * 4096) (qWeight m p c)

def queueTag (m : Mach) (p c : Nat) : Nat := Tab.get 0 m.core.tags (queueKey p c)
def putTag (p c f : Nat) (m : Mach) : Mach :=
  m.updCore fun x => { x with tags := Tab.put 0 x.tags (queueKey p c) (f % 2 ^ 32) }

/-- a is smaller than b among tags (R343). -/
def tagBefore (a b : Nat) : Bool := let d := (b + 2 ^ 32 - a) % 2 ^ 32; 1 ≤ d && d ≤ 2 ^ 31 - 1

/-- Committed packets of queue (p, c) that wait for their first grant, in queue order. -/
def waitingIn (m : Mach) (p c : Nat) : List Pkt :=
  m.core.pkts.filter fun x => x.output == p && x.cls == c && x.ready.isSome && x.read + x.grant == 0

/-- F of a queue that wakes, or whose head left without a grant: V + cost of its next packet (R343). -/
def wakeQueue (p c : Nat) (m : Mach) : Mach :=
  match waitingIn m p c with
  | x :: _ => putTag p c (vtime m p + wfqCost m p c x.len) m
  | [] => m

/-! ### Mirror tap (R184 to R186) -/

/-- Payload bytes of a packet. -/
def Pkt.bytes (x : Pkt) : Nat := 64 * (x.len - 1) + 4 * (x.fill + 1)

/-- The mirror record of a sample by selector i. -/
def mirrorRecord (m : Mach) (i dir point seq : Nat) (x : Pkt) : Nat :=
  let n := x.bytes
  let data := x.payload % 2 ^ (8 * min n 128)
  let flags := (if n > 128 then 1 else 0) + (if dir = 1 && x.path = 1 then 2 else 0) + (if x.failed % 8 != 0 then 4 else 0)
  m.now.ftime % 2 ^ 64 + m.now.stitch % 2 ^ 64 * 2 ^ 64 + i * 2 ^ 128 + dir * 2 ^ 136 + point * 2 ^ 144 +
    x.cls * 2 ^ 152 + x.slice % 2 ^ 16 * 2 ^ 160 + n % 2 ^ 16 * 2 ^ 176 + seq % 2 ^ 32 * 2 ^ 192 + flags * 2 ^ 224 +
    data * 2 ^ 256

/-- Records in the ring that are not consumed. -/
def ringHeld (m : Mach) : Nat := (m.rd MirRing.MIR_PROD + 2 ^ 32 - m.rd MirRing.MIR_CONS) % 2 ^ 32

/-- Mirror messages of quadrant q that wait in its copy buffer, two for a record (R186). -/
def copyHeld (m : Mach) (q : Nat) : Nat := (m.noc.msgs.filter fun x => x.src == 32 + q && x.place == .source).length

/-- Records on their way to the ring. -/
def ringComing (m : Mach) : Nat :=
  let last := fun (b : NocBody) => match b with
    | .mirror _ _ l => l
    | _ => false
  (m.noc.msgs.filter fun x => last x.body).length + (m.noc.arrived.filter fun y => last y.msg.body).length

/-- A record of selector i has reached management memory: it is written to the ring (R185, R186). -/
def mirrorStore (i record : Nat) (m : Mach) : Mach :=
  let prod := m.rd MirRing.MIR_PROD
  let m := m.putWords MirRing.MIR_RING (40 * (prod % 1024)) record 40
  (m.bump (Mir.MIR_SAMPLED i) 1).bumpWrap MirRing.MIR_PROD 1

/-- A sample is taken (R186): it goes to management memory in two messages of the MM network, or is dropped. -/
def mirrorSample (i dir point : Nat) (x : Pkt) (m : Mach) : Mach :=
  let seq := Tab.get 0 m.core.samples i
  let m := m.updCore fun c => { c with samples := Tab.put 0 c.samples i (seq + 1) }
  let q := sideQuadrant point
  if ringHeld m + ringComing m ≥ 1024 || copyHeld m q ≥ 32 || !m.domOn 1 then
    quadRaise q 4 noCtx (m.bump (Mir.MIR_DROPPED i) 1)
  else
    let r := mirrorRecord m i dir point seq x
    let half := fun (n : Nat) => nocPut 5 (32 + q) bridgeEnd x.slice seq (some (getBits r (704 * n + 192) 512)) (.mirror i r (n == 1))
    half 1 (half 0 m)

/-- Each selector that the packet matches counts it, and samples it on its MIR_N-th match (R184). -/
def mirrorTap (dir point : Nat) (x : Pkt) (m : Mach) : Mach :=
  forAll (List.range 8) (fun i m =>
    if m.on (Mir.MIR_ENABLE i) && m.rd (Mir.MIR_POINT i) == point && m.rd (Mir.MIR_DIR i) == dir &&
       bitAt (m.rd (Mir.MIR_CLASSES i)) x.cls &&
       (m.rd (Mir.MIR_SLICE i) == 0xFFFF || m.rd (Mir.MIR_SLICE i) == x.slice) then
      let n := Tab.get 0 m.core.hits i + 1
      if n ≥ m.rd (Mir.MIR_N i) then mirrorSample i dir point x (m.updCore fun c => { c with hits := Tab.put 0 c.hits i 0 })
      else m.updCore fun c => { c with hits := Tab.put 0 c.hits i n }
    else m) m

/-- Enabling a selector clears its match count and SEQ. -/
def mirrorEnable (i v : Nat) (m : Mach) : Mach :=
  let m := m.wr (Mir.MIR_ENABLE i) v
  if v = 0 then m else m.updCore fun c => { c with hits := Tab.put 0 c.hits i 0, samples := Tab.put 0 c.samples i 0 }

/-- Why a write of MIR_CONS fails (R186). -/
def mirConsCheck (v : Nat) (m : Mach) : Option Status :=
  if (m.rd MirRing.MIR_PROD + 2 ^ 32 - v) % 2 ^ 32 > 1024 then some .range else none

/-! ### Presentation and stalls -/

/-- Discards after a stall: STALL_DISCARD of the ingress quadrant, or SEAM_DISCARD (R181). -/
def countDiscard (input n : Nat) (m : Mach) : Mach :=
  if input = 65 || input = 66 then (if m.domOn 54 then m.bump Fab.SEAM_DISCARD n else m)
  else quadCount Quad.STALL_DISCARD (sideQuadrant input) n m

/-- A further swatch, or swatches, of a packet that an input has begun (R167): the stall count returns to 0 (R178). -/
def presentMore (x : Pkt) (n failed : Nat) (m : Mach) : Mach :=
  m.updPkt x.id fun x => { x with held := min x.len (x.held + n), stall := 0, failed := Nat.lor x.failed failed }

/-- Every bolt store die is off or failed (R14, R524). -/
def storeOff (m : Mach) : Bool := (List.range 8).all fun d => m.rd (Die.DIE_STATE d) != 1

/-- The output of a packet is off (R14). -/
def outputOff (m : Mach) (p : Nat) : Bool :=
  if p < 64 then !m.domOn (portDomain p) else if p = 64 then !m.domOn 62 else !m.domOn 63

/-- R14: the ingress port engine answers a request whose block is off at once. -/
def refuseOff (input id slice : Nat) (io : Bool) (egress : Nat) (m : Mach) : Mach :=
  if input < 64 then powerRefused ⟨input, id, io, true, egress, none, 0, slice, 0, 0, 0, 0, 0, 1, none, 0⟩ m else m

/-- An input presents a packet, or further swatches of it (R167, R181, R184). The stitch of the first presentation counts towards a
stall, as the table of R183 counts it (log entry 129). -/
def presentPkt (pk : Present) (m : Mach) : Mach :=
  let n := max 1 pk.count
  if Tab.get none m.core.discard pk.input == some pk.id then countDiscard pk.input n m
  else
    match m.pkt pk.id with
    | some x => presentMore x n pk.failed (portCount x.input 2 x.slice (min n (x.len - x.held)) m)
    | none =>
      let m := m.updCore fun c => { c with discard := Tab.put none c.discard pk.input none }
      if outputOff m pk.output || (pk.input < 64 && !m.domOn (portDomain pk.input)) then
        refuseOff pk.input pk.id pk.slice pk.io pk.output m
      else
        let whole := pk.input = 64 || pk.input ≥ 67
        let x : Pkt :=
          { id := pk.id, input := pk.input, output := pk.output, cls := pk.cls, slice := pk.slice, len := pk.len
            io := pk.io, kind := pk.kind, fill := pk.fill, payload := pk.payload
            held := if whole then pk.len else min pk.len n
            path := 0, since := m.now.stitch, moved := 0, grant := 0, wgrant := [], cells := [], ready := none
            read := 0, freed := 0, stall := 1, failed := pk.failed, errs := 0, ran := false, ending := none }
        mirrorTap 0 pk.input x ((portCount x.input 2 x.slice x.held m).updCore fun c => { c with pkts := c.pkts ++ [x] })

/-- An input presents a packet, or further swatches of it. A seam presents only swatches of frames that its link logic has accepted and
delivered, each failed where it came so (R129, R131, R156, R167). -/
def packetPresent (pk : Present) (m : Mach) : Mach :=
  if pk.input != 65 && pk.input != 66 then presentPkt pk m
  else
    let s := pk.input - 65
    let here := ((m.seam s).arrived).take (max 1 pk.count)
    if here.isEmpty then m
    else
      let first := match m.pkt pk.id with
        | some x => x.held
        | none => 0
      let bad := packFields 1 (here.map fun b => if b then 1 else 0) * 2 ^ first
      presentPkt { pk with count := here.length, failed := Nat.lor pk.failed bad }
        (m.updSeam s fun x => { x with arrived := x.arrived.drop here.length })

/-- Remove packets, and let SLC_BS_HELD and the tags of their queues follow (R180, R343). -/
def dropPkts (test : Pkt → Bool) (m : Mach) : Mach :=
  let gone := m.core.pkts.filter test
  let m := m.updCore fun c => { c with pkts := c.pkts.filter fun x => !test x }
  let m := forAll (gone.map (·.slice)).eraseDups refreshHeld m
  let heads := (gone.filter fun x => x.ready.isSome && x.read + x.grant == 0).map fun x => (x.output, x.cls)
  forAll heads.eraseDups (fun (p, c) m => wakeQueue p c m) m

/-- A packet is declared stalled (R179 to R181): an express packet is ended in the next stitch, a stored one leaves in the commit
phase of the stall stitch. -/
def declareStall (x : Pkt) (m : Mach) : Mach :=
  let m :=
    if x.path = 1 then
      let m := m.updPkt x.id fun x => { x with ending := some (m.now.stitch + 1) }
      quadRaise (sideQuadrant x.output) 2 { noCtx with slice := x.slice } (m.emit (.abort x.output x.id x.io))
    else m.updPkt x.id fun x => { x with ending := some m.now.stitch }
  let m := quadCount Quad.STALLS (sideQuadrant x.input) 1 m
  let m := m.updCore fun c => { c with discard := Tab.put none c.discard x.input (some x.id) }
  if x.input < 64 then raiseEv (16 * x.input + 14) { portCtx x.input with slice := x.slice } m
  else quadRaise (sideQuadrant x.output) 3 { noCtx with slice := x.slice } m

/-- A packet can stall: it has taken the express path or has been admitted, and its input still owes swatches. -/
def Pkt.stallable (x : Pkt) : Bool := (x.path = 1 || x.path = 2) && x.held < x.len && x.ending.isNone && (x.input < 64 || x.input = 65 || x.input = 66)

/-- The stall limit of an input (R178). -/
def stallLimit (m : Mach) (input : Nat) : Nat := if input < 64 then m.rd Fab.STALL_LIMIT else m.rd Fab.SEAM_STALL_LIMIT

/-- A packet's stall count has reached its limit, with no swatch in the request phase (R178, R183). -/
def packetStall (id : Nat) (m : Mach) : Mach :=
  match m.pkt id with
  | some x =>
    if x.stallable && x.stall ≥ stallLimit m x.input then declareStall x m else m
  | none => m

/-- Step 1 of R168: every packet whose count has reached its limit stalls. -/
def declareStalls (m : Mach) : Mach := forAll (m.core.pkts.map (·.id)) packetStall m

/-- An input is lost (R182): what is express or admitted stalls at once, what only waits is discarded. -/
def inputLost (input : Nat) (m : Mach) : Mach :=
  let m := dropPkts (fun x => x.input == input && x.path == 0) m
  forAll (m.core.pkts.filter fun x => x.input == input && x.stallable) declareStall m

/-- An output is lost (R182): express packets are discarded at the input up to their EOP, stored and waiting ones
are freed. -/
def outputLost (p : Nat) (m : Mach) : Mach :=
  let cut := m.core.pkts.filter fun x => x.output == p && x.path == 1 && x.held < x.len
  let m := forAll cut (fun x m => m.updCore fun c => { c with discard := Tab.put none c.discard x.input (some x.id) }) m
  let m := dropPkts (fun x => x.output == p) m
  m.updCore fun c => { c with staged := Tab.drop (fun k => k == p || (128 ≤ k && (k - 128) / 8 + 65 == p)) c.staged }

/-! ### The data of a stitch -/

/-- The 72 B of swatch k of packet x as its source sent them: payload, zero beyond FILL, header and CRC-32C, which takes FAILED as 0
(R154, R155). -/
def swatchData (x : Pkt) (k : Nat) : Nat :=
  getBits x.payload (512 * k) 512 % (if k + 1 = x.len then 2 ^ (32 * (x.fill % 16 + 1)) else 2 ^ 512)
def swatchHead (x : Pkt) (k : Nat) : Nat :=
  let last := k + 1 == x.len
  x.slice % 2 ^ 12 + x.cls % 2 ^ 6 * 2 ^ 12 + x.output % 2 ^ 7 * 2 ^ 18 + (if k = 0 then 2 ^ 25 else 0) +
    (if last then 2 ^ 26 else 0) + (if last then x.fill % 16 else 15) * 2 ^ 28
def swatchCrc (x : Pkt) (k : Nat) : Nat := crc32c (toBytes 64 (swatchData x k) ++ toBytes 4 (swatchHead x k))

/-- Swatch k as it arrives: the bits that changed on the way do not change its CRC-32C. -/
def swatchNow (x : Pkt) (k : Nat) : Nat := Nat.xor (swatchData x k) (getBits x.errs (512 * k) 512)
def swatchBits (x : Pkt) (k : Nat) : Nat :=
  swatchNow x k + (swatchHead x k + (if bitAt x.failed k then 2 ^ 27 else 0)) * 2 ^ 512 + swatchCrc x k * 2 ^ 544

/-- The egress check of swatch k fails, or it is marked failed (R31, R156). -/
def swatchBad (x : Pkt) (k : Nat) : Bool :=
  bitAt x.failed k ||
    (x.errs != 0 && crc32c (toBytes 64 (swatchNow x k) ++ toBytes 4 (swatchHead x k)) != swatchCrc x k)

/-- A failed swatch at its egress: the flit is rebuilt with the data poisoned or the TLP nullified, one stitch later, and the port
raises it (R31); a seam sets the POISON bit of its slot. -/
def egressFail (x : Pkt) (k : Nat) (m : Mach) : Mach :=
  if x.output < 64 then
    let m := m.updCore fun c => { c with rebuild := x.output :: c.rebuild }
    raiseEv (16 * x.output + 13) { portCtx x.output with slice := x.slice } (m.emit (.spoiled x.output x.id k x.io))
  else m

/-- Swatch k of packet x goes to the link logic of its seam, which sends it with POISON where it is bad (R129, R156). -/
def toSeam (x : Pkt) (bad : Bool) (k : Nat) (m : Mach) : Mach :=
  let s := x.output - 65
  m.updCore fun c => { c with seamTx := Tab.upd [] c.seamTx s (· ++ [⟨seamVcOf m s (seamClass x), bad, swatchBits x k⟩]) }

/-- Swatch k of packet x crosses to egress staging (R185). -/
def crossOne (x : Pkt) (k : Nat) (m : Mach) : Mach :=
  let m := if k = 0 then mirrorTap 1 x.output x m else m
  let bad := swatchBad x k
  let m := if bad then egressFail x k m else m
  let m := portCount x.output 3 x.slice 1 m
  let m := if k + 1 = x.len then portCount x.output (if x.path = 1 then 10 else 11) x.slice 1 m else m
  if x.output = 65 || x.output = 66 then toSeam x bad k m else m

/-- n swatches of packet x cross, from swatch k on. -/
def crossed (x : Pkt) (k n : Nat) (m : Mach) : Mach := forAll ((List.range n).map (k + ·)) (crossOne x) m

/-- The end of an aborted express packet (R179): on a seam the remaining slots are sent with their POISON bits set. -/
def abortCross (x : Pkt) (m : Mach) : Mach :=
  if x.ending = some m.now.stitch && x.path = 1 && (x.output = 65 || x.output = 66) then
    let k := x.moved + x.grant
    forAll ((List.range (x.len - k)).map (k + ·)) (toSeam x true) m
  else m

/-- The data of packet x in the stitch: swatches granted in the stitch before move (R19). -/
def movePkt (x : Pkt) (m : Mach) : Mach :=
  if x.path = 1 then
    let m := abortCross x (crossed x x.moved x.grant m)
    m.updPkt x.id fun x => { x with moved := x.moved + x.grant, grant := 0, ran := x.grant != 0 }
  else if x.path = 2 then
    let m := crossed x x.read x.grant m
    let m := forAll x.wgrant (fun s m => if m.powered (64 + slotDie s) then m.bump (Die.WRITES (slotDie s)) 1 else m) m
    let m := forAll ((x.cells.drop (x.read - x.freed)).take x.grant)
      (fun s m => if m.powered (64 + slotDie s) then m.bump (Die.READS (slotDie s)) 1 else m) m
    m.updPkt x.id fun x =>
      { x with ran := x.grant != 0 || x.wgrant.length != 0
               cells := x.cells ++ x.wgrant
               moved := x.moved + x.wgrant.length, wgrant := []
               read := x.read + x.grant, grant := 0 }
  else m

def moveData (m : Mach) : Mach := forAll m.core.pkts movePkt m

/-! ### The schedule phase (R168) -/

/-- The place of an input in the rotating pointer of stitch n (R168): P0 to P63, needle, seams, CE0 to CE3. -/
def pointerPlace (m : Mach) (input : Nat) : Nat := (input + 71 - m.now.stitch % 71) % 71

/-- Packets of a list in the order of the rotating pointer, and by arrival within an input. -/
def inPointerOrder (m : Mach) (l : List Pkt) : List Pkt :=
  let at' := fun k => l.filter fun x => pointerPlace m x.input == k
  (List.range 71).flatMap at'

/-- Grant an express packet the swatches it has presented, within the staging credits (R170). -/
def grantExpress (x : Pkt) (m : Mach) : Mach :=
  let n := min (x.held - x.moved - x.grant) (creditsFree m x)
  stagedUse x n (m.updPkt x.id fun x => { x with grant := x.grant + n })

/-- The output's express bit (R169). -/
def expressAllowed (m : Mach) (p : Nat) : Bool :=
  if p < 64 then bitAt (m.rd Fab.EXPRESS_MASK) p else bitAt (m.rd Fab.EXPRESS_INT) (p - 64)

/-- The time gates stay open for an express packet (R347). -/
def gatesExpress (m : Mach) (p c len : Nat) : Bool :=
  p ≥ 64 || (List.range (ceilDiv len (movesPerStitch m p))).all fun t => gateOpen m p c (m.now.stitch + 1 + t)

/-- The express test (R169). -/
def expressTest (m : Mach) (x : Pkt) : Bool :=
  let p := x.output
  let others := m.core.pkts.filter fun y => y.output == p && y.id != x.id
  expressAllowed m p &&
  !(others.any fun y => y.path == 2 && y.cls == x.cls) &&
  !(others.any fun y => y.path == 1) &&
  !(others.any fun y => y.path == 2 && y.ran && y.ready.isSome && y.read < y.len) &&
  ((x.input < 67 && lineRate m x.input ≤ lineRate m p) || (x.held == x.len && x.len ≤ creditsFree m x)) &&
  gatesExpress m p x.cls x.len && peakOpen m p x.cls

/-- A first grant in queue (p, c): figures of R350. -/
def noteFigures (p c delay : Nat) (m : Mach) : Mach :=
  m.updCore fun k => { k with figures := Tab.upd QFigures.reset k.figures (queueKey p c) fun f =>
    { f with delayMax := max f.delayMax delay, delaySum := min (f.delaySum + delay) (2 ^ 32 - 1), pkts := f.pkts + 1 } }

/-- A packet takes the express path (R169, R343, R350). -/
def goExpress (x : Pkt) (m : Mach) : Mach :=
  let m := m.updPkt x.id fun x => { x with path := 1 }
  let m := quadCount Quad.EXPRESS_PKTS (sideQuadrant x.output) 1 m
  let m := putVtime x.output (vtime m x.output + wfqCost m x.output x.cls x.len) m
  grantExpress { x with path := 1 } (noteFigures x.output x.cls 0 m)

/-- Response-kind class; class 63 always is (R172, R341). -/
def respKind (m : Mach) (c : Nat) : Bool := c == 63 || bitAt (m.rd Fab.RESP_CLASSES) c

/-- The threshold limit of a class (R173). -/
def threshLimit (m : Mach) (c : Nat) : Nat :=
  let f := m.core.latch.getD (freeSlots m)
  let f := if respKind m c then f else f - m.rd Fab.RSV_RESP
  f * 2 ^ byteAt (m.rd Adm.ALPHA) c / 64

/-- What an input's traffic is charged to a slice's quota: slices' own packets never are (R312). -/
def quotaApplies (x : Pkt) : Bool := x.input < 67 && x.slice < 4096

/-- The first admission test that a packet fails: 0 free space, 1 quota, 2 threshold (R172). -/
def admissionFail (m : Mach) (x : Pkt) : Option Nat :=
  let free := freeSlots m - (if respKind m x.cls then 0 else m.rd Fab.RSV_RESP)
  if free < x.len then some 0
  else if quotaApplies x && sliceHeldSlots m x.slice + x.len > m.rd (Slc.SLC_BS_QUOTA x.slice) then some 1
  else if queueDepth m x.output x.cls + x.len > threshLimit m x.cls then some 2
  else none

/-- A refused packet stays at its input; the refusal is counted and raised (R172). -/
def refuseAdmission (x : Pkt) (why : Nat) (m : Mach) : Mach :=
  let q := sideQuadrant x.output
  let m := quadCount (if why = 0 then Quad.REFUSE_FREE else if why = 1 then Quad.REFUSE_QUOTA else Quad.REFUSE_ALPHA) q 1 m
  let m := quadRaise q 0 { noCtx with slice := x.slice, cause := why } m
  if why = 1 then setCause x.slice 4 m else m

/-- A packet is admitted: every slot it needs is reserved at once (R174). -/
def admitPkt (x : Pkt) (m : Mach) : Mach := refreshHeld x.slice (m.updPkt x.id fun x => { x with path := 2 })

/-- A packet that its slice's class hold keeps at the input (R314). -/
def classHeld (m : Mach) (x : Pkt) : Bool := x.kind < 4 && x.slice < 4096 && x.input < 67 && kindHeld m x.slice x.kind

/-- Step 4 of R168 for one newly presented packet. -/
def judgeExpress (x : Pkt) (m : Mach) : Mach := if expressTest m x then goExpress x m else m

/-- Step 5 of R168 for one packet that did not go express. -/
def judgeAdmission (x : Pkt) (m : Mach) : Mach :=
  if storeOff m then refuseOff x.input x.id x.slice x.io x.output (dropPkts (fun y => y.id == x.id) m)
  else
    match admissionFail m x with
    | some why => refuseAdmission x why m
    | none => admitPkt x m

/-- Steps 4 and 5: every express test comes before the first admission test. -/
def judgeAll (m : Mach) : Mach :=
  let fresh := inPointerOrder m (m.core.pkts.filter fun x => x.path == 0 && !classHeld m x)
  let m := forAll fresh judgeExpress m
  forAll (fresh.filterMap fun x => (m.pkt x.id).filter (·.path == 0)) judgeAdmission m

/-! ### Writes (R162) -/

/-- What the write allocator holds while it places the swatches of a stitch. -/
structure Alloc where
  last : Nat
  used : List Nat
  free : List Nat
  taken : List Nat   -- slots that hold a swatch or are retired

/-- The next die in rotation with a write slot and a free slot. -/
def Alloc.next (a : Alloc) : Option Nat :=
  ((List.range 8).map fun k => (a.last + 1 + k) % 8).find? fun d => a.used.getD d 0 < 80 && 0 < a.free.getD d 0

/-- The slot that the allocator takes on die d: its lowest free row (log entry 130). -/
def Alloc.slot (a : Alloc) (d : Nat) : Nat :=
  let rows := (a.taken.filter fun s => slotDie s == d).map slotRow
  8 * (((List.range (rows.length + 1)).find? fun r => !rows.contains r).getD 0) + d

/-- Place n swatches of one packet. -/
def placeN : Nat → Alloc → List Nat → List Nat × Alloc
  | 0, a, ds => (ds, a)
  | n + 1, a, ds =>
    match a.next with
    | none => (ds, a)
    | some d =>
      let s := a.slot d
      placeN n ⟨d, a.used.set d (a.used.getD d 0 + 1), a.free.set d (a.free.getD d 0 - 1), s :: a.taken⟩ (ds ++ [s])

/-- Swatches that a stored packet has presented and not yet written. -/
def Pkt.unwritten (x : Pkt) : Nat := if x.path = 2 && x.ending.isNone then x.held - x.moved - x.wgrant.length else 0

/-- Grant n swatches of packet x their write slots. -/
def placePkt (x : Pkt) (n : Nat) (am : Alloc × Mach) : Alloc × Mach :=
  let (ds, a) := placeN n am.1 []
  let m := am.2.updPkt x.id fun x => { x with wgrant := x.wgrant ++ ds }
  (a, if x.input < 67 && !ds.isEmpty then debitBobbinOf 4 x.input ds.length m else m)

/-- The arbiter's choice, one swatch at a time, while the dies are short of write slots. -/
def placeShort : Nat → Alloc × Mach → Alloc × Mach
  | 0, am => am
  | n + 1, am =>
    let want := am.2.core.pkts.filter fun x => x.input < 67 && 0 < x.unwritten
    match am.1.next, arbitrate am.2 4 (want.map fun x => (x.input, x.since)) with
    | some _, some (i, _) =>
      (match want.find? (·.input == i) with
       | some x => placeShort n (placePkt x 1 am)
       | none => am)
    | _, _ => am

/-- Grant the write slots of the stitch: the coherence slices first, then the arbiter's choice (R162). -/
def grantWrites (m : Mach) : Mach :=
  let a : Alloc := ⟨m.core.lastDie, List.replicate 8 0, (List.range 8).map fun d =>
    if dieOpen m d then dieFree m d else 0, (m.core.pkts.flatMap Pkt.inSlots) ++ m.core.retired⟩
  let ce := (List.range 4).flatMap fun c => m.core.pkts.filter fun x => x.input == 67 + c && 0 < x.unwritten
  let am := ce.foldl (fun am x => placePkt x x.unwritten am) (a, m)
  let want := am.2.core.pkts.filter fun x => x.input < 67 && 0 < x.unwritten
  let need := (want.map Pkt.unwritten).sum
  let room := ((List.range 8).map fun d => min (80 - am.1.used.getD d 0) (am.1.free.getD d 0)).sum
  let am := if need ≤ room then (inPointerOrder am.2 want).foldl (fun am x => placePkt x x.unwritten am) am
            else placeShort 640 am
  let m := am.2.updCore fun c => { c with lastDie := am.1.last }
  let lost := m.core.pkts.filter fun x => x.ready.isNone && x.ran && 0 < x.unwritten && x.wgrant.isEmpty
  if lost.isEmpty then m else m.bump (Arb.ARB_REVOKES 4) lost.length

/-! ### Reads (R163, R176, R177, R342) -/

/-- The head packet of queue (p, c) for a read grant: the first committed one that is not yet granted whole. -/
def queueHead (m : Mach) (p c : Nat) : Option Pkt :=
  m.core.pkts.find? fun x => x.output == p && x.cls == c && x.ready.isSome && x.read + x.grant < x.len

/-- A packet is partly sent. -/
def Pkt.partly (x : Pkt) : Bool :=
  (x.path == 2 && 0 < x.read + x.grant && x.read + x.grant < x.len) || (x.path == 1 && x.moved + x.grant < x.len && x.ending.isNone)

/-- The flit streams open at egress let packet x send (R177). -/
def streamOpen (m : Mach) (x : Pkt) : Bool :=
  let others := m.core.pkts.filter fun y => y.output == x.output && y.id != x.id && y.partly
  if x.output < 64 then !(x.io && others.any (·.io))
  else if x.output = 64 then true
  else !(others.any fun y => seamVcOf m (x.output - 65) (seamClass y) == seamVcOf m (x.output - 65) (seamClass x))

/-- Queue (p, c) is a candidate for a read grant of the next stitch (R342). -/
def candidate (m : Mach) (p c : Nat) : Bool :=
  match queueHead m p c with
  | none => false
  | some x => (p ≥ 64 || gateOpen m p c (m.now.stitch + 1)) && peakOpen m p c && streamOpen m x && 0 < creditsFree m x

/-- The order of R342 among candidates: a packet that this stitch is granting goes on first. -/
def tierOf (m : Mach) (p c : Nat) (x : Pkt) : Nat :=
  if x.grant > 0 then 0
  else if c = 63 then 1
  else if x.ran && x.read > 0 then 2
  else if qStrict m p c && committedOpen m p c then 3
  else if committedOpen m p c then 4
  else 5

/-- Class c goes before class d at output p. -/
def classBefore (m : Mach) (p c d : Nat) : Bool :=
  match queueHead m p c, queueHead m p d with
  | some x, some y =>
    let a := tierOf m p c x
    let b := tierOf m p d y
    if a != b then a < b
    else if a < 4 then c < d
    else if queueTag m p c = queueTag m p d then c < d
    else tagBefore (queueTag m p c) (queueTag m p d)
  | some _, none => true
  | _, _ => false

/-- The first candidate of output p among classes not deferred. -/
def chooseClass (m : Mach) (p : Nat) (deferred : List (Nat × Nat)) : Option Nat :=
  let cs := ((m.core.pkts.filter fun x => x.output == p && x.ready.isSome).map (·.cls)).eraseDups
  (cs.filter fun c => !deferred.contains (p, c) && candidate m p c).foldl (fun best c =>
    match best with
    | none => some c
    | some b => if classBefore m p c b then some c else some b) none

/-- The next read of output p: its packet and die; queues that meet a full die are deferred. -/
def nextRead (p : Nat) (used : List Nat) : Nat → List (Nat × Nat) → Mach → Option (Pkt × Nat) × List (Nat × Nat) × Mach
  | 0, df, m => (none, df, m)
  | n + 1, df, m =>
    match chooseClass m p df with
    | none => (none, df, m)
    | some c =>
      match queueHead m p c with
      | none => (none, df, m)
      | some x =>
        let d := slotDie (x.cells.getD (x.read - x.freed + x.grant) 0)
        if used.getD d 0 < 80 then (some (x, d), df, m)
        else nextRead p used n ((p, c) :: df) (quadCount Quad.DIE_WAITS (sideQuadrant p) 1 m)

/-- A packet receives its first read grant (R343, R350). -/
def firstGrant (x : Pkt) (m : Mach) : Mach :=
  let p := x.output
  let c := x.cls
  let f := queueTag m p c
  let m := putVtime p f m
  let m := noteFigures p c (m.now.stitch - x.ready.getD m.now.stitch) m
  match (waitingIn m p c).filter (·.id != x.id) with
  | y :: _ => putTag p c (f + wfqCost m p c y.len) m
  | [] => m

/-- Grant one read. -/
def grantRead (x : Pkt) (m : Mach) : Mach :=
  let m := if x.read + x.grant = 0 then firstGrant x m else m
  let m := m.updPkt x.id fun x => { x with grant := x.grant + 1 }
  debitBobbinOf 5 x.output 1 (stagedUse x 1 m)

/-- The reads wanted by a list of outputs. -/
def gatherReads (used : List Nat) : List Nat → List (Nat × Nat) → Mach → List (Pkt × Nat) × List (Nat × Nat) × Mach
  | [], df, m => ([], df, m)
  | p :: ps, df, m =>
    let (r, df, m) := nextRead p used 65 df m
    let (rs, df, m) := gatherReads used ps df m
    (match r with
     | some x => x :: rs
     | none => rs, df, m)

/-- Grant reads one at a time; the read arbiter chooses among the outputs (R163, R351). -/
def readLoop : Nat → List Nat → List Nat → List (Nat × Nat) → Mach → Mach
  | 0, _, _, _, m => m
  | n + 1, outs, used, df, m =>
    let (want, df, m) := gatherReads used outs df m
    match arbitrate m 5 (want.map fun (x, _) => (x.output, x.ready.getD 0)) with
    | none => m
    | some (p, _) =>
      match want.find? (fun w => w.1.output == p) with
      | none => m
      | some (x, d) => readLoop n (want.map (·.1.output)) (used.set d (used.getD d 0 + 1)) df (grantRead x m)

/-- Read grants of the stitch (R176), and the revocations they leave (R177). -/
def grantReads (m : Mach) : Mach :=
  let outs := ((m.core.pkts.filter fun x => x.ready.isSome && x.read < x.len).map (·.output)).eraseDups
  let m := readLoop 640 outs (List.replicate 8 0) [] m
  let revoked := m.core.pkts.filter fun x =>
    x.ready.isSome && x.ran && 0 < x.read && x.read < x.len && x.grant == 0 && !(creditsFree m x == 0)
  forAll revoked (fun x m => quadCount Quad.REVOKES (sideQuadrant x.output) 1 m) m

/-- The schedule phase of a stitch (R168). -/
def schedule (m : Mach) : Mach :=
  let m := declareStalls m
  let m := forAll (m.core.pkts.filter fun x => x.path == 1 && x.ending.isNone) grantExpress m
  grantReads (grantWrites (judgeAll m))

/-! ### The commit phase -/

/-- A stored packet whose EOP swatch is written is committed to its queue (R174, R343). -/
def commitPkt (x : Pkt) (m : Mach) : Mach :=
  let woken := (waitingIn m x.output x.cls).isEmpty
  let x' := { x with ready := some m.now.stitch }
  let m := m.updCore fun c => { c with pkts := (c.pkts.filter fun y => y.id != x.id) ++ [x'] }
  let m := quadCount Quad.STORED_PKTS (sideQuadrant x.output) 1 m
  if woken then wakeQueue x.output x.cls m else m

/-- Packets that leave in the commit phase of stitch n: an express packet whose EOP crossed or whose abort ends, a stored one that
has been read whole or has stalled. -/
def Pkt.gone (n : Nat) (x : Pkt) : Bool :=
  match x.ending with
  | some t => t ≤ n
  | none => (x.path == 1 && x.moved == x.len) || (x.path == 2 && x.read == x.len)

/-- The slots of the swatches read in the stitch are freed (R164). -/
def Pkt.free (x : Pkt) : Pkt := { x with cells := x.cells.drop (x.read - x.freed), freed := x.read }

/-- The commit phase of the fabric core (R164, R174, R178, R344, R350). -/
def commitFabric (m : Mach) : Mach :=
  let m := forAll m.core.pkts (fun x m => queueDebit x.output x.cls x.grant m) m
  let m := forAll (m.core.pkts.filter fun x =>
    x.path == 2 && x.ready.isNone && x.moved == x.len && x.ending.isNone) commitPkt m
  let m := dropPkts (Pkt.gone m.now.stitch) (m.updCore fun c => { c with pkts := c.pkts.map Pkt.free })
  let m := forAll (m.core.pkts.map (·.slice)).eraseDups refreshHeld m
  let m := m.updCore fun c => { c with pkts := c.pkts.map fun x =>
    { x with stall := if x.held == x.len then 0 else x.stall + 1 } }
  let qs := ((m.core.pkts.filter (·.path == 2)).map fun x => (x.output, x.cls)).eraseDups
  forAll qs (fun (p, c) m =>
    let d := queueDepth m p c
    m.updCore fun k => { k with figures := Tab.upd QFigures.reset k.figures (queueKey p c) fun f =>
      { f with depthMax := max f.depthMax d } }) m

/-- The data, request, schedule and grant phases of the fabric core (R19, R168). -/
def fabricStitch (m : Mach) : Mach := schedule (moveData m)

/-- A lost stitch (R24, R171): the transfers granted before it still move; nothing is scheduled, and its credits return later. -/
def fabricLost (m : Mach) : Mach := (moveData m).updCore fun c => { c with undrained := c.undrained + 1 }

/-- Credits that lost stitches have still to return (R24). -/
def drainCarried : Nat → Mach → Mach
  | 0, m => m
  | n + 1, m => drainCarried n (stagedDrain m)
def returnCarried (m : Mach) : Mach := (drainCarried m.core.undrained m).updCore fun c => { c with undrained := 0 }

/-- A sample period ends in stitch n (R350). -/
def sampleEnds (n : Nat) (m : Mach) : Mach :=
  let figs := m.core.figures
  let m := { m.updCore fun c => { c with figures := [] } with traffic := { m.traffic with sampleEnd := some n } }
  forAll (List.range 64) (fun p m =>
    if !m.domOn (54 + portQuadrant p) then m
    else
      let m := m.wr (QStat.SAMPLE_STITCH p) n
      forAll (List.range 64) (fun c m =>
        let f := Tab.get QFigures.reset figs (queueKey p c)
        let k := QStat.Q_STATUS p
        if f = QFigures.reset && m.words k (8 * c + 1) 4 = 0 then m
        else (((m.putWord k (8 * c + 1) f.depthMax).putWord k (8 * c + 2) f.delayMax).putWord k (8 * c + 3)
          f.delaySum).putWord k (8 * c + 4) f.pkts) m) m

/-- Stitch n ends a sample period that has not been ended yet (R350). -/
def sampleDue (m : Mach) (n : Nat) : Bool := n % max 1 (m.rd Sched.SAMPLE_STITCHES) == 0 && m.traffic.sampleEnd != some n

/-- SAMPLE_PERIOD_END: the stitch that has just ended ends a sample period (R350). -/
def samplePeriodEnd (m : Mach) : Mach :=
  let n := m.now.stitch - 1
  if sampleDue m n then sampleEnds n m else m

/-- The record of queue c of port p as Q_STATUS reads it: depth, buckets and tag are live (R350). -/
def queueStatus (m : Mach) (p c : Nat) : Nat :=
  let q := queueKey p c
  queueDepth m p c % 2 ^ 32 + m.words (QStat.Q_STATUS p) (8 * c + 1) 4 * 2 ^ 32 +
    ofSigned 32 (Tab.get 0 m.core.cbkt q) * 2 ^ 160 + ofSigned 32 (Tab.get 0 m.core.pbkt q) * 2 ^ 192 +
    queueTag m p c * 2 ^ 224

/-! ### Errors of the dies (R30, R165, R166) -/

/-- A bolt store or directory die corrected a word (R30). -/
def dieCorr (key : Nat → Nat) (d : Nat) (cell : BitCell) (m : Mach) : Mach :=
  if m.powered (64 + d) then cellRaise d 0 cell noCtx (m.bump (key d) 1) else m

/-- Swatch k of stored packet id is read with an uncorrectable error: it goes on failed and its slot is retired (R165). -/
def boltUncorr (id k : Nat) (cell : BitCell) (m : Mach) : Mach :=
  match m.pkt id with
  | none => m
  | some x =>
    match if k < x.freed then none else x.cells[k - x.freed]? with
    | none => m
    | some s =>
      let d := slotDie s
      if k < x.read then m
      else
        let m := m.updPkt id fun x => { x with failed := Nat.lor x.failed (2 ^ k) }
        let m := m.updCore fun c => { c with retired := s :: c.retired }
        let m := refreshHeld x.slice ((m.bump (Die.ECC_UNCORR d) 1).bump (Die.RETIRED d) 1)
        cellRaise d 2 cell { noCtx with slice := x.slice } (cellRaise d 1 cell { noCtx with slice := x.slice } m)

/-- A bit of a packet's payload changes in the fabric core: its CRC-32C no longer covers it (R31). -/
def swatchErr (id bit : Nat) (m : Mach) : Mach :=
  m.updPkt id fun x => if bit < 512 * x.len then { x with errs := Nat.xor x.errs (2 ^ bit) } else x

/-- The swatches of a packet that lie on die d are read as failed (R166). -/
def failOnDie (d : Nat) (x : Pkt) : Pkt :=
  let hit := (x.inSlots.zipIdx.filter fun e => slotDie e.1 == d && x.read ≤ x.freed + e.2).map fun e => 2 ^ (x.freed + e.2)
  { x with failed := hit.foldl Nat.lor x.failed }

/-- The interface of bolt store die d fails (R166): its slots leave the frame buffer, and what it holds is read as failed. -/
def boltDieFail (d : Nat) (m : Mach) : Mach :=
  if !m.powered (64 + d) || m.rd (Die.DIE_STATE d) = 2 then m
  else
    let m := m.wr (Die.DIE_STATE d) 2
    let m := m.updCore fun c => { c with pkts := c.pkts.map (failOnDie d) }
    let m := forAll (m.core.pkts.map (·.slice)).eraseDups refreshHeld m
    dieRaise d 3 noCtx (refreshSlots m)

/-- Refill of every bucket and bobbin (R23, R331, R352). -/
def refillAll (m : Mach) : Mach :=
  let m := forAll (policedSlices m) refillSlice m
  let m := forAll (shapedPorts m) refillQueues m
  forAll (List.range 10) refillArbiter m

end Sys2Proof.Machine
end

