-- ==== Sys2Proof/Machine/Directory.lean ====
section
/-! DEFINITION. The directory of the coherence slices (chapters 8 and 9): entries, the transient line table,
snoops, mirror records, the home line cache's slots, Lost lines and their log, and what a slice sends. -/

namespace Sys2Proof.Machine

def Mach.updCoh (m : Mach) (f : Coh → Coh) : Mach := { m with coh := f m.coh }

/-! ### Entries (R213 to R217) -/

def eSharers (e : Nat) : Nat := getBits e 0 64
def eLine (e j : Nat) : Nat := getBits e (64 + 3 * j) 3
def eOwner (e : Nat) : Nat := getBits e 76 6
def eHlc (e : Nat) : Nat := getBits e 82 4
def eHot (e : Nat) : Nat := getBits e 86 4
def eTag (e : Nat) : Nat := getBits e 92 20
def eSlice (e : Nat) : Nat := getBits e 112 12
def withSharers (e v : Nat) : Nat := setBits e 0 64 v
def withLine (e j v : Nat) : Nat := setBits e (64 + 3 * j) 3 v
def withOwner (e v : Nat) : Nat := setBits e 76 6 v
def withHlc (e v : Nat) : Nat := setBits e 82 4 v
def withHot (e v : Nat) : Nat := setBits e 86 4 v
def withTrans (e : Nat) (b : Bool) : Nat := setBit e 90 b

/-- A fresh entry of a sector charged to a slice. -/
def freshEntry (tag slice : Nat) : Nat := setBits (setBits 0 92 20 tag) 112 12 slice

/-- Where a sector is kept: slice, slot, tag. -/
structure Place where
  c    : Nat
  slot : Nat
  tag  : Nat
  deriving DecidableEq, Repr

/-- Slot I, tag and slice of a sector number S (R213), with the half that its home selects in twin mode (R384). -/
def placeOf (m : Mach) (s : Nat) (home : Nat) : Place :=
  let k := m.rd Coh.INDEX_BITS
  let t := s / 2 ^ (k + 2)
  let i := Nat.xor (s / 4 % 2 ^ k) t
  let half := if m.rd Coh.DIR_MODE = 1 then 2 ^ 23 * Nat.xor (home % 2) (m.role % 2) else 0
  ⟨Nat.xor (s % 4) (t % 4), i + half, t⟩

/-- The sector number of a place (R213). -/
def sectorOf (m : Mach) (p : Place) : Nat :=
  let k := m.rd Coh.INDEX_BITS
  let i := p.slot % 2 ^ k
  p.tag * 2 ^ (k + 2) + Nat.xor i p.tag % 2 ^ k * 4 + Nat.xor p.c (p.tag % 4)

/-- Fabric address of line j of a place. -/
def lineAddr (m : Mach) (p : Place) (j : Nat) : Nat := sectorOf m p * 256 + 64 * j

/-- The window of an address that a slice acts for: enabled or draining. -/
def cohWindow (m : Mach) (a : Nat) : Option Nat := findWindowOrDraining m a

/-- The place of a sector, by the home of its window. -/
def placeOfSector (m : Mach) (s : Nat) : Place :=
  placeOf m s (match cohWindow m (s * 256) with
    | some w => m.rd (Win.W_HOME w)
    | none => m.role)

def placeOfAddr (m : Mach) (a : Nat) : Place := placeOfSector m (a / 256)

def slotKey (p : Place) : Nat := p.c * 2 ^ 24 + p.slot

/-- The entry of a slot. -/
def Mach.slotEntry (m : Mach) (p : Place) : Nat := Tab.get 0 m.coh.dir (slotKey p)

/-- The slot holds the sector of a place. -/
def holds (m : Mach) (p : Place) : Bool := m.slotEntry p != 0 && eTag (m.slotEntry p) == p.tag

/-- The transient line table entry of a sector (R219). -/
def Mach.tltOf (m : Mach) (p : Place) : Option Tlt :=
  m.coh.tlt.find? fun t => t.c == p.c && t.slot == p.slot && t.tag == p.tag

/-- A line of the table; idle when the sector has no entry. -/
def Mach.tline (m : Mach) (p : Place) (j : Nat) : TLine :=
  match m.tltOf p with
  | some t => t.lines.getD j TLine.idleLine
  | none => TLine.idleLine

def Tlt.place (t : Tlt) : Place := ⟨t.c, t.slot, t.tag⟩

/-- A fill-ahead of the sector is in flight: a TLT entry records it (R259). -/
def aheadOf (m : Mach) (sector : Nat) : Bool := m.coh.hpend.any fun h => h.op == 6 && h.sector == sector

/-- The sector has an entry in the transient line table: for its lines, its eviction, or a fill-ahead (R219, R259). -/
def inTlt (m : Mach) (p : Place) : Bool := (m.tltOf p).isSome || aheadOf m (sectorOf m p)

/-- TLT_USED: entries that slice c holds, those of fill-aheads and of reservation queues of slots without one among them (R219, R238,
R259). -/
def tltUsed (m : Mach) (c : Nat) : Nat :=
  (m.coh.tlt.filter fun t => t.c == c).length + (m.coh.hpend.filter fun h => h.op == 6 && h.c == c).length +
  (m.coh.rsv.filter fun e => e.1 / 2 ^ 24 == c && !(m.coh.tlt.any fun t => t.c * 2 ^ 24 + t.slot == e.1)).length

/-- Directory code of a transient state (R217, R228). -/
def TState.code : TState → Nat
  | .idle => 0
  | .r | .re => 4
  | .bS | .bE | .bC | .bI => 5
  | .w => 6
  | .m | .a => 7

/-- Stable state of line j: under a transient one, the state it is based on. -/
def stableOf (m : Mach) (p : Place) (j : Nat) : Nat :=
  let t := m.tline p j
  if t.st != .idle then t.base else if holds m p then eLine (m.slotEntry p) j else 0

/-! ### Mirror records (R388 to R392) -/

/-- Records are queued: this twin is home and the pair runs (R388). -/
def mirrorOn (m : Mach) : Bool := m.rd Twin.TWIN_STATE == 2 || m.rd Twin.TWIN_STATE == 7

/-- Places that slice c's mirror queue holds. -/
def mirrorUsed (m : Mach) (c : Nat) : Nat :=
  ((Tab.get [] m.coh.mq c).map fun x => if x.record.ty = 6 then 2 else 1).sum

/-- The home twin of a slot (R384). -/
def slotHome (m : Mach) (p : Place) : Nat := if p.slot < 2 ^ 23 then m.role else 1 - m.role

/-- Queue a mirror record at slice c (R388, R389). -/
def queueMirror (r : MirrorRec) (m : Mach) : Mach :=
  let n := Tab.get 0 m.coh.mqNext r.ce
  let m := m.bump (Mirror.RECORDS_TX) 1
  m.updCoh fun x => { x with mqNext := Tab.put 0 x.mqNext r.ce (n + 1)
                             mq := Tab.upd [] x.mq r.ce (· ++ [⟨n, r, none⟩]) }

/-- The record of a change of a sector. -/
def mirrorChange (p : Place) (ty lines new agent : Nat) (m : Mach) : Mach :=
  if !mirrorOn m || p.slot ≥ 2 ^ 23 then m
  else queueMirror ⟨ty, lines, new, slotHome m p, agent, p.slot % 2 ^ 23, p.tag, eSlice (m.slotEntry p), p.c, 0⟩ m

/-- An entry as an IMAGE carries it: TRANS, HLC and HOTCNT 0, and transient lines by their stable state (R389). -/
def imageEntry (m : Mach) (p : Place) : Nat :=
  let e := withTrans (withHlc (withHot (m.slotEntry p) 0) 0) false
  (List.range 4).foldl (fun e j => withLine e j (stableOf m p j)) e

/-- A change in the upper half while HOME_ALL is 1 is queued as an IMAGE (R388). -/
def mirrorImage (p : Place) (m : Mach) : Mach :=
  if mirrorOn m && m.on Twin.HOME_ALL && p.slot ≥ 2 ^ 23 then
    queueMirror ⟨6, 0, 0, slotHome m p, 0, p.slot % 2 ^ 23, p.tag, eSlice (m.slotEntry p), p.c, imageEntry m p⟩ m
  else m

/-! ### Writing entries -/

/-- Write the entry of a slot: ENTRIES_USED and SLC_DIR_HELD follow (R236, R245), and what the peer must know is queued
(R388). -/
def putEntry (p : Place) (e : Nat) (m : Mach) : Mach :=
  let old := m.slotEntry p
  if old = e then m
  else
    let q : Place := { p with tag := eTag (if e = 0 then old else e) }
    let m := if e = 0 then mirrorChange q 2 0 0 0 m else m
    let m := m.updCoh fun x => { x with dir := Tab.put 0 x.dir (slotKey p) e }
    let own := m.rd Coh.DIR_MODE = 0 || p.slot < 2 ^ 23
    let charge := fun (e : Nat) (up : Bool) (m : Mach) =>
      if !own then m else
      let k := Slc.SLC_DIR_HELD (eSlice e)
      if up then m.wr k (m.rd k + 1) else m.wr k (m.rd k - 1)
    let m := if old = 0 then m.wr (Ce.ENTRIES_USED p.c) (m.rd (Ce.ENTRIES_USED p.c) + 1) else charge old false m
    let m := if e = 0 then m.wr (Ce.ENTRIES_USED p.c) (m.rd (Ce.ENTRIES_USED p.c) - 1) else charge e true m
    let m := if old = 0 || (e != 0 && eTag old != eTag e) then mirrorChange q 1 0 0 0 m else m
    mirrorImage q m

/-- Any line of the sector is owned: in E, or in a transient state derived from E (R216). -/
def anyOwned (m : Mach) (p : Place) : Bool := (List.range 4).any fun j => stableOf m p j == 2

/-- The entry's codes, TRANS and OWNER follow the lines; SHARERS stays a superset, which only a rule that names it
clears; a slot with nothing left is emptied (R216, R219). -/
def syncSlot (p : Place) (m : Mach) : Mach :=
  if !holds m p then m
  else
    let e := m.slotEntry p
    let e := (List.range 4).foldl (fun e j =>
      let x := m.tline p j
      withLine e j (if x.st = .idle then stableOf m p j else x.st.code)) e
    let e := if anyOwned m p then e else withOwner e 0
    let e := withTrans e (inTlt m p)
    if !inTlt m p && eSharers e = 0 && eHlc e = 0 && (List.range 4).all (fun j => eLine e j == 0)
    then putEntry p 0 m else putEntry p e m

/-- Change the table entry of a sector, creating it; an entry with nothing left is released. -/
def updTlt (p : Place) (f : Tlt → Tlt) (m : Mach) : Mach :=
  let t := f ((m.tltOf p).getD ⟨p.c, p.slot, p.tag, List.replicate 4 TLine.idleLine, false, false⟩)
  let rest := m.coh.tlt.filter fun x => !(x.c == p.c && x.slot == p.slot && x.tag == p.tag)
  let m := m.updCoh fun x => { x with tlt := if t.evict || t.lines.any (·.st != .idle) then rest ++ [t] else rest }
  syncSlot p (m.wr (Ce.TLT_USED p.c) (tltUsed m p.c))

def updLine (p : Place) (j : Nat) (f : TLine → TLine) (m : Mach) : Mach :=
  updTlt p (fun t => { t with lines := t.lines.set j (f (t.lines.getD j TLine.idleLine)) }) m

/-- What the peer must know when line j leaves the stable state `old` for s (R388). -/
def mirrorLine (p : Place) (j old s agent : Nat) (own : Bool) (m : Mach) : Mach :=
  if s = old then mirrorImage p m
  else if s = 2 then mirrorImage p (if own then m else mirrorChange p 3 (2 ^ j) 0 agent m)
  else if s = 3 then mirrorImage p (mirrorChange p 5 (2 ^ j) 0 0 m)
  else if old = 2 || old = 3 then mirrorImage p (mirrorChange p 4 (2 ^ j) (if s = 1 then 1 else 0) agent m)
  else mirrorImage p m

/-- Fills in flight to a line are spoiled: by a write that is forwarded to it, or, of fill-aheads alone, by its entry to a state other
than I and S (R260). A demand fill that a write has overtaken installs nothing either (log entry 152). -/
def spoil (wrote : Bool) (sector line : Nat) (m : Mach) : Mach :=
  m.updCoh fun x => { x with hpend := x.hpend.map fun h =>
    if h.sector == sector && h.line == line && (h.op == 6 || (h.op == 5 && wrote)) then { h with spoiled := true } else h }

/-- Line j takes a transient state over the stable state s. -/
def become (p : Place) (j : Nat) (x : TLine) (s agent : Nat) (m : Mach) : Mach :=
  let old := stableOf m p j
  mirrorLine p j old s agent false (updLine p j (fun _ => { x with base := s }) (spoil false (sectorOf m p) j m))

/-- Line j enters a transient state over its present stable state. -/
def enter (p : Place) (j : Nat) (x : TLine) (m : Mach) : Mach :=
  let b := stableOf m p j
  updLine p j (fun _ => { x with base := b }) (spoil false (sectorOf m p) j m)

/-- Write the stable state of line j, which leaves its transient state; the mirror is told (R226, R388). -/
def settleLine (p : Place) (j s agent : Nat) (m : Mach) : Mach :=
  let x := m.tline p j
  let old := stableOf m p j
  let m := if holds m p then
      let e := withLine (m.slotEntry p) j s
      let e := if s = 2 then withOwner e agent else e
      m.updCoh fun k => { k with dir := Tab.put 0 k.dir (slotKey p) e }
    else m
  let m := updLine p j (fun _ => TLine.idleLine) (if 2 ≤ s then spoil false (sectorOf m p) j m else m)
  if !holds m p && old = s then m else mirrorLine p j old s agent x.own.isSome m

/-- An agent joins or leaves SHARERS. -/
def addSharer (p : Place) (a : Nat) (m : Mach) : Mach :=
  if holds m p then putEntry p (withSharers (m.slotEntry p) (setBit (eSharers (m.slotEntry p)) a true)) m else m
def dropSharer (p : Place) (a : Nat) (m : Mach) : Mach :=
  if holds m p then putEntry p (withSharers (m.slotEntry p) (setBit (eSharers (m.slotEntry p)) a false)) m else m

/-! ### What a slice sends and raises -/

/-- Context of a raise by slice c about a line and an agent (R246, R277). -/
def cohCtx (m : Mach) (c addr slice : Nat) (agent : Option Nat) : Ctx :=
  { noCtx with
    slice := slice
    gen := if slice < 4096 then m.rd (Slc.SLC_GEN slice) else 0
    addr := addr
    initKind := if agent.isSome then 2 else 0
    initId := agent.getD 0
    flags := 5
    detail := (cohWindow m addr).getD 65535
    level := 4
    kind := 4
    unit := c }

/-- Raise event k of slice c. -/
def cohRaise (c k : Nat) (x : Ctx) (m : Mach) : Mach := raiseEv (1280 + 16 * c + k) x m

/-- The agent of a requester. -/
def agentOf : Requester → Option Nat
  | .agent a => some a
  | _ => none

/-- A slice answers a requester: an NDR of a coherent request, with its transaction closed (R222, R224). A write of the needle engine
or of a management window gets a completion notice on the response network (R229); data goes through the fabric core. -/
def cohAnswer (q : CohReq) (kind data : Nat) (poison : Bool) (m : Mach) : Mach :=
  let m := retire q.port q.tag (closeLine q.port q.tag m)
  let notice := nocPut 2 (sliceEnd (placeOfAddr m q.addr).c) needleEnd q.slice q.tag none (.notice q.port q.tag poison data)
  match q.who with
  | .needle _ | .mgmt _ =>
    if kind = 0 then (notice m).emit (.coherent q.port q.tag 6 data poison)
    else answerTo q.port q.tag (if poison then 1 else 0) data (.coherent q.port q.tag 6 data poison) m
  | .io _ => if kind = 4 || kind = 7 then m.emit (.coherent q.port q.tag kind data poison) else m
  | .agent _ => m.emit (.coherent q.port q.tag kind data poison)

/-- Send a NAK of a request of a kind to its requester's endpoint (R237). -/
def sendNak (c k : Nat) (q : CohReq) (rsv : Bool) (m : Mach) : Mach :=
  (nocPut 2 (sliceEnd c) (endpointOf q.port) q.slice q.tag none (.nak q.port q.tag rsv k q m.coh.backoff) m).emit (.nak q.port q.tag rsv)

/-- The reservation queue of a slot has a place: it is kept in a TLT entry (R238). -/
def queueRoom (m : Mach) (p : Place) : Bool :=
  let n := (Tab.get [] m.coh.rsv (slotKey p)).length
  n < 4 && (0 < n || (m.coh.tlt.any fun t => t.c == p.c && t.slot == p.slot) || tltUsed m p.c < 8192)

/-- NAK a request (R237), joining the reservation queue of its slot at its eighth (R238). -/
def nak (p : Place) (k : Nat) (q : CohReq) (m : Mach) : Mach :=
  let m := retire q.port q.tag (m.bump (Ce.NAKS p.c) 1)
  let queue := Tab.get [] m.coh.rsv (slotKey p)
  let mine := fun (r : Rsv) => r.tag == q.tag && r.port == q.port
  if queue.any mine then
    sendNak p.c k q true
      (m.updCoh fun x => { x with rsv := Tab.upd [] x.rsv (slotKey p) (·.map fun r => if mine r then { r with go := false } else r) })
  else if q.naks ≥ 7 && queueRoom m p then
    sendNak p.c k q true
      (m.updCoh fun x => { x with rsv := Tab.upd [] x.rsv (slotKey p) (· ++ [⟨q.tag, q.port, q.who, q.slice, q.addr, false, 0⟩]) })
  else sendNak p.c k q false m

/-- The port that leads to an agent: its upstream port, or the seam for the peer twin's agents (R222). -/
def agentRoute (m : Mach) (c a : Nat) : Nat :=
  match agentPort m a with
  | some p => p
  | none => 65 + (peerSeam m c).getD 0

def agentDead (m : Mach) (a : Nat) : Bool := bitAt (m.rd Agents.DEAD_AGENTS) a

/-- Live agents of the switch, and of the peer in twin mode. -/
def liveAgents (m : Mach) : Nat :=
  let own := ((List.range 64).filter fun a => (agentPort m a).isSome).foldl (fun v a => setBit v a true) 0
  let all := if m.rd Coh.DIR_MODE = 1 then Nat.lor own (m.rd Twin.PEER_AGENTS) else own
  all - Nat.land all (m.rd Agents.DEAD_AGENTS)

/-- The lowest free index of slice c's snoop table (R220). -/
def freeSnoop (m : Mach) (c : Nat) : Option Nat :=
  let used := (m.coh.snoops.filter fun s => s.sent && s.c == c).map fun s => s.bitag % 1024
  firstBelow 1024 fun i => !used.contains i

/-- The slice of what a coherence slice builds for the lines of `mask` in a sector: that of the request it serves there, or the
SLICE field of the entry (R303). -/
def workSlice (m : Mach) (p : Place) (mask : Nat) : Nat :=
  match (List.range 4).findSome? fun j => if bitAt mask j then (m.tline p j).req else none with
  | some q => q.slice
  | none => eSlice (m.slotEntry p)

/-- A BISnp leaves (R220, R251). -/
def emitSnoop (s : SnoopRec) (m : Mach) : Mach :=
  let p : Place := ⟨s.c, s.slot, s.tag⟩
  let m := m.bump (Ce.SNOOPS s.c) 1
  let m := if holds m p then
      let e := m.slotEntry p
      m.updCoh fun x => { x with dir := Tab.put 0 x.dir (slotKey p) (withHot e (min 15 (eHot e + 1))) }
    else m
  let m := nocPut 1 (sliceEnd s.c) (endpointOf (agentRoute m s.c s.agent)) (workSlice m p s.mask) s.bitag none (.snoopNotice s.bitag) m
  m.emit (.snoop (agentRoute m s.c s.agent) s.agent s.bitag s.kind (sectorOf m p * 256) s.mask)

/-- The stitch in which a snoop sent now has waited SNP_TIMEOUT_US (R233). -/
def snoopDue (m : Mach) : Nat := m.now.stitch + 125 * m.rd Coh.SNP_TIMEOUT_US

/-- An agent has been declared dead, which has not yet taken effect (R268). -/
def agentDying (m : Mach) (a : Nat) : Bool := m.coh.dying.any (·.1 == a)

/-- A fenced twin sends no snoop to the peer's agents (R402), and none goes to an agent that was declared dead (R233). -/
def snoopFenced (m : Mach) (a : Nat) : Bool := (fenced m && bitAt (m.rd Twin.PEER_AGENTS) a) || agentDying m a

/-- Send a snoop, or let it wait in the TLT for a place of the snoop table (R220). -/
def sendSnoop (p : Place) (agent kind mask tries : Nat) (m : Mach) : Mach :=
  match (if snoopFenced m agent then none else freeSnoop m p.c) with
  | some i =>
    let s : SnoopRec := ⟨p.c * 1024 + i, true, p.c, p.slot, p.tag, agent, kind, mask, tries, snoopDue m⟩
    emitSnoop s (m.updCoh fun x => { x with snoops := x.snoops ++ [s] })
  | none => m.updCoh fun x => { x with snoops := x.snoops ++ [⟨0, false, p.c, p.slot, p.tag, agent, kind, mask, tries, 0⟩] }

/-- A place of slice c's snoop table is free: the oldest waiting snoop takes it. -/
def sendWaiting (c : Nat) (m : Mach) : Mach :=
  match m.coh.snoops.find? (fun s => !s.sent && s.c == c && !snoopFenced m s.agent), freeSnoop m c with
  | some s, some i =>
    let s' := { s with sent := true, bitag := c * 1024 + i, due := snoopDue m }
    emitSnoop s' (m.updCoh fun x => { x with snoops := (x.snoops.erase s) ++ [s'] })
  | _, _ => m

/-- Snoop a set of agents for a line; dead agents are never snooped and count as done (R233). -/
def snoopSet (p : Place) (j kind : Nat) (agents : List Nat) (m : Mach) : Mach :=
  let live := agents.filter fun a => !agentDead m a
  let m := updLine p j (fun x => { x with
    snoops := agents.map fun a => ⟨a, none, 0, none, agentDead m a⟩ }) m
  forAll live (fun a m => sendSnoop p a kind (2 ^ j) 0 m) m

/-! ### Forwarding to targets (R225, R525) -/

/-- Tags of the slices' own accesses, by the line: fill-aheads, poison writes, and writebacks of recalled lines. -/
def fillTag (a : Nat) : Nat := 2 ^ 47 + a / 64
def poisonTag (a : Nat) : Nat := 2 ^ 48 + a / 64
def recallTag (a : Nat) : Nat := 2 ^ 49 + a / 64
def isFill (tag : Nat) : Bool := tag / 2 ^ 47 == 1
def isPoison (tag : Nat) : Bool := bitAt tag 48
def isRecall (tag : Nat) : Bool := bitAt tag 49

/-- The target of an address, with its device address. -/
def targetOf (m : Mach) (a : Nat) : Option Nat × Option Nat × Nat :=
  match cohWindow m a with
  | none => (none, none, a)
  | some w =>
    let d := deviceAddr m w a
    match resolve m (winTarget m w (memberOf m w a)) with
    | .port p ld => (some p, ld, d)
    | .seam s => (some (65 + s), none, a)
    | .peer => (some 65, none, a)
    | .none => (none, none, a)

/-- Forward an access to the target, as traffic of the slice's own (R225, R312). A target that does not resolve
ends it at once: the line takes that as the target's error response (R525). -/
def forwardTo (c a kind tag data be : Nat) (poison : Bool) (m : Mach) : Mach :=
  match if kind = 3 || (targetOf m a).1.all (takesMem m) then targetOf m a else (none, none, a) with
  | (some p, ld, d) =>
    let m := sendOn p (if kind = 3 then 0 else 1) (.target c p ld d kind tag data be poison) m
    m.updCoh fun x => { x with fwds := x.fwds ++ [⟨p, tag, a, kind⟩] }
  | (none, _, _) => m.updCoh fun x => { x with work := x.work ++ [.cmpn c (a / 256) (a / 64 % 4) tag true 0] }

/-! ### The home line cache's slots (R248 to R250, R253) -/

/-- Die, step and set of a line (R248). -/
def hlcPlace (m : Mach) (a : Nat) : Nat × Nat × Nat :=
  let l := a / 64 % 2 ^ 46
  let t := l / 2 ^ 20
  let b := Nat.xor (l % 32) (t % 32)
  let c := (placeOfAddr m a).c
  (b % 8, b / 8, Nat.xor (l / 128 % 2 ^ 13) (t % 2 ^ 13) * 4 + c)

/-- Key of way `way` of a set. -/
def wayKey (d i s way : Nat) : Nat := ((d * 4 + i) * 32768 + s) * 16 + way

def wayTag (m : Mach) (k : Nat) : Nat := Tab.get 0 m.coh.hlcTag k
def wayValid (m : Mach) (k : Nat) : Bool := bitAt (wayTag m k) 28
def wayDirty (m : Mach) (k : Nat) : Bool := bitAt (wayTag m k) 29

/-- Fabric address of the line that a way's tag names (R248, R249). -/
def wayAddr (m : Mach) (k : Nat) : Nat :=
  let x := wayTag m k
  let t := getBits x 0 26
  let s := k / 16 % 32768
  let di := k / 16 / 32768
  let b := di / 4 + 8 * (di % 4)
  let low := Nat.xor b (t % 32)
  let mid := Nat.xor (s / 4) (t % 2 ^ 13)
  (t * 2 ^ 20 + mid * 128 + getBits x 26 2 * 32 + low) * 64

/-- The tag word of a line (R249). -/
def tagWord (a : Nat) (dirty : Bool) : Nat :=
  let l := a / 64 % 2 ^ 46
  l / 2 ^ 20 + l / 32 % 4 * 2 ^ 26 + 2 ^ 28 + (if dirty then 2 ^ 29 else 0)

/-- HLC_DIRTY, and HLC_LINES of slice c. -/
def hlcCounts (m : Mach) : Mach :=
  let live := (m.coh.hlcTag.filter fun e => bitAt e.2 28).map (·.1)
  let m := m.wr Hlc.HLC_DIRTY (live.filter (wayDirty m)).length
  forAll (List.range 4) (fun c m => m.wr (CeHlc.HLC_LINES c) (live.filter fun k => k / 16 % 4 == c).length) m

/-- Write the tag word of a way. -/
def putWay (k v : Nat) (m : Mach) : Mach :=
  hlcCounts (m.updCoh fun x => { x with
    hlcTag := Tab.put 0 x.hlcTag k v, hlcBad := if bitAt v 28 then x.hlcBad else x.hlcBad.filter (· != k) })

/-- Mark the data of a way failed, or good again (R156). -/
def putWayBad (k : Nat) (b : Bool) (m : Mach) : Mach :=
  m.updCoh fun x => { x with hlcBad := if b then k :: x.hlcBad.filter (· != k) else x.hlcBad.filter (· != k) }
def putWayData (k v : Nat) (m : Mach) : Mach := m.updCoh fun x => { x with hlcData := Tab.put 0 x.hlcData k v }
def wayData (m : Mach) (k : Nat) : Nat := Tab.get 0 m.coh.hlcData k

/-- The way that holds a line. -/
def wayOf (m : Mach) (a : Nat) : Option Nat :=
  let (d, i, s) := hlcPlace m a
  (List.range 16).map (wayKey d i s) |>.find? fun k => wayValid m k && wayAddr m k == a / 64 * 64

/-- A line's home line cache bit (R250). -/
def hlcBit (m : Mach) (p : Place) (j : Nat) : Bool := holds m p && bitAt (eHlc (m.slotEntry p)) j
def setHlcBit (p : Place) (j : Nat) (b : Bool) (m : Mach) : Mach :=
  if holds m p then syncSlot p (putEntry p (withHlc (m.slotEntry p) (setBit (eHlc (m.slotEntry p)) j b)) m) else m

/-- A line is eligible (R250). -/
def eligible (m : Mach) (a : Nat) : Bool :=
  let (d, i, _) := hlcPlace m a
  m.on Hlc.HLC_ENABLE && i < carvedSteps m d && i < wantedSteps m d && m.rd (Die.DIE_STATE d) == 1 &&
  (match cohWindow m a with
   | some w => winTracked m w && (!m.twinMode || m.rd (Win.W_HOME w) == m.role || m.on Twin.HOME_ALL)
   | none => false)

/-- A valid way is an orphan: the directory knows nothing of its line (R253). -/
def orphan (m : Mach) (k : Nat) : Bool :=
  let a := wayAddr m k
  wayValid m k && !hlcBit m (placeOfAddr m a) (a / 64 % 4)

/-- The way is promised to a fill in flight. -/
def wayTaken (m : Mach) (k : Nat) : Bool := m.coh.hpend.any fun h => 5 ≤ h.op && h.way == k

/-- The sector of a way's line has no TLT entry. -/
def wayQuiet (m : Mach) (k : Nat) : Bool := !inTlt m (placeOfAddr m (wayAddr m k))

/-- What allocation in a set finds (R253): 0 a free way, 1 a clean one to drop, 2 a dirty one to recall. -/
def findWay (m : Mach) (a : Nat) : Option (Nat × Nat) :=
  let (d, i, s) := hlcPlace m a
  let ways := (List.range 16).map (wayKey d i s)
  let v := Tab.get 0 m.coh.victim (wayKey d i s 0)
  let turned := (List.range 16).map fun n => wayKey d i s ((v + n) % 16)
  match ways.find? fun k => !wayTaken m k && (!wayValid m k || orphan m k) with
  | some k => some (0, k)
  | none =>
    match turned.find? fun k => !wayTaken m k && wayValid m k && !wayDirty m k && wayQuiet m k with
    | some k => some (1, k)
    | none => (turned.find? fun k => !wayTaken m k && wayValid m k && wayDirty m k && wayQuiet m k).map fun k => (2, k)

/-- The victim pointer of a way's set advances after a choice that it made (R253). -/
def turnVictim (k : Nat) (m : Mach) : Mach :=
  m.updCoh fun x => { x with victim := Tab.upd 0 x.victim (k / 16 * 16) fun v => (v + 1) % 16 }

/-- Take a way that `findWay` found: an orphan is reclaimed, a clean line dropped (R253). -/
def claimWay (c how k : Nat) (m : Mach) : Mach :=
  let a := wayAddr m k
  let m :=
    if how = 0 && wayValid m k then
      cohRaise c 15 (cohCtx m c a 65535 none) ((putWay k 0 m).bump (CeHlc.ORPHANS c) 1)
    else if how = 1 then setHlcBit (placeOfAddr m a) (a / 64 % 4) false (putWay k 0 m)
    else m
  if how = 0 then m else turnVictim k m

/-- Note work between a slice and a controller. -/
def notePend (h : HPend) (m : Mach) : Mach := m.updCoh fun x => { x with hpend := x.hpend ++ [h] }

/-- The oldest pending work of a line. -/
def findPend (m : Mach) (sector line : Nat) (test : HPend → Bool) : Option HPend :=
  m.coh.hpend.find? fun h => h.sector == sector && h.line == line && test h
def dropPend (h : HPend) (m : Mach) : Mach := m.updCoh fun x => { x with hpend := x.hpend.erase h }

/-- A message to a controller about a line, with nothing else in it. -/
def plainHlc (a : Nat) : HlcMsg := ⟨a, 0, 0, false, false, false, 0, 0, 0, 0⟩

/-- Send a message to the controller of a line's die (R254). -/
def toController (c slice kind : Nat) (h : HlcMsg) (m : Mach) : Mach :=
  let d := (hlcPlace m h.addr).1
  (nocPut 1 (sliceEnd c) (ctrlEnd d) slice (h.addr / 64) (if kind = 1 then some h.data else none) (.home kind h) m).emit
    (.hlc d kind (h.addr / 64 * 64) h.data h.be)

/-- Start the recall or flush of a held line; while the line is transient it waits (R257). -/
def startRecall (p : Place) (j : Nat) (keep : Bool) (m : Mach) : Mach :=
  let s := sectorOf m p
  let h : HPend := ⟨p.c, s, j, if keep then 4 else 3, 0, none, false⟩
  if (m.tline p j).st != .idle then m.updCoh fun x => { x with recallWait := x.recallWait ++ [h] }
  else if m.coh.hpend.any (fun y => y.sector == s && y.line == j && (y.op == 3 || y.op == 4)) then m
  else toController p.c (eSlice (m.slotEntry p)) h.op { plainHlc (lineAddr m p j) with keep := keep } (notePend h m)

/-! ### Lost lines and their log (R272 to R274) -/

/-- A lost-line log record of 32 B. -/
def lostRecord (m : Mach) (seq a agent cause slice c : Nat) : Nat :=
  let w := (cohWindow m a).getD 65535
  let body := m.now.ftime % 2 ^ 64 + a / 64 * 64 * 2 ^ 64 + seq % 2 ^ 32 * 2 ^ 128 + agent % 256 * 2 ^ 160 +
    cause * 2 ^ 168 + slice % 2 ^ 16 * 2 ^ 176 + w % 2 ^ 16 * 2 ^ 192 + c * 2 ^ 208
  body + crc32c (toBytes 28 body) * 2 ^ 224

/-- A slot is at hand for the next record: one for every two, up to 32,768 (R274). -/
def lostSlot (m : Mach) : Option Bool :=
  if m.rd LostLog.LL_PROD % 2 = 1 || m.rd LostLog.LL_SLOTS ≥ 32768 then some false
  else if freeSlots m > 0 then some true else none

/-- LOG_OVERRUN (R274, R277). -/
def lostOverrun (c : Nat) (m : Mach) : Mach := cohRaise c 14 { noCtx with level := 4, kind := 4, unit := c } m

/-- Write one record of slice c. Its SEQ is set when it is written. -/
def lostWrite (c rec_ : Nat) (m : Mach) : Mach :=
  let seq := m.rd LostLog.LL_PROD
  let body := setBits (getBits rec_ 0 224) 128 32 seq
  let rec_ := body + crc32c (toBytes 28 body) * 2 ^ 224
  let m := if (seq + 2 ^ 32 - m.rd LostLog.LL_CONS) % 2 ^ 32 ≥ 65536 then lostOverrun c (m.bump LostLog.LL_OVERRUN 1) else m
  (m.putWords LostLog.LL_DATA (8 * (seq % 65536)) rec_ 8).wr LostLog.LL_PROD ((seq + 1) % 2 ^ 32)

/-- Queue a record at slice c: written, held for want of a slot, or dropped (R274). -/
def lostLog (c rec_ : Nat) (m : Mach) : Mach :=
  match lostSlot m with
  | some take => lostWrite c rec_ (if take then m.wr LostLog.LL_SLOTS (m.rd LostLog.LL_SLOTS + 1) else m)
  | none =>
    if (Tab.get [] m.coh.llHold c).length < 256 then
      m.updCoh fun x => { x with llHold := Tab.upd [] x.llHold c (· ++ [rec_]) }
    else lostOverrun c (m.bump LostLog.LL_DROPPED 1)

/-- Held records are written as slots come free. -/
def lostRetry (m : Mach) : Mach :=
  forAll (List.range 4) (fun c m =>
    let held := Tab.get [] m.coh.llHold c
    let m := m.updCoh fun x => { x with llHold := Tab.put [] x.llHold c [] }
    forAll held (fun r m => lostLog c r m) m) m

/-- Mark line j Lost: the entry, the poison write, the log and the event, in this order (R272). `agent` is the owner, 255
for none. A transaction that the line serves goes on over L. -/
def markLost (p : Place) (j cause agent : Nat) (m : Mach) : Mach :=
  let a := lineAddr m p j
  let slice := if holds m p then eSlice (m.slotEntry p) else 65535
  let m := match wayOf m a with
    | some k => putWay k 0 m
    | none => m
  let m := setHlcBit p j false m
  let m := m.updCoh fun x => { x with recallWait := x.recallWait.filter fun h => !(h.sector == sectorOf m p && h.line == j) }
  let x := m.tline p j
  let m := settleLine p j 3 0 m
  let m := if x.st = .idle then m else updLine p j (fun _ => { x with base := 3 }) m
  let m := (m.wr (CeHlc.POISON_OUT p.c) (m.rd (CeHlc.POISON_OUT p.c) + 1))
  let m := forwardTo p.c a 1 (poisonTag a) 0 (2 ^ 64 - 1) true m
  let m := lostLog p.c (lostRecord m 0 a agent cause slice p.c) m
  cohRaise p.c 9 (cohCtx m p.c a slice (if agent < 64 then some agent else none)) m

end Sys2Proof.Machine
end

