-- ==== Sys2Proof/Machine/Coherence.lean ====
section
/-! DEFINITION. The transaction flows of a coherence slice (chapters 8 and 9): allocation and eviction, the state
tables R226 and R229, snoop answers, ownership transfer, writebacks, reservations, atomics, and what the home line
cache answers. -/

namespace Sys2Proof.Machine

/-! ### Small questions -/

/-- Slice c takes messages: it runs or walks, and its directory die's controller is on and works (R9, R218, R243). -/
def sliceRuns (m : Mach) (c : Nat) : Bool :=
  m.domOn (58 + c) && m.domOn (72 + c) && (m.rd (Ce.CE_STATE c) == 2 || m.rd (Ce.CE_STATE c) == 3) && !bitAt m.coh.dirBad c

/-- SHARERS of the sector at a place. -/
def sharersOf (m : Mach) (p : Place) : List Nat := if holds m p then bitsSet 64 (eSharers (m.slotEntry p)) else []

/-- OWNER of the sector, while a line of it is owned. -/
def ownerOf (m : Mach) (p : Place) : Option Nat :=
  if holds m p && anyOwned m p then some (eOwner (m.slotEntry p)) else none

/-- A slice holds a TLT entry for the sector or has room for one (R219). -/
def tltRoom (m : Mach) (p : Place) : Bool := (m.tltOf p).isSome || tltUsed m p.c < 8192

/-- The sector is being evicted (R235). -/
def evicting (m : Mach) (p : Place) : Bool :=
  match m.tltOf p with
  | some t => t.evict
  | none => false

/-- Any line of the sector is transient. -/
def anyTransient (m : Mach) (p : Place) : Bool := (List.range 4).any fun j => (m.tline p j).st != .idle

/-- An agent is done for a line (R231). -/
def snoopDone (st : TState) (z : Snooped) : Bool :=
  z.forced || (z.answer.isSome && z.writes == 0) || z.wb == some 0 || (st == .bS && z.wb == some 1)

/-- What a snooped agent is left with: 0 I, 1 S, 2 E; its answer tells, where the agent is not done by its writeback alone (R231). -/
def snoopResult (z : Snooped) : Nat := z.answer.getD (z.wb.getD 0)

/-- All done for line j: every agent is done, and the ownership transfer it waits for has ended (R227, R229). -/
def allDone (m : Mach) (p : Place) (j : Nat) : Bool :=
  let x := m.tline p j
  x.snoops.all (snoopDone x.st) &&
  (!x.transfer || (List.range 4).all fun i =>
    i == j || !((m.tline p i).req.isNone && ((m.tline p i).st == .bI || (m.tline p i).st == .w)))

/-- A line in a transient state for a request. -/
def tline (st : TState) (q : Option CohReq) : TLine := { TLine.idleLine with st := st, came := st, req := q }

/-! ### NAKs for want of room -/

/-- NAK for want of a TLT entry (R219). -/
def nakFull (p : Place) (k : Nat) (q : CohReq) (m : Mach) : Mach :=
  nak p k q (cohRaise p.c 5 (cohCtx m p.c q.addr q.slice (agentOf q.who)) (m.bump (Ce.TLT_FULL p.c) 1))

/-- A request that needs a TLT entry goes on, or is NAKed for want of one (R219). -/
def needTlt (p : Place) (k : Nat) (q : CohReq) (f : Mach → Mach) (m : Mach) : Mach := if tltRoom m p then f m else nakFull p k q m

/-! ### Eviction (R235) -/

/-- Put the S and E lines of a sector into B_I for eviction, and snoop every holder of the sector by block (R235 step 4). -/
def evictSnoops (p : Place) (m : Mach) : Mach :=
  let js := (List.range 4).filter fun j => stableOf m p j == 1 || stableOf m p j == 2
  let sh := sharersOf m p
  let ow := (ownerOf m p).toList
  let m := forAll js (fun j m =>
    let who := if stableOf m p j = 2 then ow else sh
    enter p j { tline .bI none with
      owner := if stableOf m p j = 2 then ow.head? else none
      snoops := who.map fun a => ⟨a, none, 0, none, agentDead m a⟩ } m) m
  let m := updTlt p (fun t => { t with blocked := true }) m
  let agents := (ow ++ sh).eraseDups
  forAll (agents.filter fun a => !agentDead m a) (fun a m => sendSnoop p a 0 15 0 m) m

/-- The eviction of a sector goes on: held lines are recalled first, then the holders are snooped, then the slot is
emptied or keeps its Lost lines, with SHARERS 0 (R235). -/
def advanceEvict (p : Place) (m : Mach) : Mach :=
  if !evicting m p || anyTransient m p then m
  else if holds m p && eHlc (m.slotEntry p) != 0 then
    forAll (bitsSet 4 (eHlc (m.slotEntry p))) (fun j m => startRecall p j false m) m
  else if (List.range 4).any (fun j => stableOf m p j == 1 || stableOf m p j == 2) then evictSnoops p m
  else
    let kept := (List.range 4).any fun j => stableOf m p j == 3
    let m := if kept && !(m.tltOf p).any (·.blocked) && !(sharersOf m p).isEmpty then evictSnoops p m else m
    let m := updTlt p (fun t => { t with evict := false, blocked := false }) m
    if kept then (if (sharersOf m p).isEmpty then m else putEntry p (withSharers (m.slotEntry p) 0) m)
    else (if holds m p then putEntry p 0 m else m).bump (Ce.EVICTIONS p.c) 1

/-- Begin to evict the sector at a place. -/
def startEvict (p : Place) (m : Mach) : Mach := advanceEvict p (updTlt p (fun t => { t with evict := true }) m)

/-! ### Allocation (R235, R236) -/

/-- What allocation gives: a slot, a NAK, a NAK for want of a TLT entry, or service without allocation. -/
inductive Slotted | slot | nak | full | plain
  deriving DecidableEq, Repr

/-- Take the direct slot for a request's sector, which needs a TLT entry too where `tlt` is set. The quota is judged before a victim is
looked for (R219, R235, R236; log entry 153). -/
def allocate (p : Place) (tlt : Bool) (q : CohReq) (m : Mach) : Slotted × Mach :=
  let short := tlt && !tltRoom m p
  let fresh := fun (m : Mach) =>
    let e := freshEntry p.tag q.slice
    (Slotted.slot, putEntry p (if e = 0 then withTrans e true else e) (m.bump (Ce.ALLOCS p.c) 1))
  let e := m.slotEntry p
  if e != 0 && eTag e = p.tag then (if short then .full else .slot, m)
  else if m.rd (Slc.SLC_DIR_HELD q.slice) ≥ m.rd (Slc.SLC_DIR_QUOTA q.slice) then
    (.plain, cohRaise p.c 4 (cohCtx m p.c q.addr q.slice (agentOf q.who)) (m.bump (Ce.QUOTA_DENY p.c) 1))
  else if e = 0 then (if short then (.full, m) else fresh m)
  else
    let v : Place := { p with tag := eTag e }
    let states := (List.range 4).map fun j => eLine e j
    if inTlt m v then (.nak, m)
    else if states.all (· == 0) && eHlc e = 0 then (if short then (.full, m) else fresh (putEntry p 0 m))
    else if states.all (fun s => s == 0 || s == 3) && eSharers e = 0 && eHlc e = 0 then
      (.plain, m.bump (Ce.LOST_PINNED p.c) 1)
    else if !tltRoom m v then (.full, m)
    else (.nak, startEvict v m)

/-! ### Forwarding reads and writes of a line -/

/-- The slice has room in its response ejection buffer to reserve for the HCMP of a fill (R255). -/
def fillRoom (m : Mach) (c : Nat) : Bool := fillsOut m c < bufSize (ejectBuf (sliceEnd c)) 2

/-- Fill-ahead for the other lines of the sector (R259). -/
def fillAhead (p : Place) (j : Nat) (m : Mach) : Mach :=
  if !m.on Hlc.FILL_AHEAD then m
  else
    forAll ((List.range 4).filter (· != j)) (fun i m =>
      let a := lineAddr m p i
      if (m.tline p i).st == .idle && stableOf m p i ≤ 1 && eligible m a && !hlcBit m p i && tltUsed m p.c < 8192 &&
         fillRoom m p.c &&
         (match cohWindow m a with
          | some w => m.on (Win.W_PREFETCH w)
          | none => false) then
        match findWay m a with
        | some (how, k) =>
          if how ≤ 1 then
            forwardTo p.c a 4 (fillTag a) 0 0 false
              (notePend ⟨p.c, a / 256, i, 6, k, none, false⟩ (claimWay p.c how k m))
          else m
        | none => m
      else m) m

/-- Forward a read to the target: its stamp retires as it is handed on (R298). -/
def sendRead (c a kind : Nat) (q : CohReq) (m : Mach) : Mach :=
  forwardTo c a kind q.tag 0 0 false (handOver q.port q.tag m)

/-- Forward a read of line j: to the home line cache where it holds the line, otherwise to the target, with a demand
fill when the line is hot (R225, R242, R251). -/
def forwardRead (p : Place) (j : Nat) (q : CohReq) (mayFill : Bool) (m : Mach) : Mach :=
  let a := lineAddr m p j
  if hlcBit m p j then
    toController p.c q.slice 0 (plainHlc a) (notePend ⟨p.c, a / 256, j, 0, 0, some q, false⟩ (m.bump (CeHlc.HLC_HITS p.c) 1))
  else if mayFill && fillRoom m p.c && holds m p && eHot (m.slotEntry p) ≥ m.rd Hlc.HOT_THRESH && eligible m a then
    match findWay m a with
    | some (2, k) =>
      let v := wayAddr m k
      sendRead p.c a 0 q (startRecall (placeOfAddr m v) (v / 64 % 4) false (turnVictim k m))
    | some (how, k) =>
      let m := notePend ⟨p.c, a / 256, j, 5, k, none, false⟩ (claimWay p.c how k m)
      fillAhead p j (sendRead p.c a 4 q m)
    | none => sendRead p.c a 0 q m
  else sendRead p.c a 0 q m

/-- Forward a write of line j: to its slot, in write-through mode to the target as well, or to the target (R225, R242,
R256). -/
def forwardWrite (p : Place) (j : Nat) (q : CohReq) (m : Mach) : Mach :=
  let a := lineAddr m p j
  let m := spoil true (a / 256) j m
  let kind := if q.partialW then 2 else 1
  if hlcBit m p j then
    let m := toController p.c q.slice 1 { plainHlc a with data := q.data, be := q.be, failed := q.poison }
      (notePend ⟨p.c, a / 256, j, 1, 0, some q, false⟩ (m.bump (CeHlc.HLC_HITS p.c) 1))
    if m.rd Hlc.HLC_MODE = 1 then forwardTo p.c a kind q.tag q.data q.be q.poison (handOver q.port q.tag m) else m
  else forwardTo p.c a kind q.tag q.data q.be q.poison (handOver q.port q.tag m)

/-- Completions that a forwarded write of line j needs (R256). -/
def writeNeeds (m : Mach) (p : Place) (j : Nat) : Nat := if hlcBit m p j && m.rd Hlc.HLC_MODE = 1 then 2 else 1

/-- Line j enters M with a write, over the stable state `base`, to return to `back` (R226, R229). -/
def enterM (p : Place) (j : Nat) (q : CohReq) (base back : Nat) (joins : Option Nat) (m : Mach) : Mach :=
  let n := writeNeeds m p j
  forwardWrite p j q (become p j { tline .m (some q) with back := back, joins := joins, need := n } base 0 m)

/-! ### Grants of E -/

/-- OWN is queued when a grant of E is decided (R392). -/
def queueOwn (p : Place) (j a : Nat) (m : Mach) : Mach :=
  if mirrorOn m && p.slot < 2 ^ 23 && (m.tline p j).own.isNone then
    let n := Tab.get 0 m.coh.mqNext p.c
    mirrorChange p 3 (2 ^ j) 0 a (updLine p j (fun x => { x with own := some n }) m)
  else m

/-- The OWN record of line j is not yet confirmed (R392). -/
def ownWaits (m : Mach) (p : Place) (j : Nat) : Bool :=
  match (m.tline p j).own with
  | none => false
  | some n => (Tab.get [] m.coh.mq p.c).any fun x => x.number == n

/-- Line j goes to E for the requester of q, which is told Cmp-E when it reads no data. -/
def grantE (p : Place) (j : Nat) (q : CohReq) (tell : Bool) (m : Mach) : Mach :=
  let a := (agentOf q.who).getD 0
  let m := if agentDead m a then settleLine p j 0 0 m else settleLine p j 2 a m
  if tell then cohAnswer q 2 0 false m else m

/-- A grant of E without a read of the target: at once, or when its OWN is confirmed (R241, R392). -/
def decideE (p : Place) (j : Nat) (q : CohReq) (base : Nat) (m : Mach) : Mach :=
  let m := become p j { tline .re (some q) with grantE := true, own := (m.tline p j).own } base 0 m
  let m := queueOwn p j ((agentOf q.who).getD 0) m
  if ownWaits m p j then m else grantE p j q true m

/-- Line j enters RE (R226, R229). -/
def enterRE (p : Place) (j : Nat) (q : CohReq) (base : Nat) (m : Mach) : Mach :=
  let m := become p j { tline .re (some q) with own := (m.tline p j).own, data := true } base 0 m
  forwardRead p j q true (queueOwn p j ((agentOf q.who).getD 0) m)

/-- Line j enters R with its first reader, over the stable state `base` that agent y was left with. -/
def enterR (p : Place) (j : Nat) (q : CohReq) (base y : Nat) (m : Mach) : Mach :=
  forwardRead p j q true (become p j { tline .r none with rs := [q] } base y m)

/-- A read is answered with poison from the directory (R226, R273). -/
def lostRead (q : CohReq) (m : Mach) : Mach := cohAnswer q 4 0 true m

/-! ### Atomics (R261 to R266) -/

/-- The new value of an atomic operation on `size` bytes (R261). -/
def atomValue (code size old operand compare : Nat) : Nat :=
  let w := 2 ^ (8 * size)
  match code with
  | 0 => (old + operand) % w
  | 1 => operand % w
  | 2 => if old = compare % w then operand % w else old
  | 3 => Nat.land old (operand % w)
  | 4 => Nat.lor old (operand % w)
  | 5 => Nat.xor old (operand % w)
  | 6 => max old (operand % w)
  | _ => min old (operand % w)

/-- The operation writes (R261). -/
def atomWrites (code size old compare : Nat) : Bool := code != 2 || old == compare % 2 ^ (8 * size)

/-- An atomic on the 64 bytes of a line: the old value and the new bytes (R261). -/
def atomLine (data a code size operand compare : Nat) : Nat × Nat :=
  let lo := 8 * (a % 64)
  let old := getBits data lo (8 * size)
  (old, setBits data lo (8 * size) (atomValue code size old operand compare))

/-- Byte enables of an operand. -/
def atomBe (a size : Nat) : Nat := (2 ^ size - 1) * 2 ^ (a % 64)

/-- ATOMIC_ERR (R263, R265, R266). -/
def atomErr (c : Nat) (q : CohReq) (m : Mach) : Mach :=
  cohRaise c 12 { cohCtx m c q.addr q.slice (agentOf q.who) with access := 3 } (m.bump (CeHlc.ATOM_ERR c) 1)

/-- An atomic on a line in L (R266). -/
def atomLost (c : Nat) (q : CohReq) (m : Mach) : Mach := cohAnswer q 7 0 true (atomErr c q m)

/-- Step 6 of R264: the line becomes I, and the completion carries the old value. -/
def atomFinish (p : Place) (j : Nat) (q : CohReq) (poison : Bool) (m : Mach) : Mach :=
  let x := m.tline p j
  let m := settleLine p j 0 0 m
  let m := if x.data then
      let m := if poison then m else setHlcBit p j true m
      if holds m p then putEntry p (withHot (m.slotEntry p) 0) m else m
    else m
  let m := m.bump (if x.data then CeHlc.ATOM_HLC p.c else CeHlc.ATOM_RMW p.c) 1
  cohAnswer q 7 x.old poison m

/-- Step 5 of R264: the access that gives the old value. -/
def atomAccess (p : Place) (j : Nat) (q : CohReq) (m : Mach) : Mach :=
  let hlc := (m.tline p j).data
  let a := lineAddr m p j
  let m := become p j { tline .a (some q) with data := hlc, step := 2 } 0 0 m
  if !hlc then forwardTo p.c a 0 q.tag 0 0 false m
  else if hlcBit m p j then
    toController p.c q.slice 2 { plainHlc q.addr with
      atomic := true, atomCode := q.atomCode, atomSize := q.atomSize, operand := q.operand, compare := q.compare }
      (notePend ⟨p.c, a / 256, j, 2, 0, some q, false⟩ m)
  else
    match findWay m a with
    | some (how, k) =>
      if how ≤ 1 && fillRoom m p.c then
        forwardTo p.c a 4 q.tag 0 0 false (notePend ⟨p.c, a / 256, j, 7, k, some q, false⟩ (claimWay p.c how k m))
      else forwardTo p.c a 0 q.tag 0 0 false (updLine p j (fun x => { x with data := false }) m)
    | none => forwardTo p.c a 0 q.tag 0 0 false (updLine p j (fun x => { x with data := false }) m)

/-- A fill is dropped (R255, R258): its read is not affected, and an atomic that waited for it goes on by read-modify-write. -/
def dropFill (h : HPend) (m : Mach) : Mach :=
  let m := dropPend h m
  let p := placeOfSector m h.sector
  match h.op, h.req with
  | 7, some q => atomAccess p h.line q (updLine p h.line (fun x => { x with data := false }) m)
  | _, _ => m

/-- The old value of an atomic has come: write the changed bytes where step 5 asks for it. -/
def atomOld (p : Place) (j : Nat) (q : CohReq) (old : Nat) (m : Mach) : Mach :=
  let x := m.tline p j
  let a := lineAddr m p j
  let m := updLine p j (fun x => { x with old := old, step := 3 }) m
  let new := atomValue q.atomCode q.atomSize old q.operand q.compare
  let through := !x.data || m.rd Coh.DIR_MODE = 1
  if atomWrites q.atomCode q.atomSize old q.compare && through then
    forwardTo p.c a 2 q.tag (new * 2 ^ (8 * (q.addr % 64))) (atomBe q.addr q.atomSize) false (spoil true (a / 256) j m)
  else atomFinish p j q false m

/-- An atomic at memory site may be forwarded: nothing holds the line (R265 steps 2 and 3). -/
def atomForward (p : Place) (j : Nat) (q : CohReq) (m : Mach) : Mach :=
  let m := become p j { tline .m (some q) with need := 1, step := 9 } 0 0 m
  forwardTo p.c q.addr 3 q.tag q.operand (atomBe q.addr q.atomSize) false (m.bump (CeHlc.ATOM_MEM p.c) 1)

/-! ### All done (R229) -/

/-- A request whose line went to L while it waited is completed as its row on L prescribes (R232). -/
def doneLost (p : Place) (j : Nat) (x : TLine) (m : Mach) : Mach :=
  match x.req with
  | none => settleLine p j 3 0 m
  | some q =>
    match x.st with
    | .bE =>
      if x.data then lostRead q (settleLine p j 3 0 m) else decideE p j q 3 m
    | .bI => enterM p j q 3 (if q.partialW then 3 else 0) none m
    | .a => atomLost p.c q (settleLine p j 3 0 m)
    | _ => lostRead q (settleLine p j 3 0 m)

/-- The owner's result after a snoop. -/
def ownerResult (x : TLine) : Nat :=
  match x.snoops with
  | z :: _ => snoopResult z
  | [] => 0

/-- The sharers that an atomic at home snooped out leave SHARERS when no other line of the sector is S or R (R264, its
example). DEDUCED (log entry 29): the rule does not name SHARERS, the example clears it. -/
def atomSharers (p : Place) (j : Nat) (x : TLine) (m : Mach) : Mach :=
  let other := (List.range 4).any fun i => i != j && (stableOf m p i == 1 || (m.tline p i).st == .r)
  if other || x.base != 1 then m else x.snoops.foldl (fun m z => dropSharer p z.agent m) m

/-- Line j is left to its owner as the answer to a snoop says (R229, R231). -/
def lineLeft (p : Place) (j : Nat) (x : TLine) (m : Mach) : Mach :=
  let y := (x.snoops.head?.map (·.agent)).getD 0
  match ownerResult x with
  | 2 => settleLine p j 2 y m
  | 1 => settleLine p j 1 y (addSharer p y m)
  | _ => settleLine p j 0 0 m

/-- Line j goes on when all are done (R229). -/
def lineDone (p : Place) (j : Nat) (m : Mach) : Mach :=
  let x := m.tline p j
  if x.base = 3 then doneLost p j x m
  else
    let y := (x.snoops.head?.map (·.agent)).getD 0
    match x.st, x.req with
    | .bS, some q =>
      if ownerResult x = 1 then enterR p j q 1 y (addSharer p y m) else enterR p j q 0 y m
    | .bE, some q =>
      if x.data then enterRE p j q 0 m else decideE p j q 0 m
    | .bC, some q => forwardRead p j q false (lineLeft p j x m)
    | .bI, some q => enterM p j q 0 0 none m
    | .a, some q =>
      if x.step = 1 then atomAccess p j q (atomSharers p j x m)
      else if x.step = 9 && !hlcBit m p j then atomForward p j q m else m
    | .bS, none | .bC, none => lineLeft p j x m
    | _, none => settleLine p j 0 0 m
    | _, _ => m

/-- A line waits for snoops. -/
def snooping (x : TLine) : Bool :=
  x.st == .bS || x.st == .bE || x.st == .bC || x.st == .bI || (x.st == .a && (x.step == 1 || x.step == 9))

/-- Let every line of a sector whose snoops are all done go on. -/
def progress : Nat → Place → Mach → Mach
  | 0, _, m => m
  | n + 1, p, m =>
    match firstBelow 4 (fun j =>
      let x := m.tline p j
      snooping x && allDone m p j && !(x.step == 9 && x.base != 3 && hlcBit m p j)) with
    | none => m
    | some j => progress n p (lineDone p j m)

/-! ### After a message -/

/-- Tags of the requests from the agent of q on its line that were admitted and have no Cmp yet: in the TLT, at a controller, or
forwarded without a TLT entry (R230, R240). -/
def admittedFrom (m : Mach) (q : CohReq) : List Nat :=
  let x := m.tline (placeOfAddr m q.addr) (q.addr / 64 % 4)
  let mine := fun (l : List CohReq) => (l.filter fun r => r.who == q.who).map (·.tag)
  mine x.req.toList ++ mine x.rs ++ (x.wbs.filter fun w => some w.agent == agentOf q.who).map (·.tag) ++
  mine ((m.coh.hpend.filter fun h => h.sector == q.addr / 256 && h.line == q.addr / 64 % 4).flatMap (·.req.toList)) ++
  ((m.coh.fwds.filter fun f => f.addr / 64 == q.addr / 64 && m.edge.txns.any fun t => t.port == q.port && t.tag == f.tag).map (·.tag))

/-- BIConflicts that no longer wait are acknowledged (R240). -/
def serveConflicts (m : Mach) : Mach :=
  let (wait, free) := m.coh.biWait.partition fun w => (admittedFrom m w.req).any w.tags.contains
  forAll free (fun w m => cohAnswer w.req 3 0 false m) (m.updCoh fun x => { x with biWait := wait })

/-- Recalls whose lines are stable again are sent (R257). -/
def serveRecalls (m : Mach) : Mach :=
  let free := m.coh.recallWait.filter fun h => (m.tline (placeOfSector m h.sector) h.line).st == .idle
  let m := m.updCoh fun x => { x with recallWait := x.recallWait.filter fun h => !free.contains h }
  forAll free (fun h m =>
    let p := placeOfSector m h.sector
    if hlcBit m p h.line then startRecall p h.line (h.op == 4) m else m) m

/-- GO to the head of a slot's queue when the slot has no transient line and no write in M (R238). -/
def serveRsv (c slot : Nat) (m : Mach) : Mach :=
  let k := c * 2 ^ 24 + slot
  if m.coh.tlt.any (fun t => t.c == c && t.slot == slot) then m
  else
    match Tab.get [] m.coh.rsv k with
    | r :: rest =>
      if r.go then m
      else
        let m := m.updCoh fun x => { x with
          rsv := Tab.put [] x.rsv k ({ r with go := true, due := m.now.stitch + m.rd Coh.RSV_WAIT } :: rest) }
        ((nocPut 2 (sliceEnd c) (endpointOf r.port) r.slice r.tag none (.go r.port r.tag) m).bump (Ce.RSV_GRANTS c) 1).emit
          (.go r.port r.tag)
    | [] => m

/-- What the state of a sector now calls for. -/
def afterSector (p : Place) (m : Mach) : Mach :=
  let m := progress 12 p m
  let m := advanceEvict p m
  let m := progress 12 p m
  let m := advanceEvict p m
  let m := serveRecalls (serveConflicts m)
  let m := syncSlot p m
  let m := serveRsv p.c p.slot m
  m.wr (Ce.TLT_USED p.c) (tltUsed m p.c)

/-! ### The unpick of a slot (R269, R270) -/

/-- The walk of a failover promotes a slot of the upper half before it unpicks it: lines in I become S, and every live agent of
this twin joins SHARERS (R405). -/
def promoteSlot (p : Place) (m : Mach) : Mach :=
  let e := m.slotEntry p
  if !m.twin.promoting || p.slot < 2 ^ 23 || e = 0 || p.slot < m.rd (CeHlc.WALK_POS p.c) then m
  else
    let own := m.rd Twin.OWN_AGENTS
    let e := withSharers e (Nat.lor (eSharers e) (own - Nat.land own (m.rd Agents.DEAD_AGENTS)))
    let e := (List.range 4).foldl (fun e j => if eLine e j = 0 then withLine e j 1 else e) e
    m.updCoh fun x => { x with dir := Tab.put 0 x.dir (slotKey p) e }

/-- Apply the walk to one slot for a set of dead agents. Lines in transient states keep what they wait for. -/
def unpickSlot (agents c slot : Nat) (m : Mach) : Mach :=
  let p0 : Place := ⟨c, slot, 0⟩
  let m := if agents = 0 then m else promoteSlot p0 m
  let e := m.slotEntry p0
  if e = 0 || agents = 0 then m
  else
    let p : Place := ⟨c, slot, eTag e⟩
    let m := if Nat.land (eSharers e) agents = 0 then m
      else
        let left := eSharers e - Nat.land (eSharers e) agents
        let m := putEntry p (withSharers e left) m
        if left = 0 then
          forAll ((List.range 4).filter fun j => (m.tline p j).st == .idle && stableOf m p j == 1)
            (fun j m => settleLine p j 0 0 m) m
        else m
    let m := match ownerOf m p with
      | some y =>
        if bitAt agents y then
          forAll ((List.range 4).filter fun j => (m.tline p j).st == .idle && stableOf m p j == 2)
            (fun j m => markLost p j 0 y m) m
        else m
      | none => m
    syncSlot p m

/-- Agents of the walk in progress. -/
def walkSet (m : Mach) : Nat := m.rd Agents.WALK_AGENTS

/-! ### The requests of R226 and R229 -/

/-- A read of a line from an agent that wants S. -/
def takeRdS (p : Place) (j : Nat) (q : CohReq) (m : Mach) : Mach :=
  let x := m.tline p j
  if x.st = .r then
    if x.rs.length < 64 then
      forwardRead p j q true (updLine p j (fun x => { x with rs := x.rs ++ [q] }) m)
    else nak p 0 q m
  else if x.st != .idle then nak p 0 q m
  else
    match stableOf m p j with
    | 1 => needTlt p 0 q (enterR p j q 1 0) m
    | 3 => lostRead q m
    | s =>
      if s = 2 && ownerOf m p != agentOf q.who then
        let y := (ownerOf m p).getD 0
        needTlt p 0 q (fun m => snoopSet p j 1 [y] (enter p j { tline .bS (some q) with owner := some y } m)) m
      else
        match allocate p true q m with
        | (.slot, m) => enterR p j q 0 0 m
        | (.nak, m) => nak p 0 q m
        | (.full, m) => nakFull p 0 q m
        | (.plain, m) => forwardRead p j q false m

/-- The grant of E would name another agent than OWNER does: the transfer of R227 comes first. -/
def transferDue (m : Mach) (p : Place) (q : CohReq) : Option Nat :=
  match ownerOf m p with
  | some y => if agentOf q.who = some y then none else some y
  | none => none

/-- Take the sector's ownership from Y (R227). A line j that is in E itself is snooped with Y's other lines. -/
def startTransfer (p : Place) (j : Nat) (q : CohReq) (y : Nat) (data : Bool) (m : Mach) : Mach :=
  if anyTransient m p then nak p (if data then 1 else 3) q m
  else
    let own := stableOf m p j == 2
    let owned := (List.range 4).filter fun i => i != j && stableOf m p i == 2
    let others := if stableOf m p j = 1 then (sharersOf m p).filter fun a => some a != agentOf q.who else []
    let m := forAll owned (fun i m =>
      enter p i { tline .bI none with owner := some y, snoops := [⟨y, none, 0, none, agentDead m y⟩] } m) m
    let mask := (owned.map fun i => 2 ^ i).sum + (if own then 2 ^ j else 0)
    let m := if agentDead m y then m else sendSnoop p y 0 mask 0 m
    let m := enter p j { tline .bE (some q) with
      data := data, transfer := true, owner := if own then some y else none
      snoops := if own then [⟨y, none, 0, none, agentDead m y⟩] else [] } m
    let m := queueOwn p j ((agentOf q.who).getD 0) m
    if others.isEmpty then m else snoopSet p j 0 others m

/-- Another line of the sector is being granted in E to another agent: a second grant would give the sector two owners (R216, R227; log
entry 154). -/
def rivalGrant (m : Mach) (p : Place) (j : Nat) (q : CohReq) : Bool :=
  (List.range 4).any fun i =>
    let x := m.tline p i
    i != j && (x.st == .bE || x.st == .re) && x.req.any fun r => agentOf r.who != agentOf q.who

/-- A read or an invalidation that wants E: RdA with data, InvA without. -/
def takeOwn (p : Place) (j : Nat) (q : CohReq) (data : Bool) (m : Mach) : Mach :=
  let x := m.tline p j
  let k := if data then 1 else 3
  if x.st != .idle then nak p k q m
  else
    let s := stableOf m p j
    let tlt := data || (mirrorOn m && p.slot < 2 ^ 23)
    let begin_ := fun (b : Nat) (m : Mach) => if data then enterRE p j q b m else decideE p j q b m
    let other := (List.range 4).any fun i => i != j && stableOf m p i == 2
    if s = 3 && data then lostRead q m
    else if rivalGrant m p j q then nak p k q m
    else
      match transferDue m p q with
      | some y =>
        if s = 2 && !other then
          needTlt p k q (fun m =>
            let m := enter p j { tline .bE (some q) with data := data, owner := some y } m
            snoopSet p j 0 [y] (queueOwn p j ((agentOf q.who).getD 0) m)) m
        else needTlt p k q (startTransfer p j q y data) m
      | none =>
        if s = 1 then
          let others := (sharersOf m p).filter fun a => some a != agentOf q.who
          if others.isEmpty then (if tlt then needTlt p k q (begin_ 1) m else begin_ 1 m)
          else
            needTlt p k q (fun m =>
              let m := enter p j { tline .bE (some q) with data := data } m
              snoopSet p j 0 others (queueOwn p j ((agentOf q.who).getD 0) m)) m
        else if s = 3 then (if tlt then needTlt p k q (decideE p j q 3) m else decideE p j q 3 m)
        else
          match allocate p tlt q m with
          | (.slot, m) => begin_ 0 m
          | (.nak, m) => nak p k q m
          | (.full, m) => nakFull p k q m
          | (.plain, m) => if data then forwardRead p j q false m else cohAnswer q 0 0 false m

/-- A read that is granted I. -/
def takeRdI (p : Place) (j : Nat) (q : CohReq) (m : Mach) : Mach :=
  let x := m.tline p j
  if x.st = .r then forwardRead p j q false m
  else if x.st != .idle then nak p 2 q m
  else
    match stableOf m p j with
    | 3 => lostRead q m
    | 2 =>
      if ownerOf m p == agentOf q.who then forwardRead p j q false m
      else if !tltRoom m p then nakFull p 2 q m
      else
        let y := (ownerOf m p).getD 0
        snoopSet p j 2 [y] (enter p j { tline .bC (some q) with owner := some y } m)
    | _ => forwardRead p j q false m

/-- A clean eviction; one that no row accepts receives Cmp and changes nothing (R230). -/
def takeClnEv (p : Place) (j : Nat) (q : CohReq) (m : Mach) : Mach :=
  let m :=
    match agentOf q.who with
    | none => m
    | some a =>
      if (m.tline p j).st != .idle || evicting m p then m
      else if stableOf m p j = 2 && ownerOf m p == some a then settleLine p j 0 0 m
      else if stableOf m p j = 1 then
        let other := (List.range 4).any fun i => i != j && (stableOf m p i == 1 || (m.tline p i).st == .r)
        if other then m
        else
          let m := dropSharer p a m
          if (sharersOf m p).isEmpty then settleLine p j 0 0 m else m
      else m
  cohAnswer q 0 0 false m

/-- The MetaValue of a writeback as a state: I, S or A. -/
def metaState : Meta → Nat
  | .s => 1
  | .a => 2
  | _ => 0

/-- A write is a writeback: it comes from Y for a line that is E or in a snoop state towards Y (R222). -/
def isWb (m : Mach) (p : Place) (j : Nat) (q : CohReq) : Bool :=
  let x := m.tline p j
  match agentOf q.who with
  | none => false
  | some a =>
    if x.st = .idle then stableOf m p j == 2 && ownerOf m p == some a
    else x.owner == some a && (snooping x || x.st == .w)

/-- A writeback from a snooped owner: forwarded, and its Cmp follows the completion (R229). -/
def wbInSnoop (p : Place) (j : Nat) (q : CohReq) (m : Mach) : Mach :=
  let a := (agentOf q.who).getD 0
  let n := writeNeeds m p j
  let m := updLine p j (fun x => { x with
    st := if x.st = .w then x.came else x.st
    wbs := x.wbs ++ [⟨q.tag, a, metaState q.mval, n⟩]
    snoops := x.snoops.map fun z => if z.agent = a then { z with writes := z.writes + 1 } else z }) m
  forwardWrite p j q m

/-- A write of a non-caching agent, or any other write (R226, R234). -/
def takeNcW (p : Place) (j : Nat) (q : CohReq) (m : Mach) : Mach :=
  if (m.tline p j).st != .idle then nak p 5 q m
  else if !tltRoom m p then nakFull p 5 q m
  else
    match stableOf m p j with
    | 1 =>
      let holders := (sharersOf m p).filter fun a => some a != agentOf q.who
      if holders.isEmpty then enterM p j q 0 0 none m
      else snoopSet p j 0 holders (enter p j (tline .bI (some q)) m)
    | 2 =>
      let y := (ownerOf m p).getD 0
      snoopSet p j 0 [y] (enter p j { tline .bI (some q) with owner := some y } m)
    | 3 => enterM p j q 3 (if q.partialW then 3 else 0) none m
    | _ => enterM p j q 0 0 none m

/-- Why a port raises PROTECTION for a write that was refused (R293). -/
def refusedWrite (q : CohReq) (cause : Nat) (m : Mach) : Mach :=
  let m := cohAnswer q 0 0 false m
  if q.port < 64 then raiseEv (16 * q.port + 15) { accessCtx m q.port q.slice q.addr 2 with cause := cause } m else m

/-- An atomic at home: steps 2 to 4 of R264. -/
def takeAtomHome (p : Place) (j : Nat) (q : CohReq) (m : Mach) : Mach :=
  if (m.tline p j).st != .idle || !((Tab.get [] m.coh.rsv (slotKey p)).all fun r => r.tag == q.tag && r.port == q.port)
  then nak p 7 q m
  else if stableOf m p j = 3 then atomLost p.c q m
  else if !tltRoom m p then nakFull p 7 q m
  else
    let a := lineAddr m p j
    let way := match findWay m a with
      | some (how, _) => how ≤ 1
      | none => false
    let (got, m) := if eligible m a && (hlcBit m p j || way) then allocate p true q m else (.plain, m)
    match got with
    | .nak => nak p 7 q m
    | .full => nakFull p 7 q m
    | _ =>
      let holders := if stableOf m p j = 2 then (ownerOf m p).toList
        else if stableOf m p j = 1 then sharersOf m p else []
      let owner := if stableOf m p j = 2 then ownerOf m p else none
      let m := enter p j { tline .a (some q) with data := got == .slot, step := 1, owner := owner } m
      snoopSet p j 0 holders m

/-- An atomic at memory site on a tracked line: steps 1 to 3 of R265. While its snoops run the line reads code 7, as in A and M. -/
def takeAtomMem (p : Place) (j : Nat) (q : CohReq) (m : Mach) : Mach :=
  if (m.tline p j).st != .idle || !((Tab.get [] m.coh.rsv (slotKey p)).all fun r => r.tag == q.tag && r.port == q.port)
  then nak p 8 q m
  else if stableOf m p j = 3 then atomLost p.c q m
  else if !tltRoom m p then nakFull p 8 q m
  else
    let holders := if stableOf m p j = 2 then (ownerOf m p).toList
      else if stableOf m p j = 1 then sharersOf m p else []
    let owner := if stableOf m p j = 2 then ownerOf m p else none
    let held := hlcBit m p j
    let m := enter p j { tline .a (some q) with step := 9, owner := owner } m
    let m := if held then
        toController p.c (eSlice (m.slotEntry p)) 3 (plainHlc (lineAddr m p j)) (notePend ⟨p.c, sectorOf m p, j, 3, 0, none, false⟩ m)
      else m
    snoopSet p j 0 holders m

/-- The reservation of the slot turns a request away: its head has GO and is another request (R238). -/
def reserved (m : Mach) (p : Place) (q : CohReq) : Bool :=
  match Tab.get [] m.coh.rsv (slotKey p) with
  | r :: _ => r.go && !(r.tag == q.tag && r.port == q.port)
  | [] => false

def streamOf (m : Mach) (p : Nat) : Option Stream := Tab.get none m.edge.streams p
def putStream (p : Nat) (x : Option Stream) (m : Mach) : Mach :=
  { m with edge := { m.edge with streams := Tab.put none m.edge.streams p x } }

/-- The slice of a stream's current line has taken it (R234). -/
def streamTaken (q : CohReq) (m : Mach) : Mach :=
  match streamOf m q.port with
  | some x => if x.cur.tag = q.tag && x.cur.addr / 64 = q.addr / 64 then putStream q.port (some { x with taken := true }) m else m
  | none => m

/-- A request that was taken leaves the reservation queue, and its requester keeps it no longer; one that was NAKed keeps its place
(R238). -/
def leaveRsv (p : Place) (q : CohReq) (before : Nat) (m : Mach) : Mach :=
  if m.rd (Ce.NAKS p.c) != before then m
  else streamTaken q (m.updCoh fun x => { x with
    rsv := Tab.upd [] x.rsv (slotKey p) (·.filter fun r => !(r.tag == q.tag && r.port == q.port))
    retries := x.retries.filter fun r => !(r.tag == q.tag && r.port == q.port) })

/-- What the directory read showed (R243): the request is NAKed after an uncorrectable word 0. -/
def eccRead (p : Place) (q : CohReq) (m : Mach) : Bool × Mach :=
  let cx := cohCtx m p.c q.addr q.slice none
  match q.ecc with
  | 0 => (true, m)
  | 1 => (true, dieRaise (8 + p.c) 0 cx m)
  | 2 =>
    let m := dieRaise (8 + p.c) 1 cx m
    if m.slotEntry p = 0 then (false, m)
    else
      let v : Place := { p with tag := eTag (m.slotEntry p) }
      (false, startEvict v (putEntry v (withSharers (m.slotEntry p) (liveAgents m)) m))
  | _ =>
    let m := dieRaise (8 + p.c) 2 cx m
    (true, putEntry p 0 m)

/-- The error response of R14 to a request whose slice is off, or whose agent is dead (R218, R243, R268). -/
def cohRefuse (q : CohReq) (m : Mach) : Mach :=
  let m := retire q.port q.tag (closeTxn q.port q.tag m)
  let m := answerTo q.port q.tag 2 0 (.coherent q.port q.tag 5 0 false) m
  if q.port < 64 then
    raiseEv (16 * q.port + 12) (accessCtx m q.port q.slice q.addr 0) (m.bump (PortErr.POWER_REFUSED q.port) 1)
  else m

/-- Slices whose reset runs. -/
def resettingSlices (m : Mach) : List Nat :=
  (m.pb.filter fun e => 0x400001 ≤ e.1 && e.1 < 0x500000 && e.1 % 256 == 1 && e.2 == 2).map fun e => (e.1 - 0x400001) / 256

/-- Those of them whose reset walks the directory (R324). -/
def walkedSlices (m : Mach) : List Nat := (resettingSlices m).filter fun s => (m.slice s).walk

/-- The walk of slice s's reset visits a slot: its sector is evicted when the slice is charged for it, or the slice's
caching agent holds any of it (R324). -/
def resetSlot (s k : Nat) (m : Mach) : Mach :=
  let e := Tab.get 0 m.coh.dir k
  let p : Place := ⟨k / 2 ^ 24, k % 2 ^ 24, eTag e⟩
  let held := match sliceAgent m s with
    | some a => bitAt (eSharers e) a || ownerOf m p == some a
    | none => false
  let own := m.rd Coh.DIR_MODE = 0 || p.slot < 2 ^ 23
  if e = 0 || !own || !(eSlice e == s || held) || evicting m p then m else startEvict p m

/-- The walks that run claim a slot before a message for it is taken (R270, R324). -/
def walkClaim (p : Place) (m : Mach) : Mach :=
  forAll (walkedSlices m) (fun s m => resetSlot s (slotKey p) m) (unpickSlot (walkSet m) p.c p.slot m)

/-- Directory and TLT work of one message: lookups, the walk's claim on the slot, and what follows. -/
def withSlot (p : Place) (f : Mach → Mach) (m : Mach) : Mach :=
  let m := m.bump (Ce.LOOKUPS p.c) 1
  let m := m.updCoh fun x => { x with busy := Tab.upd 0 x.busy p.c (· + 1) }
  afterSector p (f (walkClaim p m))

/-- During a handback a request for a sector of the peer's is NAKed, without a reservation (R409). -/
def handbackNak (p : Place) (k : Nat) (q : CohReq) (m : Mach) : Mach :=
  sendNak p.c k q false (retire q.port q.tag (m.bump (Ce.NAKS p.c) 1))

/-- A request of R222 of a kind reaches its slice (R226, R230). -/
def takeRequest (k : Nat) (q : CohReq) (f : Place → Nat → CohReq → Mach → Mach) (m : Mach) : Mach :=
  let p := placeOfAddr m q.addr
  let j := q.addr / 64 % 4
  if !sliceRuns m p.c || ((agentOf q.who).any fun a => agentDead m a) then streamTaken q (cohRefuse q m)
  else if m.twin.handing && p.slot ≥ 2 ^ 23 then handbackNak p k q m
  else
    withSlot p (fun m =>
      let before := m.rd (Ce.NAKS p.c)
      let (good, m) := eccRead p q m
      if !good || evicting m p || reserved m p q then nak p k q m
      else leaveRsv p q before (f p j q m)) m

/-- A write reaches its slice: a writeback passes an eviction and a reservation, any other write is a request (R222, R235,
R293). -/
def takeWrite (q : CohReq) (m : Mach) : Mach :=
  let p := placeOfAddr m q.addr
  let j := q.addr / 64 % 4
  if sliceRuns m p.c && isWb m p j q then
    withSlot p (fun m =>
      let (good, m) := eccRead p q m
      if !good then nak p 5 q m
      else if !isWb m p j q then takeNcW p j q m
      else if (m.tline p j).st = .idle then
        let st := metaState q.mval
        if tltRoom m p then enterM p j q 2 st (if st = 1 then agentOf q.who else none) m else nakFull p 5 q m
      else wbInSnoop p j q m) m
  else
    match q.refused with
    | some cause => streamTaken q (refusedWrite q cause m)
    | none => takeRequest 5 q takeNcW m

/-- A clean eviction passes evictions and reservations (R230, R235, R238). -/
def takeEvict (q : CohReq) (m : Mach) : Mach :=
  let p := placeOfAddr m q.addr
  if sliceRuns m p.c then
    withSlot p (fun m =>
      let (good, m) := eccRead p q m
      if good then takeClnEv p (q.addr / 64 % 4) q m else nak p 4 q m) m
  else cohRefuse q m

/-- A BIConflict (R240). -/
def takeConflict (q : CohReq) (m : Mach) : Mach :=
  let p := placeOfAddr m q.addr
  if sliceRuns m p.c then
    serveConflicts (m.updCoh fun x => { x with biWait := x.biWait ++ [⟨q, admittedFrom m q⟩] })
  else cohRefuse q m

/-! ### Snoop answers (R223, R231, R233) -/

/-- Record a fit answer of an agent for line j; the owner's WB_AHEAD bit sends the line to W (R229). -/
def recordAnswer (p : Place) (j a kind ahead : Nat) (m : Mach) : Mach :=
  let x := m.tline p j
  match x.snoops.find? (·.agent == a) with
  | none => m
  | some z =>
    if snoopDone x.st z then m
    else
      let waits := x.owner == some a && bitAt ahead j && z.writes == 0 && z.wb.isNone && snooping x
      let m := updLine p j (fun x => { x with
        snoops := x.snoops.map fun y => if y.agent = a then { y with answer := some kind } else y
        came := if waits then x.st else x.came
        st := if waits then .w else x.st
        due := if waits then m.now.stitch + m.rd Coh.WB_WAIT else x.due }) m
      if waits then m.bump (Ce.WB_WAITS p.c) 1 else m

/-- The answer fits the snoop: only BIRspI fits BISnpInv, BIRspE does not fit BISnpData (R233). -/
def answerFits (snoopKind answer : Nat) : Bool :=
  match snoopKind with
  | 0 => answer == 0
  | 1 => answer ≤ 1
  | _ => answer ≤ 2

/-- The agent owes nothing more for any line of a snoop (R230). -/
def snoopMoot (m : Mach) (p : Place) (s : SnoopRec) : Bool :=
  (bitsSet 4 s.mask).all fun j =>
    let x := m.tline p j
    match x.snoops.find? (·.agent == s.agent) with
    | none => true
    | some z => snoopDone x.st z

/-- A second unfit answer, or a snoop unanswered, makes the slice declare its agent dead: the agent (R233). The declaration itself
is `declareDead`, which calls the slices. -/
def takeBirsp (r : BiRsp) (m : Mach) : Option Nat × Mach :=
  let c := r.bitag / 1024 % 4
  match m.coh.snoops.find? fun s => s.sent && s.bitag == r.bitag && s.agent == r.agent with
  | none => (none, m.bump (Ce.LATE_BIRSP c) 1)
  | some s =>
    let p : Place := ⟨s.c, s.slot, s.tag⟩
    let m := m.updCoh fun x => { x with snoops := x.snoops.erase s }
    if snoopMoot m p s then (none, sendWaiting s.c (m.bump (Ce.LATE_BIRSP s.c) 1))
    else if answerFits s.kind r.kind then
      let m := forAll (bitsSet 4 s.mask) (fun j m => recordAnswer p j r.agent r.kind r.wbAhead m) m
      (none, withSlot p id (sendWaiting s.c m))
    else
      let m := m.bump (Ce.BI_PROTOCOL s.c) 1
      let m := cohRaise s.c 2 (cohCtx m s.c (sectorOf m p * 256) 65535 (some r.agent)) m
      if s.tries = 0 then
        let s' := { s with kind := 0, tries := 1, due := snoopDue m }
        (none, emitSnoop s' (m.updCoh fun x => { x with snoops := x.snoops ++ [s'] }))
      else (some r.agent, m)

/-! ### Completions -/

/-- A writeback in a snoop state completes: Cmp to the owner, who may now be done (R231). -/
def wbComplete (p : Place) (j : Nat) (w : WbOut) (m : Mach) : Mach :=
  if w.need > 1 then
    updLine p j (fun x => { x with wbs := x.wbs.map fun v => if v = w then { v with need := v.need - 1 } else v }) m
  else
    let m := updLine p j (fun x => { x with
      wbs := x.wbs.erase w
      snoops := x.snoops.map fun z => if z.agent = w.agent then { z with writes := z.writes - 1, wb := some w.to_ } else z }) m
    let port := agentRoute m p.c w.agent
    (retire port w.tag (closeTxn port w.tag m)).emit (.coherent port w.tag 0 0 false)

/-- A writer that a completion notice tells how its write ended. -/
def ownWriter (q : CohReq) : Bool :=
  match q.who with
  | .needle _ | .mgmt _ => true
  | _ => false

/-- The write in M completes (R229): a full-line write of a Lost line that the target refused leaves it L, and a line that would return
to an owner that died meanwhile is Lost (R268). -/
def mComplete (p : Place) (j : Nat) (bad : Bool) (m : Mach) : Mach :=
  let x := m.tline p j
  if x.need > 1 then updLine p j (fun x => { x with need := x.need - 1 }) m
  else
    let back := if x.base = 3 && (bad || x.req.any (·.partialW)) then 3 else x.back
    let owner := (x.req.bind fun q => agentOf q.who).getD 0
    let m := settleLine p j back (if back = 1 then x.joins.getD 0 else owner) m
    let m := match x.joins with
      | some a => if back = 1 && !agentDead m a then addSharer p a m else m
      | none => m
    let m := if back = 2 && agentDead m owner then markLost p j 0 owner m else m
    match x.req with
    | some q =>
      let m := if x.step = 9 && bad then atomErr p.c q m else m
      if x.step = 9 then retire q.port q.tag m else cohAnswer q 0 0 (bad && ownWriter q) m
    | none => m

/-- A reader's completion notice (R229). -/
def readerDone (p : Place) (j : Nat) (q : CohReq) (m : Mach) : Mach :=
  let m := updLine p j (fun x => { x with rs := x.rs.erase q }) m
  let m := match agentOf q.who with
    | some a => if agentDead m a then m else addSharer p a m
    | none => m
  let m := retire q.port q.tag m
  if (m.tline p j).rs.isEmpty then settleLine p j (if stableOf m p j = 3 then 3 else if (sharersOf m p).isEmpty then 0 else 1) 0 m else m

/-- The read of a line in RE has completed: E at once, or when its OWN is confirmed (R229, R392). -/
def ownerDone (p : Place) (j : Nat) (q : CohReq) (m : Mach) : Mach :=
  let m := retire q.port q.tag m
  if ownWaits m p j then updLine p j (fun x => { x with grantE := true }) m
  else grantE p j q false m

/-- The completion of an access that the slice itself forwarded for an atomic (R229). -/
def atomComplete (p : Place) (j : Nat) (q : CohReq) (bad : Bool) (data : Nat) (m : Mach) : Mach :=
  let x := m.tline p j
  if x.step = 2 then
    if bad then atomFinish p j q true m
    else if x.data then m
    else atomOld p j q (getBits data (8 * (q.addr % 64)) (8 * q.atomSize)) m
  else if x.step = 3 then atomFinish p j q bad m
  else m

/-- A read that also fills has failed: no FILL comes for the line. -/
def dropFailed (sector line : Nat) (m : Mach) : Mach :=
  match findPend m sector line fun h => h.op = 5 || h.op = 7 with
  | some h => dropPend h m
  | none => m

/-- A completion notice at a slice (R229). -/
def takeCmpn (c sector line tag : Nat) (bad : Bool) (data : Nat) (m : Mach) : Mach :=
  let p := { placeOfSector m sector with c := (placeOfSector m sector).c }
  let j := line
  let x := m.tline p j
  if isPoison tag then
    let m := m.wr (CeHlc.POISON_OUT c) (m.rd (CeHlc.POISON_OUT c) - 1)
    if bad then cohRaise c 9 (cohCtx m c (sector * 256 + 64 * line) 65535 none) m else m
  else if isFill tag then
    match findPend m sector line fun h => h.op = 6 with
    | some h => afterSector p (dropPend h m)
    | none => m
  else if isRecall tag then
    let m := if x.step = 8 then m else m.bump (CeHlc.HLC_RECALLS c) 1
    let m := if x.st = .m && x.req.isNone then settleLine p j x.back ((ownerOf m p).getD 0) m else m
    afterSector p (if x.step = 8 then m else setHlcBit p j false m)
  else
    let m := if bad then dropFailed sector line m else m
    match x.wbs.find? (·.tag == tag) with
    | some w => withSlot p (wbComplete p j w) m
    | none =>
      match x.st, x.req with
      | .r, _ =>
        (match x.rs.find? (·.tag == tag) with
         | some q => withSlot p (readerDone p j q) m
         | none => m)
      | .re, some q => if q.tag = tag && x.data then withSlot p (ownerDone p j q) m else m
      | .m, some q => if q.tag = tag then withSlot p (mComplete p j bad) m else m
      | .a, some q => if q.tag = tag then withSlot p (atomComplete p j q bad data) m else m
      | _, _ => m

/-- Work at a controller ends on a line that is L (R226, R266, R275). -/
def heldLost (p : Place) (j : Nat) (h : HPend) (m : Mach) : Mach :=
  let x := m.tline p j
  match h.op, h.req with
  | 0, some q =>
    let m := lostRead q m
    let m := updLine p j (fun x => { x with rs := x.rs.erase q }) m
    if x.st = .re || (x.st = .r && (x.rs.erase q).isEmpty) then settleLine p j 3 0 m else m
  | 2, some q => atomLost p.c q (settleLine p j 3 0 m)
  | _, _ => if x.st = .m && x.req.isNone then settleLine p j 3 0 m else m

/-- HRD, HATOM or a dirty recall is answered with data (R254, R258). -/
def takeHdata (c sector line data : Nat) (failed : Bool) (m : Mach) : Mach :=
  let p := placeOfSector m sector
  let a := sector * 256 + 64 * line
  match findPend m sector line fun h => h.op = 0 || (2 ≤ h.op && h.op ≤ 4) with
  | none => m
  | some h =>
    let m := dropPend h m
    let x := m.tline p line
    if stableOf m p line = 3 then afterSector p (heldLost p line h m)
    else if failed then
      let m := if (wayOf m a).isSome then cohRaise c 11 (cohCtx m c a 65535 none) m else m
      let m := if (wayOf m a).any (wayDirty m) then heldLost p line h (markLost p line 3 255 m)
        else
          let m := match wayOf m a with
            | some k => putWay k 0 m
            | none => m
          let m := setHlcBit p line false m
          match h.op, h.req with
          | 0, some q => forwardTo c a 0 q.tag 0 0 false m
          | 2, some q => atomAccess p line q (updLine p line (fun x => { x with data := false }) m)
          | _, _ => m
      afterSector p m
    else
      match h.op, h.req with
      | 0, some q =>
        let m := cohAnswer q (if x.st = .r then 1 else if x.st = .re then 2 else 4) data false m
        (match x.st, x.req with
         | .r, _ => if x.rs.contains q then withSlot p (readerDone p line q) m else m
         | .re, some q' => if q' = q then withSlot p (ownerDone p line q) m else m
         | _, _ => m)
      | 2, some q => withSlot p (atomOld p line q data) m
      | op, _ =>
        let m := spoil true sector line m
        let m := if x.st = .idle then
            let s := stableOf m p line
            enter p line { tline .m none with back := s, need := 1, step := if op = 4 then 8 else 0 } m
          else m
        forwardTo c a 1 (recallTag a) data (2 ^ 64 - 1) false m

/-- A write, fill or clean recall is done at the controller (R254). -/
def takeHcmp (c sector line old : Nat) (m : Mach) : Mach :=
  let p := placeOfSector m sector
  match findPend m sector line fun h => h.op = 1 || 3 ≤ h.op with
  | none => m
  | some h =>
    let m := dropPend h m
    let x := m.tline p line
    match h.op, h.req with
    | 1, some q =>
      -- the slot was lost before the write reached it: the target takes it
      if (wayOf m (sector * 256 + 64 * line)).isNone && m.rd Hlc.HLC_MODE = 0 then
        forwardTo c (sector * 256 + 64 * line) (if q.partialW then 2 else 1) q.tag q.data q.be q.poison m
      else
      (match x.wbs.find? (·.tag == q.tag) with
       | some w => withSlot p (wbComplete p line w) m
       | none => if x.st = .m then withSlot p (mComplete p line false) m else m)
    | 3, _ => afterSector p (setHlcBit p line false (m.bump (CeHlc.HLC_RECALLS c) 1))
    | 4, _ => afterSector p m
    | 7, some q => withSlot p (atomOld p line q old) m
    | _, _ =>
      if stableOf m p line = 3 || !holds m p || h.spoiled then afterSector p m
      else
        let m := setHlcBit p line true (m.bump (CeHlc.HLC_FILLS c) 1)
        afterSector p (if h.op = 5 && holds m p then putEntry p (withHot (m.slotEntry p) 0) m else m)

/-- The writeback timer of a line in W expires (R232). -/
def takeWbTimeout (c sector line : Nat) (m : Mach) : Mach :=
  let p := placeOfSector m sector
  let x := m.tline p line
  if x.st != .w || m.now.stitch < x.due then m
  else
    let owner := x.owner.getD 255
    let m := markLost p line 1 owner (m.bump (Ce.WB_TIMEOUTS c) 1)
    let m := cohRaise c 0 (cohCtx m c (sector * 256 + 64 * line) 65535 x.owner) m
    let m := updLine p line (fun x => { x with
      st := x.came
      snoops := x.snoops.map fun z => if some z.agent = x.owner then { z with forced := true } else z }) m
    afterSector p m

/-! ### Taking messages -/

/-- Take one message at its slice. -/
def takeMsg (x : CohMsg) (m : Mach) : Option Nat × Mach :=
  match x with
  | .rds q => (none, takeRequest 0 q takeRdS m)
  | .rda q => (none, takeRequest 1 q (fun p j q m => takeOwn p j q true m) m)
  | .rdi q => (none, takeRequest 2 q takeRdI m)
  | .inva q => (none, takeRequest 3 q (fun p j q m => takeOwn p j q false m) m)
  | .clnEv q => (none, takeEvict q m)
  | .write q => (none, takeWrite q m)
  | .conflict q => (none, takeConflict q m)
  | .birsp r => takeBirsp r m
  | .cmpn c s l t b d => (none, takeCmpn c s l t b d m)
  | .wbTimeout c s l => (none, takeWbTimeout c s l m)
  | .hdata c s l d f => (none, takeHdata c s l d f m)
  | .hcmp c s l o => (none, takeHcmp c s l o m)
  | .atomHome q => (none, takeRequest 7 q takeAtomHome m)
  | .atomMem q => (none, takeRequest 8 q takeAtomMem m)

/-- The slice of a message. -/
def msgSlice (m : Mach) : CohMsg → Nat
  | .rds q | .rda q | .rdi q | .inva q | .clnEv q | .write q | .conflict q | .atomHome q | .atomMem q =>
    (placeOfAddr m q.addr).c
  | .birsp r => r.bitag / 1024 % 4
  | .cmpn c _ _ _ _ _ | .wbTimeout c _ _ | .hdata c _ _ _ _ | .hcmp c _ _ _ => c

/-- Completions that a slice owes itself, because a target did not resolve (R525). -/
def drainWork : Nat → Mach → Mach
  | 0, m => m
  | n + 1, m =>
    match m.coh.work with
    | [] => m
    | w :: ws => drainWork n (takeMsg w (m.updCoh fun x => { x with work := ws })).2

/-- A slice without room for the records a message can cause keeps the message until it holds a mirror credit
(R241, R389; log entry 24). -/
def mirrorTight (m : Mach) (c : Nat) : Bool := mirrorOn m && mirrorUsed m c > 52

/-- The scan of one TLT line at a declaration of death (R268). -/
def scanLine (a : Nat) (p : Place) (j : Nat) (m : Mach) : Mach :=
  let x := m.tline p j
  if x.st = .idle then
    (if stableOf m p j = 2 && ownerOf m p = some a then markLost p j 0 a m else m)
  else
    let mine := fun (q : CohReq) => agentOf q.who == some a
    let lost := x.owner == some a && (x.st == .w || x.snoops.any fun z =>
      z.agent == a && z.writes == 0 && z.wb.isNone && !snoopDone x.st z)
    let m := if lost then markLost p j 0 a m else m
    updLine p j (fun _ => { x with
      st := if x.st = .w && x.owner == some a then x.came else x.st
      base := stableOf m p j
      req := if x.req.any mine && snooping x && x.st != .a then none else x.req
      snoops := x.snoops.map fun z =>
        if z.agent != a then z else if z.writes = 0 then { z with forced := true } else { z with answer := z.answer.or (some 0) } }) m

/-- An agent is declared dead (R267): it takes effect in stitch `at_`, the one after it is raised (R268). -/
def declareDead (at_ a : Nat) (m : Mach) : Mach :=
  if agentDead m a || agentDying m a then m
  else
    let m := forAll ((keyedSlices m).filter fun s => sliceAgent m s == some a) (fun s m => setCause s 3 m) m
    m.updCoh fun x => { x with dying := x.dying ++ [(a, at_)] }

/-- A declaration of death takes effect (R268): the bit and the event, the scan of every TLT, and the walk. -/
def agentDies (a : Nat) (m : Mach) : Mach :=
  if agentDead m a then m
  else
    let m := m.putBit Agents.DEAD_AGENTS a true
    let m := cohRaise 0 8 { cohCtx m 0 0 65535 (some a) with flags := 0 } m
    let m := m.updCoh fun x => { x with
      snoops := x.snoops.filter fun s => s.agent != a
      rsv := Tab.mapAll [] (·.filter fun r => agentOf r.who != some a) x.rsv
      biWait := x.biWait.filter fun w => agentOf w.req.who != some a
      retries := match agentPort m a with
        | some p => x.retries.filter fun r => r.port != p
        | none => x.retries }
    let ps := m.coh.tlt.map Tlt.place
    let m := forAll ps (fun p m => forAll (List.range 4) (fun j m => scanLine a p j m) m) m
    let m := forAll ps afterSector m
    let m := forAll (m.coh.rsv.map (·.1)) (fun k m => serveRsv (k / 2 ^ 24) (k % 2 ^ 24) m) m
    let m := drainWork 64 m
    let running := m.rd Agents.WALK_AGENTS != 0
    let m := m.putBit Agents.WALK_AGENTS a true
    let cs := (List.range 4).filter (sliceRuns m)
    if running then
      m.updCoh fun x => { x with walkNext := cs.foldl (fun t c =>
        Tab.put 0 t c (max (Tab.get 0 x.walkNext c) (m.rd (CeHlc.WALK_POS c)))) x.walkNext }
    else
      let m := (m.wr Agents.WALK_START m.now.stitch).wr Agents.WALK_END 0
      let m := forAll cs (fun c m => (m.wr (Ce.CE_STATE c) 3).wr (CeHlc.WALK_POS c) 0) m
      m.updCoh fun x => { x with walkEnd := cs.foldl (fun t c => Tab.put 0 t c (2 ^ 24)) x.walkEnd, walkNext := [] }

/-- What was declared in an earlier stitch takes effect before a slice takes a message (R268). -/
def deathStitch (m : Mach) : Mach :=
  let (now, later) := m.coh.dying.partition fun x => x.2 ≤ m.now.stitch
  forAll (now.map (·.1)) agentDies (m.updCoh fun x => { x with dying := later })

/-- Take a message, what the slice then owes itself, and a declaration it causes (R233, R241). -/
def cohTake (x : CohMsg) (m : Mach) : Mach :=
  if mirrorTight m (msgSlice m x) then m.updCoh fun k => { k with deferred := k.deferred ++ [x] }
  else
    match takeMsg x m with
    | (none, m) => drainWork 64 m
    | (some a, m) => declareDead (m.now.stitch + 1) a (drainWork 64 m)

/-- A snoop is unanswered after SNP_TIMEOUT_US: its agent is declared dead (R233). -/
def snoopTimeout (bitag : Nat) (m : Mach) : Mach :=
  match m.coh.snoops.find? fun s => s.sent && s.bitag == bitag && s.due ≤ m.now.stitch with
  | none => m
  | some s =>
    let m := m.bump (Ce.SNOOP_TIMEOUTS s.c) 1
    let m := cohRaise s.c 1 (cohCtx m s.c (sectorOf m ⟨s.c, s.slot, s.tag⟩ * 256) 65535 (some s.agent)) m
    declareDead (m.now.stitch + 1) s.agent (m.updCoh fun x => { x with snoops := x.snoops.erase s })

/-! ### Requesters (R237 to R239) -/

/-- The message of a request of a kind, as `Out.noc` counts kinds (R222). -/
def requestMsg (k : Nat) (q : CohReq) : CohMsg :=
  match k with
  | 0 => .rds q
  | 1 => .rda q
  | 2 => .rdi q
  | 3 => .inva q
  | 4 => .clnEv q
  | 5 => .write q
  | 6 => .conflict q
  | 7 => .atomHome q
  | _ => .atomMem q

/-- The network of a request, and the data that it carries (R196): the write of a caching agent may be a writeback, and an atomic
brings its operands; other writes that invalidate copies are requests (log entry 149). -/
def requestNet (k : Nat) (q : CohReq) : Nat × Option Nat :=
  if k = 5 then
    (match q.who with
     | .agent _ => (3, some q.data)
     | _ => (0, some q.data))
  else if 7 ≤ k then (3, some (q.operand + q.compare * 2 ^ 128))
  else (0, none)

/-- A requester sends a request to the slice of its line (R26, R222). -/
def sendLine (kind : Nat) (q : CohReq) (m : Mach) : Mach :=
  let c := (placeOfAddr m q.addr).c
  let m := if (requestNet kind q).2.isSome then portCount q.port 2 q.slice 1 m else m
  (nocPut (requestNet kind q).1 (endpointOf q.port) (sliceEnd c) q.slice q.tag (requestNet kind q).2 (.slice (requestMsg kind q)) m).emit
    (.noc c kind q)

/-- The back-off of a request that has received n NAKs ends in this stitch (R237); `limit` is BACKOFF_MAX when the NAK was sent. -/
def backoffEnd (m : Mach) (n limit : Nat) : Nat := m.now.stitch + min (2 ^ (n - 1)) limit

/-- The requester keeps a request of a tag that was NAKed: it backs off, or waits for GO when RSV is set (R237, R238). `known` is the
request, where the NAK tells it. -/
def requesterNak (port tag : Nat) (rsv : Bool) (limit : Nat) (known : Option (Nat × CohReq)) (m : Mach) : Mach :=
  let mine := fun (r : Retry) => r.tag == tag && (known.isNone || r.port == port)
  let counted := fun (n : Nat) => min 15 ((match known with
    | some (_, q) => q.naks
    | none => n) + 1)
  match m.coh.retries.find? mine with
  | some r =>
    let n := counted r.naks
    let r' : Retry := ⟨r.port, tag, n, rsv, backoffEnd m n limit, false, known.or r.req⟩
    m.updCoh fun x => { x with retries := x.retries.map fun y => if y = r then r' else y }
  | none =>
    let n := counted 0
    m.updCoh fun x => { x with retries := x.retries ++ [⟨port, tag, n, rsv, backoffEnd m n limit, false, known⟩] }

/-- A NAK arrives at its requester; a stream whose line it names waits for that line again. -/
def nakTaken (port tag : Nat) (rsv : Bool) (limit : Nat) (known : Option (Nat × CohReq)) (m : Mach) : Mach :=
  let m := requesterNak port tag rsv limit known m
  forAll (m.edge.streams.map (·.1)) (fun p m =>
    match streamOf m p with
    | some x => if x.cur.tag = tag && (known.isNone || p == port) then putStream p (some { x with taken := false }) m else m
    | none => m) m

/-- The port of the requester of an open request with a tag; the switch's own where none is open. -/
def nakPort (m : Mach) (tag : Nat) : Nat :=
  match m.edge.txns.find? (·.tag == tag) with
  | some t => t.port
  | none => 255

/-- The requester sends the request that it keeps again, with its NAK count, and marked where it is refused. -/
def sendAgain (r : Retry) (refused : Option Nat) (m : Mach) : Mach :=
  let m := m.updCoh fun x => { x with retries := x.retries.map fun y => if y = r then { y with sent := true } else y }
  let m := m.emit (.again r.port r.tag r.naks refused)
  match r.req with
  | some (k, q) => sendLine k { q with naks := r.naks, refused := refused } m
  | none => m

/-- The requester keeps a request no longer. -/
def dropRetry (r : Retry) (m : Mach) : Mach := m.updCoh fun x => { x with retries := x.retries.filter (· != r) }

/-- PROTECTION of a port whose kept request is refused (R292). -/
def keptRefused (r : Retry) (slice addr cause : Nat) (m : Mach) : Mach :=
  let m := dropRetry r m
  if r.port < 64 then raiseEv (16 * r.port + 15) { accessCtx m r.port slice addr 1 with cause := cause } m else m

/-- A kept request is presented again (R237, R238): it is checked again and gets a new stamp (R298). A write of a caching agent that is
refused goes on marked refused (R293); any other request is answered as refused by rule (R292). What a needle channel reads and
writes was checked with its descriptor (R366). -/
def presentKept (r : Retry) (m : Mach) : Mach :=
  if 256 ≤ r.port then sendAgain r none m else
  match findTxn m r.port r.tag with
  | some t =>
    (match checkAccess m 0 t.slice t.need t.addr (max 1 t.len) with
     | none => sendAgain r none (if t.need = 0 then m else stamp 0 r.port r.tag t.addr m)
     | some cause =>
       let m := m.bump Ct.REFUSED 1
       if !t.io && t.need = needWrite && (portAgent m r.port).isSome then sendAgain r (some cause) m
       else keptRefused r t.slice t.addr cause (errorAnswer t 2 (closeTxn r.port r.tag m)))
  | none =>
    match r.req with
    | some (5, q) =>
      -- a line of a posted write, or a writeback whose transaction a slice reset has closed (R322, R323)
      (match checkAccess m 0 q.slice needWrite (q.addr / 64 * 64) 64 with
       | none => sendAgain r none (stamp 0 r.port r.tag q.addr m)
       | some cause =>
         if (agentOf q.who).isSome then sendAgain r (some cause) (m.bump Ct.REFUSED 1) else streamTaken q (keptRefused r q.slice q.addr cause (m.bump Ct.REFUSED 1)))
    | _ => sendAgain r none m

/-- Present the first kept request that satisfies a test. -/
def present (test : Retry → Bool) (m : Mach) : Mach :=
  match m.coh.retries.find? test with
  | none => m
  | some r => presentKept r m

/-- The back-off of a kept request has ended (R237). -/
def backedOff (m : Mach) (r : Retry) : Bool := !r.rsv && !r.sent && r.due ≤ m.now.stitch

def backoffExpiry (tag : Nat) (m : Mach) : Mach := present (fun r => r.tag == tag && backedOff m r) m

/-- GO arrives at the requester of a tag; `port` names it where it is known (R238). -/
def goArrives (port : Option Nat) (tag : Nat) (m : Mach) : Mach :=
  let mine := fun (r : Retry) => r.tag == tag && port.all (· == r.port)
  let m := present (fun r => mine r && r.rsv) m
  m.updCoh fun x => { x with retries := x.retries.map fun r => if mine r then { r with rsv := false } else r }

/-- Requests whose back-off ends in this stitch are presented again (R237). -/
def retryStitch (m : Mach) : Mach := forAll (m.coh.retries.filter (backedOff m)) presentKept m

/-- The head of a slot's queue has not presented within RSV_WAIT after GO (R239). -/
def rsvLapse (c slot : Nat) (m : Mach) : Mach :=
  let k := c * 2 ^ 24 + slot
  match Tab.get [] m.coh.rsv k with
  | r :: rest =>
    if !r.go || m.now.stitch < r.due then m
    else
      let m := (m.updCoh fun x => { x with
        rsv := Tab.put [] x.rsv k rest
        retries := x.retries.map fun y =>
          if y.tag = r.tag && y.port = r.port then { y with naks := 8, rsv := false, due := backoffEnd m 8 m.coh.backoff } else y }).bump
          (Ce.RSV_LAPSED c) 1
      let m := cohRaise c 3 (cohCtx m c r.addr r.slice (agentOf r.who)) m
      serveRsv c slot m
  | [] => m

/-! ### Controllers of the home line cache (R254, R255) -/

/-- A controller answers its slice (R254): kind 0 HDATA, 1 HCMP. `full` tells that a whole line travels. -/
def ctrlAnswer (a kind data : Nat) (full failed : Bool) (m : Mach) : Mach :=
  let p := placeOfAddr m a
  let s := a / 256
  let j := a / 64 % 4
  let x : CohMsg := if kind = 0 then .hdata p.c s j data failed else .hcmp p.c s j data
  let slice := match (findPend m s j fun y => y.req.isSome).bind (·.req) with
    | some q => q.slice
    | none => eSlice (m.slotEntry p)
  (nocPut (if kind = 0 then 3 else 2) (ctrlEnd (hlcPlace m a).1) (sliceEnd p.c) slice (a / 64) (if full then some data else none)
    (.slice x) m).emit (.hlcAnswer p.c kind (a / 64 * 64) data failed)

/-- The controller finds the data of a way marked failed (R156). -/
def wayBad (m : Mach) (k : Nat) : Bool := m.coh.hlcBad.contains k

/-- HRD: the controller reads a held line. A slot that no longer holds it has no data to give. -/
def controllerRead (h : HlcMsg) (m : Mach) : Mach :=
  match wayOf m h.addr with
  | some k => ctrlAnswer h.addr 0 (wayData m k) true (h.failed || wayBad m k) m
  | none => ctrlAnswer h.addr 0 0 true true m

/-- Merge written bytes by their byte enables. -/
def mergeBytes : Nat → Nat → Nat → Nat → Nat
  | 0, _, _, _ => 0
  | n + 1, old, new, be =>
    (if be % 2 = 1 then new % 256 else old % 256) + 256 * mergeBytes n (old / 256) (new / 256) (be / 2)

/-- HWR: the controller writes a held line; DIRTY in write-back mode (R256). Poisoned data leaves the line marked failed, until a
full-line write. -/
def controllerWrite (h : HlcMsg) (m : Mach) : Mach :=
  let m := match wayOf m h.addr with
    | some k =>
      let bad := h.failed || (wayBad m k && h.be % 2 ^ 64 != 2 ^ 64 - 1)
      let m := putWayBad k bad (putWayData k (mergeBytes 64 (wayData m k) h.data h.be) m)
      if m.rd Hlc.HLC_MODE = 0 then putWay k (tagWord h.addr true) m else m
    | none => m
  ctrlAnswer h.addr 1 0 false false m

/-- HATOM: the controller applies an operation and returns the old value (R264). -/
def controllerAtom (h : HlcMsg) (m : Mach) : Mach :=
  match wayOf m h.addr with
  | some k =>
    let bad := h.failed || wayBad m k
    let (old, new) := atomLine (wayData m k) h.addr h.atomCode h.atomSize h.operand h.compare
    let m := if new = wayData m k || bad then m
      else
        let m := putWayData k new m
        if m.rd Hlc.HLC_MODE = 0 then putWay k (tagWord h.addr true) m else m
    ctrlAnswer h.addr 0 old false bad m
  | none => ctrlAnswer h.addr 0 0 false true m

/-- HRECALL: a recall invalidates the slot, a flush keeps it clean (R257). -/
def controllerRecall (h : HlcMsg) (m : Mach) : Mach :=
  match wayOf m h.addr with
  | none => ctrlAnswer h.addr 1 0 false false m
  | some k =>
    let dirty := wayDirty m k
    let data := wayData m k
    let bad := h.failed || (dirty && wayBad m k)
    let m := if bad then m
      else if h.keep then putWay k (tagWord h.addr false) m
      else putWayData k 0 (putWay k 0 m)
    ctrlAnswer h.addr (if dirty || bad then 0 else 1) (if dirty then data else 0) dirty bad m

/-- SPEC_DISCARD of a window and of the slice (R260). -/
def specDiscard (c a : Nat) (m : Mach) : Mach :=
  let w := (cohWindow m a).getD 0
  let m := m.putWord Spec.SPEC_DISCARD w (m.word Spec.SPEC_DISCARD w + 1)
  cohRaise c 13 (cohCtx m c a 65535 none) (m.bump (CeHlc.SPEC_DISCARDS c) 1)

/-- FILL: the controller writes a filled line, with any atomic applied to it, or a fill-ahead is discarded (R251, R255,
R259, R260, R264). -/
def controllerFill (h : HlcMsg) (m : Mach) : Mach :=
  let a := h.addr / 64 * 64
  let p := placeOfAddr m a
  let j := a / 64 % 4
  let d := (hlcPlace m a).1
  match findPend m (a / 256) j fun y => 5 ≤ y.op with
  | none => m
  | some y =>
    if h.failed || m.rd (Die.DIE_STATE d) != 1 || (y.op = 5 && (y.spoiled || stableOf m p j = 3)) then dropFill y m
    else if y.op = 6 && (y.spoiled || stableOf m p j > 1) then specDiscard p.c a (afterSector p (dropPend y m))
    else
      let (old, data) := match y.op, y.req with
        | 7, some q => atomLine h.data q.addr q.atomCode q.atomSize q.operand q.compare
        | _, _ => (0, h.data)
      let dirty := data != h.data && m.rd Hlc.HLC_MODE = 0
      ctrlAnswer a 1 old false false (putWayData y.way data (putWay y.way (tagWord a dirty) m))

/-! ### Enabling, flushing, carving (R160, R257, R276) -/

/-- Ways that hold a line. -/
def validWays (m : Mach) : List Nat := (m.coh.hlcTag.filter fun e => bitAt e.2 28).map (·.1)

/-- Recall, or flush, the lines of a list of ways. -/
def recallWays (keep : Bool) (ks : List Nat) (m : Mach) : Mach :=
  forAll ks (fun k m =>
    let a := wayAddr m k
    if orphan m k then putWay k 0 m else startRecall (placeOfAddr m a) (a / 64 % 4) keep m) m

/-- HLC_ENABLE is written 0: every line is recalled (R257). -/
def hlcDisable (m : Mach) : Mach :=
  let m := m.wr Hlc.HLC_ENABLE 0
  if m.rd Hlc.HLC_STATE = 0 then m
  else (recallWays false (validWays m) m).wr Hlc.HLC_STATE 3

/-- HLC_ENABLE is written 1 (R250, R276). -/
def hlcEnableCheck (v : Nat) (m : Mach) : Option Status := if v = 1 && m.rd Hlc.HLC_STATE = 3 then some .busy else none
def hlcEnable (m : Mach) : Mach := (m.wr Hlc.HLC_ENABLE 1).wr Hlc.HLC_STATE (if m.rd Hlc.HLC_STATE = 2 then 2 else 1)

/-- HLC_FLUSH writes back every dirty line (R257, R276). -/
def hlcFlushCheck (m : Mach) : Option Status :=
  if m.rd Hlc.HLC_STATE = 2 || m.rd Hlc.HLC_STATE = 3 then some .busy else none
def hlcFlush (m : Mach) : Mach := (recallWays true ((validWays m).filter (wayDirty m)) m).wr Hlc.HLC_STATE 2

/-- A flush or a drain ends when nothing is left for it (R257). -/
def hlcFlushDone (m : Mach) : Mach :=
  let busy := m.coh.hpend.any (fun h => h.op == 3 || h.op == 4) || !m.coh.recallWait.isEmpty
  if m.rd Hlc.HLC_STATE = 2 && m.rd Hlc.HLC_DIRTY = 0 && !busy then
    m.wr Hlc.HLC_STATE (if m.on Hlc.HLC_ENABLE then 1 else 0)
  else if m.rd Hlc.HLC_STATE = 3 && (validWays m).isEmpty && !busy then m.wr Hlc.HLC_STATE 0
  else m

/-- Ways in a range that a shrinking carve releases (R160). -/
def releasedWays (m : Mach) : List Nat :=
  (validWays m).filter fun k =>
    let di := k / 16 / 32768
    wantedSteps m (di / 4) ≤ di % 4 && di % 4 < carvedSteps m (di / 4)

/-- An accepted write of HLC_STEPS (R160, R257). -/
def hlcStepsWrite (steps : Nat) (m : Mach) : Mach :=
  let m := hlcStepsStart steps m
  if m.rd Fab.CARVE_STATUS = 2 then recallWays false (releasedWays m) m else m

/-- A carve change completes as soon as it has nothing to wait for: the commit phase of every stitch looks (R160). -/
def carveFits (m : Mach) : Mach :=
  match m.rd Fab.CARVE_STATUS with
  | 1 =>
    let m := carvePass m
    if (List.range 8).all fun d => wantedSteps m d = carvedSteps m d then carveEnd m else m
  | 2 => if (releasedWays m).isEmpty then carveEnd m else m
  | _ => m

/-- CARVE_DONE: never in the stitch that accepts the write (R160). -/
def carveDone (m : Mach) : Mach := if m.now.stitch = m.core.carveAt then m else carveFits m

/-- A bolt store die fails: its clean held lines leave, its dirty ones are Lost (R166, R258). -/
def hlcDieFail (d : Nat) (m : Mach) : Mach :=
  forAll ((validWays m).filter fun k => k / 16 / 32768 / 4 == d) (fun k m =>
    let a := wayAddr m k
    let p := placeOfAddr m a
    let j := a / 64 % 4
    if wayDirty m k then markLost p j 2 255 (cohRaise p.c 11 (cohCtx m p.c a 65535 none) m)
    else setHlcBit p j false (putWay k 0 m)) m

/-- BOLT_DIE_IF_FAIL (R166, R258). -/
def boltDieIfFail (d : Nat) (m : Mach) : Mach :=
  if !m.domOn (64 + d) || m.rd (Die.DIE_STATE d) = 2 then m else hlcDieFail d (boltDieFail d m)

/-- The interface of directory die 8 + c fails (R243). -/
def dirDieFail (c : Nat) (m : Mach) : Mach :=
  if !m.domOn (72 + c) || bitAt m.coh.dirBad c then m
  else dieRaise (8 + c) 3 noCtx (m.updCoh fun x => { x with dirBad := setBit x.dirBad c true })

/-! ### Walks (R269, R270, R286), revival, initialisation -/

/-- Visit slots of slice c for the walk: the slot where it stops, at `b` unless a slot waits for a mirror credit (R241, R272). -/
def walkSlots (c b : Nat) : List Nat → Mach → Nat × Mach
  | [], m => (b, m)
  | k :: ks, m => if mirrorTight m c then (k % 2 ^ 24, m) else walkSlots c b ks (unpickSlot (walkSet m) c (k % 2 ^ 24) m)

/-- The slots of slice c from a to b - 1 that hold something. -/
def slotsHeld (m : Mach) (c a b : Nat) : List Nat :=
  (m.coh.dir.filter fun e => c * 2 ^ 24 + a ≤ e.1 && e.1 < c * 2 ^ 24 + b).map (·.1)

/-- The walk of slice c goes on by n slots; at the end of a pass it runs a further one for the agents that joined (R270). -/
def walkStep (c n : Nat) (m : Mach) : Mach :=
  let pos := m.rd (CeHlc.WALK_POS c)
  let e := Tab.get 0 m.coh.walkEnd c
  if m.rd (Ce.CE_STATE c) != 3 || pos ≥ e then m
  else
    let last := min e (pos + n)
    let (to_, m) := walkSlots c last (slotsHeld m c pos last) m
    let m := m.wr (CeHlc.WALK_POS c) to_
    if to_ = e && Tab.get 0 m.coh.walkNext c != 0 then
      (m.updCoh fun x => { x with walkEnd := Tab.put 0 x.walkEnd c (Tab.get 0 x.walkNext c), walkNext := Tab.put 0 x.walkNext c 0 }).wr
        (CeHlc.WALK_POS c) 0
    else m

/-- Visits of a stitch: at least 10, and what the directory bandwidth leaves, 160 in all (R269). -/
def walkRate (m : Mach) (c : Nat) : Nat := max 10 (160 - Tab.get 0 m.coh.busy c)

/-- The HOTCNT sweep of slice c (R252). -/
def hotSweep (c : Nat) (m : Mach) : Mach :=
  let n := min (m.rd Hlc.HOT_SWEEP) (160 - Tab.get 0 m.coh.busy c)
  if n = 0 || !sliceRuns m c then m
  else
    let at_ := Tab.get 0 m.coh.sweep c
    let m := forAll (List.range n) (fun i m =>
      let k := c * 2 ^ 24 + (at_ + i) % 2 ^ 24
      let e := Tab.get 0 m.coh.dir k
      if eHot e = 0 then m
      else m.updCoh fun x => { x with dir := Tab.put 0 x.dir k (withHot e (eHot e / 2)) }) m
    m.updCoh fun x => { x with sweep := Tab.put 0 x.sweep c ((at_ + n) % 2 ^ 24) }

/-- The walk is over in every slice: what is left of it is visited, and CE0 raises WALK_DONE (R269). It is not while a slot waits for a
mirror credit (R272). `now` is the stitch that WALK_END records. -/
def walkDone (now : Nat) (m : Mach) : Mach :=
  if m.rd Agents.WALK_AGENTS = 0 then m
  else
    let m := forAll (List.range 4) (fun c m => walkStep c (2 ^ 24) (walkStep c (2 ^ 24) m)) m
    if (List.range 4).any fun c => m.rd (Ce.CE_STATE c) = 3 && m.rd (CeHlc.WALK_POS c) < Tab.get 0 m.coh.walkEnd c then m else
    let m := cohRaise 0 10 { noCtx with level := 4, kind := 4, unit := 0 } ((drainWork 64 m).bump Agents.WALKS 1)
    let m := forAll ((List.range 4).filter fun c => m.rd (Ce.CE_STATE c) == 3) (fun c m =>
      m.wr (Ce.CE_STATE c) 2) m
    let m := { m with twin := { m.twin with promoting := false } }
    (m.wr Agents.WALK_AGENTS 0).wr Agents.WALK_END now

/-- WALK_DONE by command. -/
def walkOver (m : Mach) : Mach := walkDone m.now.stitch m

/-- REVIVE (R271). -/
def reviveCheck (a : Nat) (m : Mach) : Option Status :=
  if bitAt (m.rd Agents.WALK_AGENTS) a || agentDying m a then some .busy else none
def revive (a : Nat) (m : Mach) : Mach := m.putBit Agents.DEAD_AGENTS a false

/-- LL_CLEAR and LL_CONS (R274). -/
def llClear (m : Mach) : Mach := ((m.wr LostLog.LL_SLOTS 0).wr LostLog.LL_PROD 0).wr LostLog.LL_CONS 0
def llConsCheck (v : Nat) (m : Mach) : Option Status :=
  let old := m.rd LostLog.LL_CONS
  if (v + 2 ^ 32 - old) % 2 ^ 32 > (m.rd LostLog.LL_PROD + 2 ^ 32 - old) % 2 ^ 32 then some .range else none

/-- SPEC_CLEAR. -/
def specClear (m : Mach) : Mach := forAll (List.range 1024) (fun w m => m.putWord Spec.SPEC_DISCARD w 0) m

/-- A slice begins to write its die empty (R218): everything it holds is gone. -/
def ceInitStart (c : Nat) (m : Mach) : Mach :=
  let m := m.updCoh fun x => { x with
    dir := x.dir.filter fun e => e.1 / 2 ^ 24 != c
    tlt := x.tlt.filter fun t => t.c != c
    snoops := x.snoops.filter fun s => s.c != c
    rsv := x.rsv.filter fun e => e.1 / 2 ^ 24 != c
    hpend := x.hpend.filter fun h => h.c != c
    recallWait := x.recallWait.filter fun h => h.c != c }
  let m := forAll (List.range 4096) (fun s m =>
    if m.rd (Slc.SLC_DIR_HELD s) = 0 then m
    else m.wr (Slc.SLC_DIR_HELD s) ((m.coh.dir.filter fun e => eSlice e.2 == s).length)) m
  let m := m.updCoh fun x => { x with initPos := Tab.put 0 x.initPos c 0 }
  ((m.wr (Ce.ENTRIES_USED c) 0).wr (Ce.TLT_USED c) 0).wr (Ce.CE_STATE c) 1

/-- CE_INIT_DONE (R218). -/
def ceInitDone (c : Nat) (m : Mach) : Mach := if m.rd (Ce.CE_STATE c) = 1 then m.wr (Ce.CE_STATE c) 2 else m

/-- A slice writes 160 slots of its die empty in a stitch (R218). -/
def ceInitStep (c : Nat) (m : Mach) : Mach :=
  if m.rd (Ce.CE_STATE c) != 1 then m
  else
    let pos := Tab.get 0 m.coh.initPos c + 160
    if 2 ^ 24 ≤ pos then ceInitDone c (m.updCoh fun x => { x with initPos := Tab.put 0 x.initPos c 0 })
    else m.updCoh fun x => { x with initPos := Tab.put 0 x.initPos c pos }

/-- Why a read of DIAG_ENTRY fails, and what it reads (R215, R245). -/
def diagCheck (m : Mach) : Option Status :=
  if m.rd Coh.DIAG_SLOT ≥ 2 ^ 24 then some .range
  else if m.rd (Ce.CE_STATE (m.rd Coh.DIAG_SLICE)) != 2 then some .state
  else none
def diagEntry (m : Mach) : Nat := Tab.get 0 m.coh.dir (m.rd Coh.DIAG_SLICE * 2 ^ 24 + m.rd Coh.DIAG_SLOT)

/-! ### The drain of a tracked window (R286) -/

/-- Visit one slot for the drain of window w: its sector is evicted, its Lost lines are dropped. -/
def drainSlot (w k : Nat) (m : Mach) : Mach :=
  let e := Tab.get 0 m.coh.dir k
  let p : Place := ⟨k / 2 ^ 24, k % 2 ^ 24, eTag e⟩
  if e = 0 || !inWindow m w (sectorOf m p * 256) || evicting m p then m
  else
    let m := forAll ((List.range 4).filter fun j => (m.tline p j).st == .idle && eLine e j == 3)
      (fun j m => settleLine p j 0 0 m) m
    if m.slotEntry p = 0 then m else afterSector p (startEvict p m)

/-- Slots of slice c from a to b - 1 are visited for the windows that drain. -/
def drainSlots (w c a b : Nat) (m : Mach) : Mach :=
  forAll (slotsHeld m c a b) (fun k m => drainSlot w k m) m

/-- The drain walk of window w goes on by one stitch. -/
def drainStep (w : Nat) (m : Mach) : Mach :=
  if !winTracked m w then m
  else
    forAll (List.range 4) (fun c m =>
      let k := w * 4 + c
      let pos := Tab.get 0 m.coh.drainPos k
      if pos ≥ 2 ^ 24 then m
      else
        let to_ := min (2 ^ 24) (pos + walkRate m c)
        (drainSlots w c pos to_ m).updCoh fun x => { x with drainPos := Tab.put 0 x.drainPos k to_ }) m

/-- A sector of window w is still in a directory, or a held line of it in a slot. -/
def windowHeld (m : Mach) (w : Nat) : Bool :=
  (m.coh.dir.any fun e => inWindow m w (sectorOf m ⟨e.1 / 2 ^ 24, e.1 % 2 ^ 24, eTag e.2⟩ * 256)) ||
  (m.coh.tlt.any fun t => inWindow m w (sectorOf m t.place * 256))

/-- An access admitted to window w has not retired (R286, R298). -/
def windowBusy (m : Mach) (w : Nat) : Bool :=
  m.protect.stamps.any fun x => inWindow m w x.addr

/-- WINDOW_DRAIN_DONE (R286): the rest of the walk is visited; draining ends when nothing of the window is left. -/
def windowDrainDone (w : Nat) (m : Mach) : Mach :=
  if m.rd (Win.W_STATE w) != 2 then m
  else if winTracked m w then
    let m := forAll (List.range 4) (fun c m => drainSlots w c 0 (2 ^ 24) m) m
    if windowHeld m w then m
    else (m.updCoh fun x => { x with drainPos := x.drainPos.filter fun e => e.1 / 4 != w }).wr (Win.W_STATE w) 0
  else if windowBusy m w then m else m.wr (Win.W_STATE w) 0

/-- The drain walk of window w has visited every slot, or has none to visit. -/
def drainVisited (m : Mach) (w : Nat) : Bool :=
  !winTracked m w || (List.range 4).all fun c => 2 ^ 24 ≤ Tab.get 0 m.coh.drainPos (w * 4 + c)

/-- The unpick walk has visited every slot that it owes. -/
def walkVisited (m : Mach) : Bool :=
  (List.range 4).all fun c => m.rd (Ce.CE_STATE c) != 3 || Tab.get 0 m.coh.walkEnd c ≤ m.rd (CeHlc.WALK_POS c)

/-- What the coherence engine does at a stitch strobe: walks, drains, the sweep and the initialisation of a die go on, and each ends
where nothing is left for it; held log records are written. -/
def coherenceStitch (m : Mach) : Mach :=
  let m := forAll (List.range 4) (fun c m => hotSweep c (walkStep c (walkRate m c) (ceInitStep c m))) m
  let m := if m.rd Agents.WALK_AGENTS != 0 && walkVisited m then walkDone m.now.stitch m else m
  let m := forAll (windowsInState m 2) (fun w m => let m := drainStep w m; if drainVisited m w then windowDrainDone w m else m) m
  lostRetry (drainWork 64 (hlcFlushDone m))

end Sys2Proof.Machine
end

