-- ==== Sys2Proof/Machine/Needle.lean ====
section
/-! DEFINITION. The needle DMA engine (chapter 13): channels, rings, the checks of a descriptor, and how it ends. -/

namespace Sys2Proof.Machine

def Mach.chan (m : Mach) (c : Nat) : Channel := Tab.get Channel.reset m.chans c
def Mach.updChan (m : Mach) (c : Nat) (f : Channel → Channel) : Mach :=
  { m with chans := Tab.upd Channel.reset m.chans c f }

/-- The slice that owns channel c (R315). -/
def chanOwner (m : Mach) (c : Nat) : Option Nat :=
  ((m.pb.filter fun e => 0x40000C ≤ e.1 && e.1 < 0x500000 && e.1 % 256 == 0x0C).map fun e => (e.1 - 0x40000C) / 256).find?
    fun s => m.bit (Slc.SLC_NEEDLE s) c

/-- The slice that owns channel c and is active (R357). -/
def chanSlice (m : Mach) (c : Nat) : Option Nat := (chanOwner m c).filter fun s => sliceState m s == 1

/-- CH_STATE: 0 while no active slice owns the channel, 1 when nothing else is set (R358). -/
def chanState (m : Mach) (c : Nat) : Nat :=
  if (chanSlice m c).isNone then 0 else max 1 (m.rd (Chan.CH_STATE c))

/-- Ring size (R361). -/
def ringSize (m : Mach) (c : Nat) : Nat := 2 ^ m.rd (Chan.RING_LOG2 c)

/-! ### Descriptor fields (R359) -/

def dOp (d : Nat) : Nat := getBits d 0 4
def dNotify (d : Nat) : Bool := bitAt d 4
def dFence (d : Nat) : Bool := bitAt d 5
def dAtomCode (d : Nat) : Nat := getBits d 8 4
def dAtomSize (d : Nat) : Nat := getBits d 12 2
def dLength (d : Nat) : Nat := getBits d 32 32
def dSrc (d : Nat) : Nat := getBits d 64 52
def dSrcSpool (d : Nat) : Nat := getBits d 116 5
def dSrcHost (d : Nat) : Bool := bitAt d 121
def dDst (d : Nat) : Nat := getBits d 128 52
def dDstSpool (d : Nat) : Nat := getBits d 180 5
def dDstHost (d : Nat) : Bool := bitAt d 185

/-- Bytes of an atomic's operand. -/
def dAtomBytes (d : Nat) : Nat := 4 * 2 ^ dAtomSize d

/-- The reserved fields of a descriptor are 0. -/
def dReserved (d : Nat) : Bool :=
  !bitAt d 7 && getBits d 14 18 == 0 && getBits d 122 6 == 0 && getBits d 186 6 == 0 && getBits d 488 24 == 0

/-- Size of a spool, or none for a linear range (R364). -/
def spoolSize (z : Nat) : Option Nat := if z = 0 then none else some (2 ^ (11 + z))

/-- Contiguous runs of a range: one, or two when a spool wraps (R364). -/
def runsOf (a len z : Nat) : List (Nat × Nat) :=
  match spoolSize z with
  | none => [(a, len)]
  | some n =>
    let base := a / n * n
    if a + len ≤ base + n then [(a, len)] else [(a, base + n - a), (base, a + len - (base + n))]

/-- Two runs share a byte. -/
def runsMeet (x y : Nat × Nat) : Bool := x.1 < y.1 + y.2 && y.1 < x.1 + x.2

/-- The source is read, and its ranges. -/
def dReads (d : Nat) : List (Nat × Nat) := if dOp d = 1 then runsOf (dSrc d) (dLength d) (dSrcSpool d) else []
def dWrites (d : Nat) : List (Nat × Nat) :=
  match dOp d with
  | 1 | 2 => runsOf (dDst d) (dLength d) (dDstSpool d)
  | 3 => [(dDst d, dAtomBytes d)]
  | _ => []

/-- BAD_DESC (R360, R364). -/
def badDesc (d : Nat) : Bool :=
  dOp d > 3 || !dReserved d || dSrcSpool d > 19 || dDstSpool d > 19 ||
  ((dOp d = 1 || dOp d = 2) && (dLength d = 0 || dLength d > 2 ^ 30)) ||
  (dOp d = 3 && (dAtomCode d > 7 || dAtomSize d = 3 || dDstHost d || dDstSpool d != 0 || dDst d % dAtomBytes d != 0 ||
    (dAtomSize d = 2 && dAtomCode d != 2))) ||
  (dOp d = 1 && dSrcHost d == dDstHost d && (dReads d).any fun x => (dWrites d).any (runsMeet x)) ||
  (dOp d = 1 && !dSrcHost d && dSrcSpool d = 0 && dSrc d + dLength d > 2 ^ 52) ||
  ((dOp d = 1 || dOp d = 2) && !dDstHost d && dDstSpool d = 0 && dDst d + dLength d > 2 ^ 52)

/-- LENGTH is larger than a spool (R364). -/
def spoolShort (d : Nat) : Bool :=
  (dOp d = 1 && (spoolSize (dSrcSpool d)).any (· < dLength d)) ||
  ((dOp d = 1 || dOp d = 2) && (spoolSize (dDstSpool d)).any (· < dLength d))

/-- The USP function that serves slice s's host accesses, when the host has enabled bus mastering (R363). -/
def hostPort (m : Mach) (s : Nat) : Option Nat := notePort m s

/-- Space 1 is closed to a range of a descriptor (R363, R381). -/
def hostShut (m : Mach) (d : NDesc) (rs : List (Nat × Nat)) : Bool :=
  (hostPort m d.slice).isNone || rs.any fun r => r.1 + r.2 > d.size

/-- The ring of channel c lies in host memory, outside the aperture (R361, R363). -/
def ringOutside (m : Mach) (c : Nat) (d : NDesc) : Bool :=
  let a := m.rd (Chan.RING_ADDR c)
  m.rd (Chan.RING_LOC c) = 1 && (a < d.base || d.base + d.size < a + 64 * ringSize m c)

/-- The end of the piece that begins at a: the window's end, and the next member boundary (R365). -/
def pieceEnd (m : Mach) (a stop : Nat) : Nat :=
  match findWindow m a with
  | none =>
    -- up to the next window, granule by granule
    min stop ((a / granule + 1) * granule)
  | some w =>
    let e := min stop (winEnd m w)
    if m.rd (Win.W_WAYS w) = 0 then e
    else
      let g := 2 ^ (8 + m.rd (Win.W_GRAN w))
      min e (winBase m w + ((a - winBase m w) / g + 1) * g)

/-- The pieces of a run (R365). -/
def piecesOf (m : Mach) : Nat → Nat → Nat → List (Nat × Nat)
  | 0, _, _ => []
  | n + 1, a, stop =>
    if stop ≤ a then []
    else
      let e := pieceEnd m a stop
      (a, e - a) :: piecesOf m n e stop

/-- The check site of a piece: the target port's gate, or the central table (R290). -/
def pieceSite (m : Mach) (w a : Nat) : Nat :=
  let d := winTarget m w (memberOf m w a)
  let port := if tgtKind d = 1 then some (tgtPort d) else if tgtKind d = 2 then gfdPort m (tgtPbr d) else none
  match port with
  | some p => if !winTracked m w && m.rd (Gate.CHECK_SITE p) = 1 then 1 + p else 0
  | none => 0

/-- The verdict on one piece: its site and its refusal cause (R366). -/
def pieceVerdict (m : Mach) (s need : Nat) (pc : Nat × Nat) : Nat × Option Nat :=
  match findWindow m pc.1 with
  | none => (0, some 0)
  | some w =>
    let t := if need = needAtomic && m.rd (Win.W_ATOMIC_SITE w) = 0 then 0 else pieceSite m w pc.1
    (t, checkAccess m t s need pc.1 pc.2)

/-- Check the pieces of a list, stamping those allowed for the descriptor at a ring index; the first refusal names the cause (R298,
R366). -/
def checkPieces (c index s need : Nat) : List (Nat × Nat) → Mach → Option Nat × Mach
  | [], m => (none, m)
  | pc :: rest, m =>
    let (t, v) := pieceVerdict m s need pc
    let m := match v with
      | none => stamp t (256 + c) index pc.1 m
      | some _ =>
        let m := m.bump (refusedKey t) 1
        match findWindow m pc.1 with
        | some w => m.bump (Win.W_REFUSED w) 1
        | none => m
    let (r, m) := checkPieces c index s need rest m
    (v <|> r, m)

/-- The context of a needle event (R382). -/
def needleCtx (m : Mach) (c s index : Nat) : Ctx :=
  { noCtx with
    slice := s
    gen := if s < 4096 then m.rd (Slc.SLC_GEN s) else 0
    initKind := 3
    initId := c
    detail := index
    flags := 4
    level := 4
    kind := 6
    unit := c }

/-- Raise event k of the needle engine. -/
def needleRaise (k : Nat) (x : Ctx) (m : Mach) : Mach := raiseEv (1408 + k) x m

/-- The verdict on a whole descriptor (R360, R363, R364, R366, R370): the ERR it fails with. -/
def descVerdict (c : Nat) (d : NDesc) (m : Mach) : Option Nat × Mach :=
  let x := d.raw
  if badDesc x then (some 1, m)
  else if spoolShort x then (some 2, m)
  else if ringOutside m c d || (dOp x = 1 && dSrcHost x && hostShut m d (dReads x)) ||
          ((dOp x = 1 || dOp x = 2) && dDstHost x && hostShut m d (dWrites x)) then (some 6, m)
  else
    let rs := if dSrcHost x then [] else (dReads x).flatMap fun r => piecesOf m (r.2 + 1) r.1 (r.1 + r.2)
    let ws := if dDstHost x then [] else (dWrites x).flatMap fun r => piecesOf m (r.2 + 1) r.1 (r.1 + r.2)
    let (v1, m) := checkPieces c d.index d.slice needRead rs m
    let (v2, m) := checkPieces c d.index d.slice (if dOp x = 3 then needAtomic else needWrite) ws m
    match v1 <|> v2 with
    | some cause => (some (16 + cause), needleRaise 1 { needleCtx m c d.slice d.index with cause := cause, addr := dDst x } m)
    | none =>
      if dOp x = 3 && 3 ≤ dAtomCode x &&
         (match findWindow m (dDst x) with
          | some w => m.rd (Win.W_ATOMIC_SITE w) == 1
          | none => false) then
        let ce := (placeOfAddr m (dDst x)).c
        (some 3, cohRaise ce 12 { cohCtx m ce (dDst x) d.slice none with initKind := 3, initId := c, access := 3 }
          (m.bump (CeHlc.ATOM_ERR ce) 1))
      else (none, m)

/-! ### Rings -/

/-- The descriptor at index i of a bolt store ring. -/
def ringRead (m : Mach) (c i : Nat) : Nat := m.words (Chan.RING_DATA c) (16 * i) 16

/-- Write a descriptor back: into the ring, or by one posted MWr to host memory (R373). -/
def writeBack (c : Nat) (d : NDesc) (raw : Nat) (m : Mach) : Mach :=
  if m.rd (Chan.RING_LOC c) = 0 then m.putWords (Chan.RING_DATA c) (16 * d.index) raw 16
  else
    match hostPort m d.slice with
    | some p => sendOn p 0 (.hostWrite p (m.rd (Chan.RING_ADDR c) + 64 * d.index) 64 raw) m
    | none => m

/-- STATUS of a descriptor that ends (R359, R373). -/
def withStatus (raw err : Nat) : Nat := setBits (setBits raw 480 1 1) 481 7 err

/-- Retire the stamps of channel c's descriptors (R298). -/
def retireChan (c : Nat) (m : Mach) : Mach :=
  let mine := (m.protect.stamps.filter fun x => x.port == 256 + c).map (·.tag)
  forAll mine.eraseDups (fun t m => retire (256 + c) t m) m

/-! ### What a descriptor has open -/

/-- Tags of the accesses of a run that are not answered. -/
def NRun.open (r : NRun) : List Nat :=
  ((r.reads.filter fun x => x.data.isNone).map (·.tag)).eraseDups ++ r.writes.map (·.tag) ++
  (match r.flush with
   | some t => if r.flushed then [] else [t]
   | none => [])

/-- Close the accesses of a run of channel c: what still arrives for them is late (R95). -/
def closeRun (c : Nat) (r : NRun) (m : Mach) : Mach :=
  let m := m.updCoh fun x => { x with retries := x.retries.filter fun y => !(y.port == 256 + c && r.open.contains y.tag) }
  forAll r.open (fun t m => retire (256 + c) t (closeTxn (256 + c) t m)) m

/-- SPEC_DISCARD of a line that was read ahead in vain: its window's word, and the source of its slice (R260, R369). -/
def aheadDiscard (a : Nat) (m : Mach) : Mach :=
  let w := (cohWindow m a).getD 0
  let c := (placeOfAddr m a).c
  cohRaise c 13 (cohCtx m c a 65535 none) (m.putWord Spec.SPEC_DISCARD w (m.word Spec.SPEC_DISCARD w + 1))

/-- The next descriptor of channel c is discarded before it starts (R369, R375, R376). -/
def discardNext (c : Nat) (m : Mach) : Mach :=
  let x := m.chan c
  match x.next with
  | none => m
  | some d =>
    let m := forAll ((x.ahead.reads.map (·.addr)).eraseDups) aheadDiscard (closeRun c x.ahead m)
    retire (256 + c) d.index (m.updChan c fun x => { x with next := none, ahead := NRun.reset })

/-- RING_HEAD moves past a descriptor. -/
def advanceHead (c : Nat) (m : Mach) : Mach :=
  m.wr (Chan.RING_HEAD c) ((m.rd (Chan.RING_HEAD c) + 1) % ringSize m c)

/-- The engine begins to move a descriptor's data: one that moved before has issued every write (R362). What was read ahead for it
serves it now (R369). -/
def moveStart (c : Nat) (d : NDesc) (m : Mach) : Mach :=
  let m := advanceHead c (m.updChan c fun x => { x with
    moving := some d, run := x.ahead, next := none, ahead := NRun.reset
    before := match x.moving with
      | some e => x.before ++ [(e, x.run)]
      | none => x.before })
  if dOp d.raw = 0 then m
  else m.emit (.move c (dOp d.raw) (dSrc d.raw) (dDst d.raw) (if dOp d.raw = 3 then dAtomBytes d.raw else dLength d.raw))

/-- A channel stops once nothing of it moves (R376). -/
def chanStopped (c : Nat) (m : Mach) : Mach :=
  if m.rd (Chan.CH_STATE c) = 3 && (m.chan c).moving.isNone && (m.chan c).before.isEmpty then m.wr (Chan.CH_STATE c) 1 else m

/-- The oldest descriptor of a channel that has started and not ended, and how far it has come. -/
def Channel.oldest (x : Channel) : Option (NDesc × NRun) :=
  match x.before with
  | e :: _ => some e
  | [] => x.moving.map fun d => (d, x.run)

/-- The oldest descriptor leaves: descriptors end in ring order (R362). -/
def Channel.dropOldest (x : Channel) : Channel :=
  match x.before with
  | _ :: rest => { x with before := rest }
  | [] => { x with moving := none, run := NRun.reset }

/-- A descriptor fails: STATUS, the cause of R317, the counts and the halt (R373 to R375). -/
def descEndFail (c : Nat) (d : NDesc) (err written : Nat) (started : Bool) (m : Mach) : Mach :=
  let stale := sliceState m d.slice != 1 || m.rd (Slc.SLC_GEN d.slice) != d.gen
  let m := if stale then m.bump (Slc.SLC_DISCARD d.slice) 1 else writeBack c d (withStatus d.raw err) m
  let m := retire (256 + c) d.index m
  let m := ((m.bump (Chan.DESC_FAIL c) 1).bump (Chan.BYTES c) written).wr (Chan.LAST_ERR c) err
  let m := (m.wr (Chan.LAST_ERR_INDEX c) d.index).wr (Chan.LAST_ERR_OFFSET c) written
  let m := if started then m.updChan c Channel.dropOldest
    else advanceHead c (m.updChan c fun x => { x with next := none, ahead := NRun.reset })
  let m := if m.on (Chan.HALT_ON_ERR c) && m.rd (Chan.CH_STATE c) = 2 then (discardNext c m).wr (Chan.CH_STATE c) 4 else m
  needleRaise 0 { needleCtx m c d.slice d.index with cause := 0 } m

/-- Destination bytes of a descriptor. -/
def descBytes (raw : Nat) : Nat := if dOp raw = 3 then dAtomBytes raw else if dOp raw = 0 then 0 else dLength raw

/-- The next descriptor starts once the one before it has issued every write, or with FENCE has ended; one that its checks refuse ends
with their error once nothing before it moves (R362, R366; log entry 27). -/
def startNext (c : Nat) (m : Mach) : Mach :=
  let x := m.chan c
  match x.next with
  | none => m
  | some d =>
    let idle := x.moving.isNone && x.before.isEmpty
    let issued := match x.moving with
      | none => true
      | some e => x.run.fail.isNone && x.run.wpos == descBytes e.raw
    if m.rd (Chan.CH_STATE c) != 2 then m
    else
      match d.verdict with
      | some none => if idle || (issued && !dFence d.raw) then moveStart c d m else m
      | some (some err) => if idle then descEndFail c d err 0 false m else m
      | none => m

/-! ### Commands -/

/-- Slots of a bolt store ring are allocated at the first start (R361). -/
def ringAllocated (m : Mach) (c : Nat) : Bool := Tab.get 0 m.core.rings c != 0

/-- Why CH_CTRL 1 fails (R358, R361). -/
def chStartCheck (c : Nat) (m : Mach) : Option Status :=
  if chanState m c != 1 && chanState m c != 4 then some .state
  else if m.rd (Chan.RING_LOC c) = 0 && !ringAllocated m c && freeSlots m < ringSize m c then some .state
  else none

/-- CH_CTRL 1: fetching begins at RING_HEAD (R358). -/
def chStart (c : Nat) (m : Mach) : Mach :=
  let m := if m.rd (Chan.RING_LOC c) = 0 && !ringAllocated m c then
      m.updCore fun k => { k with rings := Tab.put 0 k.rings c (ringSize m c) }
    else m
  m.wr (Chan.CH_STATE c) 2

/-- Why CH_CTRL 2 fails (R358). -/
def chStopCheck (c : Nat) (m : Mach) : Option Status :=
  if chanState m c != 2 && chanState m c != 4 then some .state else none

/-- Stop channel c at a descriptor boundary: a fetched descriptor that has not started is discarded (R376). -/
def stopChan (c : Nat) (m : Mach) : Mach :=
  if m.rd (Chan.CH_STATE c) = 4 then m.wr (Chan.CH_STATE c) 1
  else if m.rd (Chan.CH_STATE c) = 2 then (discardNext c m).wr (Chan.CH_STATE c) 3
  else m

/-- A released channel leaves its slice once it has stopped (R315). -/
def releaseStopped (c : Nat) (m : Mach) : Mach :=
  match chanOwner m c with
  | some s =>
    if bitAt (m.slice s).releasing c && m.rd (Chan.CH_STATE c) ≤ 1 then
      let m := m.putBit (Slc.SLC_NEEDLE s) c false
      let m := m.updSlice s fun x => { x with releasing := setBit x.releasing c false }
      refreshPend s (m.updCore fun k => { k with rings := Tab.put 0 k.rings c 0 })
    else m
  | none => m

/-- The stop of channel c ends (R376). -/
def chStopDone (c : Nat) (m : Mach) : Mach := releaseStopped c (chanStopped c m)

/-- Why a write of RING_TAIL fails. -/
def tailCheck (c tail : Nat) (m : Mach) : Option Status := if tail < ringSize m c then none else some .range

/-- Index of the next descriptor to fetch: behind those held and not started. -/
def fetchIndex (m : Mach) (c : Nat) : Nat :=
  (m.rd (Chan.RING_HEAD c) + (if (m.chan c).next.isSome then 1 else 0)) % ringSize m c

/-- A running channel fetches while the ring holds a descriptor and fewer than two are held (R362). -/
def mayFetch (m : Mach) (c : Nat) : Bool :=
  m.domOn 62 && chanState m c == 2 && (m.chan c).next.isNone && fetchIndex m c != m.rd (Chan.RING_TAIL c)

/-- A fetch (R357, R362): from the ring, or the 64 B that the host's memory holds there. -/
def descFetch (c host : Nat) (m : Mach) : Mach :=
  if !mayFetch m c then m
  else
    match chanSlice m c with
    | none => m
    | some s =>
      let i := fetchIndex m c
      let raw := if m.rd (Chan.RING_LOC c) = 0 then ringRead m c i else host % 2 ^ 512
      m.updChan c fun x => { x with
        next := some ⟨i, raw, s, m.rd (Slc.SLC_GEN s), none, m.rd (Chan.HOST_BASE c), m.rd (Chan.HOST_SIZE c), m.rd (Chan.OUT_MAX c)⟩ }

/-- A fetch fails: the channel halts without a STATUS write (R375). -/
def fetchFail (c : Nat) (m : Mach) : Mach :=
  if !mayFetch m c then m
  else
    let s := (chanSlice m c).getD 65535
    needleRaise 2 (needleCtx m c s (fetchIndex m c)) (m.wr (Chan.CH_STATE c) 4)

/-- The checks of the fetched descriptor are done (R366). -/
def descCheckVerdict (c : Nat) (m : Mach) : Mach :=
  match (m.chan c).next with
  | none => m
  | some d =>
    if d.verdict.isSome || !m.domOn 62 then m
    else
      let (v, m) := descVerdict c d m
      startNext c (m.updChan c fun x => { x with next := some { d with verdict := some v } })

/-- A descriptor that has started ends well; `result` is an atomic's old value (R371 to R373). -/
def descEndDone (c : Nat) (d : NDesc) (result : Nat) (m : Mach) : Mach :=
  let stale := sliceState m d.slice != 1 || m.rd (Slc.SLC_GEN d.slice) != d.gen
  let raw := if dOp d.raw = 3 then setBits d.raw 192 128 result else d.raw
  let m := if stale then m.bump (Slc.SLC_DISCARD d.slice) 1 else writeBack c d (withStatus raw 0) m
  let m := retire (256 + c) d.index m
  let m := m.updChan c Channel.dropOldest
  let m := if dNotify d.raw && !stale then setCause d.slice 5 m else m
  (m.bump (Chan.DESC_DONE c) 1).bump (Chan.BYTES c) (descBytes d.raw)

/-- DESC_COMPLETE: every write of the oldest descriptor has its completion (R371). Those that the engine has issued and still waits for
have come with it; one that has writes to issue, or has failed, cannot complete. -/
def descComplete (c result : Nat) (m : Mach) : Mach :=
  match (m.chan c).oldest with
  | none => m
  | some (d, r) =>
    if r.fail.isSome || r.wpos != descBytes d.raw then m
    else startNext c (descEndDone c d result (closeRun c r m))

/-- DESC_FAIL: the oldest descriptor has met poison or a target's error, and what it had issued is over (R374). -/
def descFail (c : Nat) (poison : Bool) (written : Nat) (m : Mach) : Mach :=
  match (m.chan c).oldest with
  | none => m
  | some (d, r) => startNext c (descEndFail c d (if poison then 4 else 5) written true (closeRun c r m))

/-- Why a block write of RING_DATA fails (R361): first and last byte, exclusive. -/
def ringWriteCheck (c lo hi : Nat) (m : Mach) : Option Status :=
  if hi > 64 * ringSize m c then some .range
  else
    match (m.chan c).oldest with
    | none => none
    | some (d, _) =>
      let n := ringSize m c
      let span := (m.rd (Chan.RING_HEAD c) + n - d.index) % n
      if (List.range span).any fun k =>
        let i := (d.index + k) % n
        lo < 64 * (i + 1) && 64 * i < hi
      then some .busy else none

/-- Why a write of RING_LOC, RING_LOG2 or RING_ADDR fails (R381). -/
def ringPlaceCheck (c : Nat) (m : Mach) : Option Status := if chanState m c ≤ 1 then none else some .state

/-- A ring that moves gives its slots back (R361). -/
def ringMoved (c : Nat) (m : Mach) : Mach := m.updCore fun k => { k with rings := Tab.put 0 k.rings c 0 }

/-- Errors of the funnel's buffer (R379). -/
def funnelCorr (c : Nat) (m : Mach) : Mach := needleRaise 3 (needleCtx m c 65535 0) m
def funnelUncorr (c : Nat) (m : Mach) : Mach := needleRaise 4 (needleCtx m c 65535 0) m

/-- A slice reset ends the descriptors of channel c and disables it (R322 step 5, R377). -/
def needleReset (c : Nat) (m : Mach) : Mach :=
  let x := m.chan c
  let m := retireChan c (discardNext c m)
  let m := forAll ((x.moving.toList.map fun _ => x.run) ++ x.before.map (·.2)) (closeRun c) m
  let m := m.updChan c fun _ => Channel.reset
  let m := ((m.wr (Chan.CH_STATE c) 1).wr (Chan.RING_HEAD c) 0).wr (Chan.RING_TAIL c) 0
  let m := if m.rd (Chan.RING_LOC c) = 0 then
      { m with ram := m.ram.filter fun e => e.1 / 2 ^ 24 != Chan.RING_DATA c }
    else m
  ringMoved c m

/-- Why a write of SLC_NEEDLE fails (R315, R328). -/
def slcNeedleCheck (s v : Nat) (m : Mach) : Option Status :=
  if sliceState m s = 2 then some .busy
  else if (bitsSet 128 v).any fun c => (chanOwner m c).any (· != s) then some .state
  else none

/-- An accepted write of SLC_NEEDLE: added channels can be used, removed ones leave once they have stopped (R315, R317). -/
def slcNeedleWrite (s v : Nat) (m : Mach) : Mach :=
  let old := m.rd (Slc.SLC_NEEDLE s)
  let gone := (bitsSet 128 old).filter fun c => !bitAt v c
  let runs := gone.filter fun c => 2 ≤ m.rd (Chan.CH_STATE c) && m.rd (Chan.CH_STATE c) ≤ 3
  let m := forAll runs stopChan m
  let keep := runs.foldl (fun v c => setBit v c true) (v % 2 ^ 128)
  let m := m.wr (Slc.SLC_NEEDLE s) keep
  let m := forAll (gone.filter fun c => !runs.contains c) (fun c m => ringMoved c (m.wr (Chan.CH_STATE c) 0)) m
  let m := m.updSlice s fun x => { x with releasing := runs.foldl (fun r c => setBit r c true) 0 }
  setCause s 9 (refreshPend s m)

end Sys2Proof.Machine
end

