-- ==== Sys2Proof/Machine/SliceReset.lean ====
section
/-! DEFINITION. The life of a tenant slice: activation, reset, declaration of death and free (R308, R309, R321 to
R328), and the end of a class hold (R314). -/

namespace Sys2Proof.Machine

/-- Context of a slice event (R330). -/
def sliceCtx (m : Mach) (s : Nat) : Ctx := { noCtx with slice := s, gen := m.rd (Slc.SLC_GEN s) }

/-- Why a write of SLC_CTRL fails (R307 to R309). -/
def sliceCtrlCheck (s v : Nat) (m : Mach) : Option Status :=
  let st := sliceState m s
  if s = 0 then some .state
  else if st = 2 then some .busy
  else if (st = 0 && v = 1) then (if keysFit true m s (m.rd (Slc.SLC_KEYS s)) then none else some .state)
  else if st = 1 && (v = 2 || v = 3 || v = 4) then none
  else if st = 3 && (v = 1 || v = 4) then none
  else some .state

/-- A free clears the slice's configuration (R326). -/
def freeConfig (s : Nat) (m : Mach) : Mach :=
  let m := forAll (bitsSet 128 (m.rd (Slc.SLC_NEEDLE s))) (fun c m => ringMoved c (m.wr (Chan.CH_STATE c) 0)) m
  let m := ((m.wr (Slc.SLC_KEYS s) 0).wr (Slc.SLC_PORT s) 255).wr (Slc.SLC_BS_QUOTA s) 0
  let m := ((m.wr (Slc.SLC_DIR_QUOTA s) 0).wr (Slc.SLC_CLASSES s) 0x02200100).wr (Slc.SLC_NEEDLE s) 0
  let m := (m.wr (Slc.SLC_BOOT s) 0).updSlice s fun x => { x with hold := [], releasing := 0 }
  refreshPend s m

/-- Whether a packet of slice s is ended by its reset: not one that a coherence slice forwarded or built (R322). -/
def resetPacket (s : Nat) (x : Pkt) : Bool := x.slice == s && x.input < 67

/-- Step 3 of R322: the packets of the slice. -/
def resetPackets (s : Nat) (m : Mach) : Mach :=
  let mine := m.core.pkts.filter (resetPacket s)
  let m := forAll mine (fun x m =>
    let m := if x.held < x.len && x.input != 64 then
        m.updCore fun c => { c with discard := Tab.put none c.discard x.input (some x.id) }
      else m
    if x.path = 1 then
      if x.ending.isSome then m
      else (m.updPkt x.id fun x => { x with ending := some (m.now.stitch + 1) }).emit (.abort x.output x.id x.io)
    else m) m
  let heldM := (m.traffic.heldMem.map fun e => (e.2.filter fun h => h.slice == s).length).sum
  let heldI := (m.traffic.heldIo.map fun e => (e.2.filter fun h => h.slice == s).length).sum
  let m := { m with traffic := { m.traffic with
    heldMem := Tab.mapAll [] (·.filter fun h => h.slice != s) m.traffic.heldMem
    heldIo := Tab.mapAll [] (·.filter fun h => h.slice != s) m.traffic.heldIo } }
  let m := dropPkts (fun x => resetPacket s x && x.path != 1) m
  m.bump (Slc.SLC_DISCARD s) (mine.length + heldM + heldI)

/-- Step 2 of R322: open transactions close, and stamped accesses retire (R93, R298). The lines that a posted write has still to
present, and what requesters keep after a NAK, go with them; what an agent gives back stays (R323). An access of a management window
is answered with a bus error. -/
def resetTxns (s : Nat) (m : Mach) : Mach :=
  let mine := m.edge.txns.filter fun t => t.slice == s
  let m := dropWaiting (fun w => w.slice == s) { m with edge := { m.edge with
    txns := m.edge.txns.filter fun t => t.slice != s, served := m.edge.served.filter fun w => w.slice != s } }
  let kept := fun (r : Retry) => match r.req with
    | some (k, q) => q.slice != s || (4 ≤ k && k ≤ 6 && (agentOf q.who).isSome)
    | none => !(mine.any fun t => t.port == r.port && t.tag == r.tag)
  let m := { m with edge := { m.edge with streams := m.edge.streams.filter fun (e : Nat × Option Stream) => e.2.all fun (x : Stream) => x.cur.slice != s } }
  let m := m.updCoh fun x => { x with
    retries := x.retries.filter kept
    rsv := Tab.mapAll [] (·.filter fun r => r.slice != s) x.rsv }
  forAll mine (fun t m =>
    let m := retire t.port t.tag m
    if t.port = ownPort then windowAnswer t.tag true 0 m else m) m

/-- Step 6 of R322: causes and vectors. -/
def resetCauses (s : Nat) (m : Mach) : Mach :=
  (m.wr (Slc.SLC_CAUSE s) 0).wr (Slc.SLC_VECTORS s) (packFields 128 (List.replicate 8 (2 ^ 96)))

/-- The sequence of R322 starts; `ending` is the state that R308 gives at its end. -/
def sliceReset (s ending : Nat) (m : Mach) : Mach :=
  let m := (m.bumpWrap (Slc.SLC_GEN s) 1).wr (Slc.SLC_STATE s) 2
  let m := ((m.wr (Slc.SLC_RESET_START s) (m.now.stitch - 1)).wr (Slc.SLC_RESET_END s) 0).bump (Slc.SLC_RESETS s) 1
  let owned := bitsSet 128 (m.rd (Slc.SLC_NEEDLE s))
  let moves := owned.any fun c => (m.chan c).moving.isSome
  let walk := m.rd (Slc.SLC_DIR_HELD s) != 0 || (sliceAgent m s).isSome
  let m := m.updSlice s fun x => { x with
    ending := ending, began := m.now.stitch, moves := m.now.stitch + (if moves then 1 else 0), walk := walk }
  let m := fillSlice s (resetPackets s (resetTxns s m))
  let m := forAll owned needleReset m
  let m := (resetCauses s m).wr (Slc.SLC_CTR_READ s) 0
  m.updCoh fun x => { x with resetPos := x.resetPos.filter fun e => e.1 / 4 != s }

/-- The sequence ends in state e in a stitch: the slice is freed where that is 0 (R326, R327). -/
def sliceResetEnds (s e at_ : Nat) (m : Mach) : Mach :=
  let m := if e = 0 then freeConfig s m else m
  raiseEv 1517 (sliceCtx m s) ((m.wr (Slc.SLC_STATE s) e).wr (Slc.SLC_RESET_END s) at_)

/-- An accepted write of SLC_CTRL (R308, R325, R326). A free from state 3 ends at once. -/
def sliceCtrl (s v : Nat) (m : Mach) : Mach :=
  match v with
  | 1 => m.wr (Slc.SLC_STATE s) 1
  | 2 => sliceReset s 1 m
  | 3 =>
    let a := sliceAgent m s
    let m := sliceReset s 3 m
    let m := match a with
      | some a => resetCauses s (declareDead m.now.stitch a m)
      | none => m
    raiseEv 1519 (sliceCtx m s) m
  | _ =>
    if sliceState m s = 3 then sliceResetEnds s 0 (m.now.stitch - 1) (sliceReset s 0 m) else sliceReset s 0 m

/-- The directory walk of slice s's reset goes on by n slots in coherence slice c (R324). -/
def resetWalk (s n c : Nat) (m : Mach) : Mach :=
  let k := s * 4 + c
  let pos := Tab.get 0 m.coh.resetPos k
  if pos ≥ 2 ^ 24 || !sliceRuns m c then m
  else
    let to_ := min (2 ^ 24) (pos + n)
    let ks := (m.coh.dir.filter fun e => c * 2 ^ 24 + pos ≤ e.1 && e.1 < c * 2 ^ 24 + to_).map (·.1)
    let m := forAll ks (fun k m =>
      let p : Place := ⟨c, k % 2 ^ 24, eTag (Tab.get 0 m.coh.dir k)⟩
      afterSector p (resetSlot s k m)) m
    m.updCoh fun x => { x with resetPos := Tab.put 0 x.resetPos k to_ }

/-- The walks of the resets that run go on by one stitch. -/
def resetStitch (m : Mach) : Mach :=
  forAll (walkedSlices m) (fun s m => forAll (List.range 4) (fun c m => resetWalk s (walkRate m c) c m) m) m

/-- Nothing of slice s's old generation is left (R327): no sector that the walk still evicts, no request of the slice in
a transient line table or a reservation queue, no message of the network, no context. -/
def oldGenGone (m : Mach) (s : Nat) : Bool :=
  let ofSlice := fun (q : CohReq) => q.slice == s
  !(m.coh.tlt.any fun t =>
      (t.evict && (let e := m.slotEntry t.place; eSlice e == s || (sliceAgent m s).isSome)) ||
      t.lines.any fun x => x.req.any ofSlice || x.rs.any ofSlice) &&
  !(m.coh.rsv.any fun e => e.2.any fun r => r.slice == s) &&
  !((m.noc.msgs ++ m.noc.arrived.map (·.msg)).any fun x => x.slice == s && x.gen != m.rd (Slc.SLC_GEN s)) &&
  !(m.edge.txns.any fun t => t.slice == s && t.gen != m.rd (Slc.SLC_GEN s))

/-- The directory walk of slice s's reset has visited every slot (R324). -/
def resetVisited (m : Mach) (s : Nat) : Bool :=
  !(m.slice s).walk || (List.range 4).all fun c => !sliceRuns m c || 2 ^ 24 ≤ Tab.get 0 m.coh.resetPos (s * 4 + c)

/-- The reset of slice s ends in a stitch, when its conditions hold (R327). A descriptor that it ended has moved its last granted
swatch by then (R322). -/
def sliceResetTry (s at_ : Nat) (m : Mach) : Mach :=
  let x := m.slice s
  let unpicks := x.ending == 3 && (match sliceAgent m s with
    | some a => bitAt (m.rd Agents.WALK_AGENTS) a || agentDying m a
    | none => false)
  if sliceState m s != 2 || at_ < x.began || at_ < x.moves || !resetVisited m s || unpicks || m.rd (Slc.SLC_BS_HELD s) != 0 ||
    !oldGenGone m s then m
  else sliceResetEnds s x.ending at_ m

/-- SLICE_RESET_END: in the stitch that has just ended, the reset of slice s ends, when its conditions hold; what the walk has left is
visited first (R327). -/
def sliceResetEnd (s : Nat) (m : Mach) : Mach :=
  if sliceState m s != 2 || m.now.stitch ≤ (m.slice s).began then m
  else sliceResetTry s (m.now.stitch - 1) (if (m.slice s).walk then forAll (List.range 4) (resetWalk s (2 ^ 24)) m else m)

/-- The resets that end in the commit phase of this stitch (R327). -/
def resetsEnd (m : Mach) : Mach := forAll (resettingSlices m) (fun s m => sliceResetTry s m.now.stitch m) m

/-- A class hold of slice s ends when no packet of that kind is left in the old class (R314); the packets that it held take the new
class. -/
def classHoldEnd (s kind : Nat) (m : Mach) : Mach :=
  match (m.slice s).hold.find? fun h => h.1 == kind with
  | none => m
  | some h =>
    if m.core.pkts.any fun x => x.slice == s && x.kind == kind && x.cls == h.2 && x.path != 0 then m
    else
      let c := classOf m s kind
      let held := fun (x : Pkt) => x.slice == s && x.kind == kind && x.path == 0 && x.input < 67 && x.cls != 63
      let m := m.updCore fun k => { k with pkts := k.pkts.map fun x => if held x then { x with cls := c } else x }
      refreshPend s (m.updSlice s fun x => { x with hold := x.hold.filter fun y => y.1 != kind })

/-- The class holds that end in the commit phase of this stitch (R314). -/
def holdsEnd (m : Mach) : Mach :=
  forAll (m.traffic.slices.filter fun e => !e.2.hold.isEmpty) (fun e m => forAll e.2.hold (fun h m => classHoldEnd e.1 h.1 m) m) m

/-- The slices that start active (R309): those whose SLC_BOOT is 1 and whose keys pass R307; of two that clash the
lower number stands. -/
def sliceBoot (m : Mach) : Mach :=
  forAll ((List.range 4096).filter fun s => m.rd (Slc.SLC_BOOT s) == 1 && s != 0) (fun s m =>
    if keysFit true m s (m.rd (Slc.SLC_KEYS s)) then m.wr (Slc.SLC_STATE s) 1
    else raiseEv 1516 (sliceCtx m s) m) m

end Sys2Proof.Machine
end

