-- ==== Sys2Proof/Machine/Answers.lean ====
section
/-! DEFINITION. The answers of targets to what coherence slices forwarded: the data goes to the requester, the completion notice to
the slice (R93 to R95, R224, R393). -/

namespace Sys2Proof.Machine

/-- The open transaction of a coherence slice's forward. -/
def findSliced (m : Mach) (tag : Nat) : Option Txn := m.edge.txns.find? fun t => t.egress == 255 && t.tag == tag

/-- The state that the slice granted with a forwarded read, as the NDR of the data: 1 Cmp-S, 2 Cmp-E, 4 granted I. -/
def grantedTo (m : Mach) (t : Txn) : Nat :=
  let mine := fun (q : CohReq) => q.tag == t.tag && q.port == t.port
  let ls := m.coh.tlt.flatMap (·.lines)
  if ls.any fun x => x.rs.any mine then 1
  else if ls.any fun x => x.st == .re && x.req.any mine then 2 else 4

/-- A grant of E to this request waits for its OWN record (R393). -/
def flagged (m : Mach) (t : Txn) : Bool :=
  m.coh.tlt.any fun e => (List.range 4).any fun j =>
    let x := e.lines.getD j TLine.idleLine
    x.st == .re && (x.req.any fun q => q.tag == t.tag && q.port == t.port) && ownWaits m e.place j

/-- Present a slice's data to its requester; `bad` is 1 for poison, 2 for an error. -/
def presentData (t : Txn) (data bad : Nat) (m : Mach) : Mach :=
  let g := grantedTo m t
  let poison := bad != 0
  answerTo t.port t.tag bad data
    (if t.io then .complete t.port t.tag 0 data poison else .coherent t.port t.tag g data poison) (closeLine t.port t.tag m)

/-- CmpN to the slice that forwarded an access, with the data of a read that the slice itself asked for (R196, R224). -/
def cmpnTo (p slice : Nat) (f : Fwd) (bad : Bool) (data : Option Nat) (m : Mach) : Mach :=
  let c := (placeOfAddr m f.addr).c
  let d := data.getD 0
  let s := f.addr / 256
  let j := f.addr / 64 % 4
  let m := if data.isSome then portCount p 2 slice 1 m else m
  (nocPut (if data.isSome then 3 else 2) (endpointOf p) (sliceEnd c) slice f.tag data (.slice (.cmpn c s j f.tag bad d)) m).emit
    (.cmpn c s j f.tag bad d)

/-- FILL to the controller of the line's die, with the atomic that waits for it (R251, R254). One that cannot be sent is dropped. -/
def fillTo (p slice : Nat) (f : Fwd) (r : Response) (m : Mach) : Mach :=
  let d := (hlcPlace m f.addr).1
  let a := f.addr / 64 * 64
  match findPend m (a / 256) (a / 64 % 4) fun y => 5 ≤ y.op with
  | none => m
  | some y =>
    if !nocReach m (ctrlEnd d) then dropFill y m
    else
      let h := { plainHlc a with data := r.data, be := 2 ^ 64 - 1, failed := r.poison }
      let h := match y.op, y.req with
        | 7, some q => { h with
            addr := q.addr, atomic := true, atomCode := q.atomCode, atomSize := q.atomSize, operand := q.operand, compare := q.compare }
        | _, _ => h
      nocPut 3 (endpointOf p) (ctrlEnd d) slice (a / 64) (some r.data) (.home 5 h) (portCount p 2 slice 1 m)

/-- What a port engine does with the answer to an access of a slice, for the slice and for the home line cache (R224, R251, R254). A
forwarded RdI has no CmpN (R228). A fill serves an atomic by its HCMP alone, and a fill-ahead has none. -/
def tellSlice (p slice : Nat) (f : Fwd) (r : Response) (m : Mach) : Mach :=
  let bad := r.status != 0
  let x := m.tline (placeOfAddr m f.addr) (f.addr / 64 % 4)
  let fill := f.kind = 4
  let m := if fill && !bad && !(x.st == .a && r.poison) then fillTo p slice f r m else m
  if isPoison f.tag || isRecall f.tag then cmpnTo p slice f bad none m
  else if fill && (isFill f.tag || x.st == .a) then (if bad || (x.st == .a && r.poison) then cmpnTo p slice f true none m else m)
  else if x.st == .idle then m
  else if x.st == .a && f.kind = 0 then cmpnTo p slice f (bad || r.poison) (some r.data) m
  else cmpnTo p slice f bad none m

/-- The access is for a requester: not one that a slice makes for an atomic at home (R264). -/
def forRequester (m : Mach) (f : Fwd) : Bool := (m.tline (placeOfAddr m f.addr) (f.addr / 64 % 4)).st != .a

/-- A response or an error arrives at port p for an access that a slice forwarded (R94, R224). -/
def sliceAnswered (p tag : Nat) (r : Response) (m : Mach) : Mach :=
  match m.coh.fwds.find? fun f => f.egress == p && f.tag == tag with
  | none => farErrorClosed p m
  | some f =>
    let m := m.updCoh fun x => { x with fwds := x.fwds.erase f }
    serveConflicts <|
    match findSliced m tag with
    | none => tellSlice p 0 f r m
    | some t =>
      let m := if r.status = 0 then m
        else if p < 64 then raiseEv (16 * p + 10) { accessCtx m p t.slice t.addr 5 with gen := t.gen, initId := t.port } m
        else m
      let shown :=
        if !t.read || !forRequester m f then m
        else if flagged m t && !m.coh.early.contains (t.port, t.tag) then
          m.updCoh fun x => { x with heldRsp := x.heldRsp ++ [⟨t.port, t.tag, r.data, r.poison || r.status != 0⟩] }
        else
          let m := m.updCoh fun x => { x with early := x.early.erase (t.port, t.tag) }
          presentData t r.data (if r.status != 0 then 2 else if r.poison then 1 else 0) m
      tellSlice p t.slice f r shown

/-- The link of port p is lost with accesses of slices outstanding there: each ends as an error of the far side (R69, R87, R94). -/
def endForwards (p : Nat) (m : Mach) : Mach :=
  let l := m.coh.fwds.filter (·.egress == p)
  forAll l (fun f m => sliceAnswered p f.tag ⟨1, 0, true⟩ m) m

end Sys2Proof.Machine
end

