-- ==== Sys2Proof/Machine/Symbols.lean ====
section
/-! DEFINITION. Symbols of a lane (R99, R100, R106, R113, R114): rates, Gray coding, the test patterns and their checker, and transmit
coefficients. A lane's bits and symbols of a stretch of time are a number, the first in the lowest place. -/

namespace Sys2Proof.Machine

/-- Bits that a lane carries in a stitch at a rate of R99. -/
def rateBits (rate : Nat) : Nat := [20, 40, 64, 128, 256, 512, 1024].getD rate 0

/-- The modulation is PAM4 (R99). -/
def pam4 (rate : Nat) : Bool := rate == 5 || rate == 6

/-- The lower n bits of a number whose bits alternate 1 and 0 from bit 0. -/
def firstOfPairs (n : Nat) : Nat := (2 ^ (2 * ((n + 1) / 2)) - 1) / 3

/-- Gray coding of n bits in pairs, first bit of a pair high: 0, 1, 3, 2 are the levels 0 to 3 (R100). It is its own inverse. -/
def grayPairs (n v : Nat) : Nat := Nat.xor v (2 * Nat.land v (firstOfPairs n))

/-- The symbols of n bits on the lane, inverted where asked: at a PAM4 rate each pair of bits is a level, high bit first, and inversion
takes level l to 3 - l (R100, R107). -/
def toLine (rate n : Nat) (invert : Bool) (bits : Nat) : Nat :=
  let v := if pam4 rate then grayPairs n bits else bits
  if invert then Nat.xor (v % 2 ^ n) (2 ^ n - 1) else v % 2 ^ n

/-- The bits that symbols on the lane stand for. -/
def fromLine (rate n : Nat) (invert : Bool) (line : Nat) : Nat :=
  let v := if invert then Nat.xor (line % 2 ^ n) (2 ^ n - 1) else line % 2 ^ n
  if pam4 rate then grayPairs n v % 2 ^ n else v

/-- Length of the shift register of a pattern, and the places back that its next bit is the sum of (R113). -/
def patternLength (code : Nat) : Nat := [0, 7, 15, 23, 31, 13].getD code 0
def patternTaps (code : Nat) : List Nat := [[], [7, 6], [15, 14], [23, 18], [31, 28], [13, 12, 2, 1]].getD code []

/-- The bit of a pattern that follows the bits of `past`, the latest in bit 0. -/
def nextBit (code past : Nat) : Nat := ((patternTaps code).map fun t => past / 2 ^ (t - 1)).sum % 2

/-- The latest 31 bits once b has followed. -/
def shiftIn (past b : Nat) : Nat := (2 * past + b) % 2 ^ 31

/-- The next bits of a pattern, and the latest 31 bits after them. -/
def patternBits (code : Nat) : Nat → Nat → Nat × Nat
  | 0, past => (0, past)
  | n + 1, past =>
    let b := nextBit code past
    let r := patternBits code n (shiftIn past b)
    (b + 2 * r.1, r.2)

/-- n bits of a 64-bit word repeated, from bit `phase` of it on. -/
def repeatedBits (word phase n : Nat) : Nat := packFields 1 ((List.range n).map fun i => getBits word ((phase + i) % 64) 1)

/-- What the checker of R114 and R115 holds and counts in a stretch of bits. -/
structure Checker where
  locked : Bool
  past   : Nat     -- the latest 31 bits, as received while it seeks, as expected while it is locked
  run    : Nat     -- bits in a row that have matched
  errs   : Nat     -- bit i: the bit i back was in error
  skip   : Nat     -- bits still to be left out of the count (R118)
  bits   : Nat     -- bits compared
  bad    : Nat     -- bits in error among them
  losses : Nat
  deriving DecidableEq, Repr

/-- One received bit at the checker: it locks after 256 bits in a row that match, and loses lock over more than 256 errors among 1,024
bits (R114). The all-zero register is no state of a pattern. -/
def Checker.take (code : Nat) (x : Checker) (b : Nat) : Checker :=
  let p := nextBit code x.past
  if x.locked then
    let e := if b = p then 0 else 1
    let errs := (2 * x.errs + e) % 2 ^ 1024
    let x := if x.skip = 0 then { x with bits := x.bits + 1, bad := x.bad + e } else { x with skip := x.skip - 1 }
    if 256 < popCount 1024 errs then { x with locked := false, run := 0, errs := 0, past := b, losses := x.losses + 1 }
    else { x with past := shiftIn x.past p, errs := errs }
  else
    let run := if b = p && x.past % 2 ^ patternLength code != 0 then x.run + 1 else 0
    { x with locked := 256 ≤ run, run := if 256 ≤ run then 0 else run, past := shiftIn x.past b, errs := 0 }

/-- n received bits at the checker. -/
def Checker.takeAll (code : Nat) : Nat → Nat → Checker → Checker
  | 0, _, x => x
  | n + 1, v, x => Checker.takeAll code n (v / 2) (x.take code (v % 2))

/-- The alignment detector of R119: ALIGN_STATE and the words that have matched, after one more word. -/
def alignWord (pattern : Nat) (st : Nat × Nat) (w : Nat) : Nat × Nat :=
  if st.1 != 0 then st
  else if w != pattern then (2, st.2)
  else if 16 ≤ st.2 + 1 then (1, 16) else (0, st.2 + 1)

/-- The coefficients of a TX_FIR value satisfy R105. -/
def firOk (v : Nat) : Bool :=
  let pre := byteAt v 0
  let main := byteAt v 1
  let post := byteAt v 2
  pre + main + post == 48 && 16 + pre + post ≤ main && pre ≤ 12 && post ≤ 16

/-- The coefficients that a number names among those that satisfy R105. -/
def legalFir (f : Nat) : Nat :=
  let pre := f % 13
  let post := f / 13 % (17 - pre)
  pre + (48 - pre - post) * 2 ^ 8 + post * 2 ^ 16

/-- The coefficients of a preset 0 to 10: the PCIe Base Specification gives them, and R105 bounds them (log entry 138). -/
def presetFir (k : Nat) : Nat := legalFir (Config.presetFir k)

end Sys2Proof.Machine
end

