-- ==== Sys2Proof/Machine/Links.lean ====
section
/-! DEFINITION. CXL ports and their links (R67 to R75, R86, R87, R520, R521): widths, training, loss, reset, IDE
keys, and the virtual switches and vPPBs that follow a link (R76, R82, R83). -/

namespace Sys2Proof.Machine

/-! ### Positions, lanes and domains of a port (R2) -/

/-- Lanes of port p. -/
def portLanes (m : Mach) (p : Nat) : List Nat := (List.range (4 * positions m p)).map (4 * p + ·)

/-- Lane blocks that hold lanes of port p. -/
def portBlocks (m : Mach) (p : Nat) : List Nat := ((portLanes m p).map laneBlock).eraseDups

/-- Every domain that port p needs is on (R521). -/
def portPowered (m : Mach) (p : Nat) : Bool :=
  m.domOn (portDomain p) && (portBlocks m p).all fun b => m.domOn (blockDomain b)

/-- The port that owns lane n, of the 256 port lanes. -/
def lanePort (m : Mach) (n : Nat) : Nat := (coverer m (n / 4)).getD (n / 4)

/-- Entries of a lane are kept while its block is on (R39). -/
def setLane (n v : Nat) (m : Mach) : Mach :=
  if m.domOn (blockDomain (laneBlock n)) && m.rd (Lane.LANE_MODE n) = 0 then
    let m := if v = 4 then m.wr (Lane.RX_DETECT n) 1 else m
    (m.wr (Lane.LANE_STATE n) v).updLane n fun x => { x with wake := false }
  else m

/-- States of the lanes of port p: the first `n` take v, the others w. -/
def setPortLanes (p n v w : Nat) (m : Mach) : Mach :=
  forAll (portLanes m p) (fun l m => setLane l (if l < 4 * p + n then v else w) m) m

/-- The seam that lane block b serves in the selected mode, and its bit in that seam's masks (R122). -/
def seamOfBlock (m : Mach) (b : Nat) : Option (Nat × Nat) :=
  if b < 32 || 36 ≤ b then none
  else match m.rd Seam.SEAM_MODE with
    | 1 => some (0, b - 32)
    | 2 => some ((b - 32) / 2, (b - 32) % 2)
    | _ => none

/-- Lane n is used, so that its block's PLL runs (R108). -/
def laneUsed (m : Mach) (n : Nat) : Bool :=
  if m.rd (Lane.LANE_MODE n) = 1 then !m.on (Lane.DOZE n)
  else if n < 256 then m.on (Port.ENABLE (lanePort m n)) && m.rd (Lane.LANE_STATE n) != 1
  else match seamOfBlock m (laneBlock n) with
    | some (s, b) => m.on (SeamCfg.SEAM_ENABLE s) && m.bit (SeamCfg.LANE_MASK s) b && m.rd (Lane.LANE_STATE n) != 1
    | none => false

/-- A lane of block b is used. -/
def blockUsed (m : Mach) (b : Nat) : Bool := (List.range 8).any fun i => laneUsed m (8 * b + i)

/-- The PLL of block b stops when no lane is used (R108), and starts again with its reference (R103). A stopped PLL whose lanes are used
again waits for its staged wake (R110). -/
def refreshPll (b : Nat) (m : Mach) : Mach :=
  if !m.domOn (blockDomain b) then m
  else if (Tab.get BlkSt.reset m.lanes.blocks b).fault then m.wr (Blk.PLL_STATE b) 3
  else if !blockUsed m b then m.wr (Blk.PLL_STATE b) 0
  else if m.rd (Blk.PLL_STATE b) = 3 then m.wr (Blk.PLL_STATE b) 1
  else if m.rd (Blk.PLL_STATE b) = 0 then stagePll b m
  else m

/-- The PLL of block b starts with its grant: that of a staged restart (R110), or that of its domain (R473). -/
def startPll (b : Nat) (m : Mach) : Mach :=
  if !m.domOn (blockDomain b) then m
  else if (Tab.get BlkSt.reset m.lanes.blocks b).fault then m.wr (Blk.PLL_STATE b) 3
  else if m.rd (Blk.PLL_STATE b) = 0 && blockUsed m b then m.wr (Blk.PLL_STATE b) 1 else m

/-! ### Virtual switches and vPPBs -/

/-- The enabled virtual switch whose USP is port p. -/
def vcsOfUsp (m : Mach) (p : Nat) : Option Nat :=
  firstBelow 64 fun v => m.on (Vcs.VCS_ENABLE v) && m.rd (Vcs.USP v) == p

/-- VCS_STATE of virtual switch v. -/
def refreshVcs (v : Nat) (m : Mach) : Mach :=
  m.wr (Vcs.VCS_STATE v)
    (if m.on (Vcs.VCS_ENABLE v) then (if m.rd (Vcs.USP v) < 64 && m.linkUp (m.rd (Vcs.USP v)) then 2 else 1) else 0)

/-- Descriptor fields of a vPPB. -/
def vState (d : Nat) : Nat := getBits d 0 2
def vKind (d : Nat) : Nat := getBits d 2 2
def vPort (d : Nat) : Nat := getBits d 4 6
def vLd (d : Nat) : Nat := getBits d 10 4
def vVcs (d : Nat) : Nat := getBits d 28 6

/-- The vPPBs whose descriptor is not 0. -/
def boundVppbs (m : Mach) : List Nat :=
  (m.pb.filter fun e => 0x3C8001 ≤ e.1 && e.1 < 0x3D0000 && 1 ≤ e.1 % 256 && e.1 % 256 ≤ 8).map
    fun e => (e.1 / 256 - 0x3C80) * 8 + e.1 % 256 - 1

/-- The vPPB bound to port p, and to an LD of it where one is named. -/
def vppbOf (m : Mach) (p : Nat) (ld : Option Nat) : Option Nat :=
  (boundVppbs m).find? fun i =>
    let d := m.rd (Vppb.VPPB i)
    vPort d == p && (match ld with
      | none => vKind d == 0
      | some l => vKind d == 1 && vLd d == l)

def updVppb (i : Nat) (f : VppbSt → VppbSt) (m : Mach) : Mach :=
  { m with edge := { m.edge with vppbs := Tab.upd VppbSt.reset m.edge.vppbs i f } }

/-- A vPPB shows its host a change of its presence, its link or its attention indicator, with its hot-plug interrupt where the host
has enabled it (R82). -/
def showVppb (i : Nat) (f : VppbSt → VppbSt) (m : Mach) : Mach :=
  let usp := m.rd (Vcs.USP (vVcs (m.rd (Vppb.VPPB i))))
  let m := updVppb i (fun x => { f x with changed := true }) m
  if (Tab.get VppbSt.reset m.edge.vppbs i).hotplug then sendOn usp 0 (.hotplug usp i) m else m

/-- Link down, or up, is reported on every vPPB bound to port p (R82, R87). To a mode-0 unbind that waits for the host this is not the
host taking the link down (R83, log entry 131). -/
def reportVppbs (p : Nat) (up : Bool) (m : Mach) : Mach :=
  forAll ((boundVppbs m).filter fun i => vPort (m.rd (Vppb.VPPB i)) == p && vState (m.rd (Vppb.VPPB i)) ≥ 2)
    (fun i m => showVppb i (fun x => { x with present := up }) m) m

/-- A bind whose target loses its link is undone (R84). -/
def bindUndo (p : Nat) (m : Mach) : Mach :=
  match m.edge.job with
  | some j =>
    if j.bind && j.port = p then
      let m := (m.wr (Vppb.VPPB j.vppb) 0).wr Bridge.BIND_STATUS 3
      { m.wr Bridge.BIND_RESULT 7 with edge := { m.edge with
          job := none, vppbs := Tab.put VppbSt.reset m.edge.vppbs j.vppb VppbSt.reset } }
    else m
  | none => m

/-! ### Links going down -/

/-- LINK_STATE of port p (R98). -/
def linkState (p : Nat) (m : Mach) : Mach := raiseEv (16 * p) (portCtx p) m

/-- What the port shows of its link while it has none. -/
def clearLink (p : Nat) (m : Mach) : Mach :=
  let m := ((m.wr (PortStat.RATE p) 0).wr (PortStat.WIDTH_NOW p) 0).wr (PortStat.FLIT_NOW p) 0
  (m.wr (PortStat.PARTNER p) 0).wr (PortStat.LD_COUNT p) 0

/-- Every open transaction of port p ends as a link loss, its stamps retire, and what the fabric core holds for it goes
(R69, R87, R91, R182, R298). -/
def endPort (p : Nat) (m : Mach) : Mach :=
  let mine := m.edge.txns.filter fun t => t.port == p || t.egress == p
  let m := endForwards p (endTransactions p m)
  let m := forAll mine (fun t m => retire t.port t.tag m) m
  let m := { m with
    edge := { m.edge with streams := Tab.put none m.edge.streams p none }
    traffic := { m.traffic with
      heldMem := Tab.put [] (Tab.put [] m.traffic.heldMem (2 * p) []) (2 * p + 1) []
      heldIo := Tab.put [] m.traffic.heldIo p [] } }
  let m := m.updPort p fun x => { x with heldIo := [], heldMem := [], heldCache := [], heldOut := [], holding := 0 }
  releaseHolder p (outputLost p (inputLost p m))

/-- The upstream side goes down with the link: the virtual switch's USP, and the caching agent where `dies` (R87, R267). A link is `lost`
in the running stitch; a write that takes it down was accepted in the one before. -/
def uspDown (p : Nat) (dies lost : Bool) (m : Mach) : Mach :=
  let m := match vcsOfUsp m p with
    | some v => refreshVcs v m
    | none => m
  match portAgent m p with
  | some a => if dies then declareDead (if lost then m.now.stitch + 1 else m.now.stitch) a m else m
  | none => m

/-- The link of port p goes down to LTSSM state `to_` (R69, R87, R520, R521): LINK_LOST is raised before anything else where `lost`
is set, LINK_STATE last where `by_` is set. A PLL whose lanes leave deep doze with the link starts again (R108). -/
def linkDown (p to_ : Nat) (lost by_ dies : Bool) (m : Mach) : Mach :=
  let usp := m.rd (Port.ROLE p) == 1
  let m := if lost then raiseEv (16 * p + 1) (portCtx p) m else m
  let m := endPort p m
  let m := bindUndo p m
  let m := (clearLink p m).wr (PortStat.LTSSM p) to_
  let m := forAll (portBlocks m p) refreshPll (setPortLanes p 64 (if to_ = 0 then 0 else 3) 0 m)
  let m := if usp then uspDown p dies lost m else reportVppbs p false m
  if by_ then linkState p m else m

/-- The link is lost in a stitch in which a removal has already taken it down through PERST_N: the loss is evaluated first (R88), so
LINK_LOST is raised, and not the LINK_STATE of a link that was still up. -/
def lossBeforeRemoval (p : Nat) (m : Mach) : Mach :=
  let m := match m.now.raised.find? (·.source == 16 * p) with
    | some r => { m with now := { m.now with raised := m.now.raised.erase r } }
    | none => m
  raiseEv (16 * p + 1) (portCtx p) (m.updPort p fun x => { x with fellAt := none })

/-- LINK_LOST (R87): training begins again at Detect while the port is enabled. -/
def linkLost (p : Nat) (m : Mach) : Mach :=
  if m.linkUp p || m.rd (PortStat.LTSSM p) = 7 then linkDown p (if m.on (Port.ENABLE p) then 1 else 0) true false true m
  else if (m.port p).fellAt = some m.now.stitch then lossBeforeRemoval p m
  else m

/-! ### PERST_N (R85, R86) -/

/-- The entry that holds PERST of port p's group: that of the group's lowest port. -/
def perstKey (p : Nat) : Nat := PortCtl.PERST (p / 4 * 4)

/-- The lowest enabled downstream port of group g. -/
def lowestDown (m : Mach) (g : Nat) : Option Nat :=
  ((List.range 4).map (4 * g + ·)).find? fun p => m.on (Port.ENABLE p) && m.rd (Port.ROLE p) == 0

/-- Slot t is power-good (R419). -/
def powerGood (m : Mach) (t : Nat) : Bool := m.bit (Slot.INPUTS t) 5

/-- PERST_N of group g is asserted (R85, R86). -/
def perstPin (m : Mach) (g : Nat) : Bool :=
  m.on (perstKey (4 * g)) || !m.domOn (38 + g) || (List.range 4).any (fun i => Tab.get false m.edge.perst (4 * g + i)) ||
  (match lowestDown m g with
   | some p => m.rd (PortCtl.SLOT p) < 32 && !powerGood m (m.rd (PortCtl.SLOT p))
   | none => false)

/-- PERST_N of group g has become asserted: the devices behind its downstream ports are in reset, and the ports wait in
Detect. -/
def perstAsserted (g : Nat) (m : Mach) : Mach :=
  forAll ((List.range 4).map (4 * g + ·)) (fun p m =>
    if m.rd (Port.ROLE p) = 0 && (m.linkUp p || m.rd (PortStat.LTSSM p) = 7) then
      (linkDown p 1 false (m.linkUp p) false m).updPort p fun x => { x with fellAt := some m.now.stitch }
    else m) m

/-- Something that PERST_N of group g follows has changed. -/
def perstChange (g : Nat) (f : Mach → Mach) (m : Mach) : Mach :=
  let was := perstPin m g
  let m := f m
  if !was && perstPin m g then perstAsserted g m else m

/-- A write of PERST (R86). -/
def perstRequest (p : Nat) (v : Bool) (m : Mach) : Mach :=
  perstChange (p / 4) (fun m => m.wr (perstKey p) (if v then 1 else 0)) m

/-- 100 ms after the power-good of port p's slot its hold of PERST_N ends (R85). -/
def perstHoldExpiry (p : Nat) (m : Mach) : Mach :=
  if m.waited (waitPerst p) (msStitches 100) then { m with edge := { m.edge with perst := Tab.put false m.edge.perst p false } } else m

/-! ### Enabling a port (R67, R69, R102, R111) -/

/-- Why ENABLE 1 fails. -/
def portEnableCheck (p : Nat) (m : Mach) : Option Status :=
  if m.on (Port.ENABLE p) then none
  else
    let n := 2 ^ m.rd (Port.WIDTH p)
    let lanes := (List.range (4 * n)).map (4 * p + ·)
    if (coverer m p).isSome then some .state
    else if (List.range n).any fun k => k != 0 && m.on (Port.ENABLE (p + k)) then some .state
    else if n = 4 && m.rd (Blk.CLK_MODE (laneBlock (4 * p))) != m.rd (Blk.CLK_MODE (laneBlock (4 * p + 8))) then some .state
    else if lanes.any fun l => m.rd (Lane.LANE_MODE l) == 1 then some .state
    else none

/-- ENABLE goes from 0 to 1: the width is applied and training begins at Detect. PERST_N of the group may follow (R86). -/
def portEnable (p : Nat) (m : Mach) : Mach :=
  if m.on (Port.ENABLE p) then m
  else perstChange (p / 4) (fun m =>
    let m := m.wr (Port.ENABLE p) 1
    let m := m.updPort p fun x => { x with applied := m.rd (Port.WIDTH p), resting := false, errDomain := false }
    if portPowered m p then
      let m := setPortLanes p 64 3 3 (m.wr (PortStat.LTSSM p) 1)
      forAll (portBlocks m p) refreshPll m
    else m.updPort p fun x => { x with errDomain := true }) m

/-- ENABLE goes from 1 to 0 (R69). -/
def portDisable (p : Nat) (m : Mach) : Mach :=
  if !m.on (Port.ENABLE p) then m
  else perstChange (p / 4) (fun m =>
    let m := linkDown p 0 false (m.linkUp p) true m
    let bs := portBlocks m p
    let m := (m.wr (Port.ENABLE p) 0).updPort p fun x => { x with resting := false, errDomain := false }
    forAll bs refreshPll m) m

/-- Why a write of LINK_CTRL fails (R520). -/
def linkCtrlCheck (p v : Nat) (m : Mach) : Option Status :=
  if !m.on (Port.ENABLE p) then some .state
  else if v = 1 && m.rd (PortStat.LTSSM p) = 0 then some .state
  else none

/-- LINK_CTRL 1: a link in L0 or L1 retrains (R520). -/
def linkRetrain (p : Nat) (m : Mach) : Mach :=
  let l := m.rd (PortStat.LTSSM p)
  if l = 4 || l = 6 then m.wr (PortStat.LTSSM p) 5 else m

/-- LINK_CTRL 2: a hot reset is sent on a link that is up. On any other link the write is accepted and does nothing: R520 says nothing
of it (log entry 132). -/
def linkHotReset (p : Nat) (m : Mach) : Mach :=
  if m.linkUp p then linkDown p 7 false true false m else m

/-- LINK_CTRL 3 (R520). -/
def linkDisable (p : Nat) (m : Mach) : Mach :=
  if m.rd (PortStat.LTSSM p) = 0 then m
  else (linkDown p 0 false true true m).updPort p fun x => { x with resting := false }

/-- LINK_CTRL 4 (R520). -/
def linkEnable (p : Nat) (m : Mach) : Mach :=
  let x := m.port p
  if m.rd (PortStat.LTSSM p) = 0 && portPowered m p then
    setPortLanes p 64 3 3 ((m.wr (PortStat.LTSSM p) 1).updPort p fun x => { x with resting := false, errDomain := false })
  else if x.resting then m.updPort p fun x => { x with resting := false }
  else m

/-- A domain of port p goes off or is reset (R521): as LINK_CTRL 3, and the port trains once every domain it needs is on. -/
def portDomainOff (p : Nat) (m : Mach) : Mach :=
  if m.on (Port.ENABLE p) then (linkDisable p m).updPort p fun x => { x with errDomain := true, resting := false } else m

/-- A domain of port p is on again (R521). -/
def portDomainOn (p : Nat) (m : Mach) : Mach :=
  if m.on (Port.ENABLE p) && (m.port p).errDomain && portPowered m p then
    let m := setPortLanes p 64 3 3 (m.wr (PortStat.LTSSM p) 1)
    forAll (portBlocks m p) refreshPll (m.updPort p fun x => { x with errDomain := false })
  else m

/-! ### Equalisation (R105, R106) -/

/-- The transmit coefficients of lane n change. -/
def setFir (n v : Nat) (m : Mach) : Mach := m.updLane n fun x => { x with fir := v }

/-- A request of the partner in equalisation is accepted, or refused where its coefficients break R105. -/
def eqRequest (p : Nat) (r : EqReq) (m : Mach) : Mach :=
  let n := 4 * p + r.lane
  let v := match r.preset with
    | some k => presetFir k
    | none => r.fir
  if firOk v then (setFir n v m).emit (.equalised n true v) else m.emit (.equalised n false (m.lane n).fir)

/-- The transmitters of port p at a rate: from 8 GT/s on they begin from EQ_PRESET and follow the partner's requests; at 2.5 and 5 GT/s
they use the de-emphasis that training selects, which is open. -/
def equalise (p rate : Nat) (reqs : List EqReq) (m : Mach) : Mach :=
  if 2 ≤ rate then
    let m := forAll (portLanes m p) (fun n m => setFir n (presetFir (m.rd (Lane.EQ_PRESET n))) m) m
    forAll (reqs.filter fun r => r.lane < (portLanes m p).length) (eqRequest p) m
  else forAll (portLanes m p) (fun n m => let (f, m) := m.fresh; setFir n (legalFir f) m) m

/-! ### Training (R70 to R72, R85, R99) -/

/-- Modes that R70 permits for the port's role and FLIT_MODE allows, as bits of `Trained.modes`. -/
def offeredModes (m : Mach) (p : Nat) : Nat :=
  let role := if m.rd (Port.ROLE p) = 1 then 3 else 15
  Nat.land role ([15, 1, 2, 4].getD (m.rd (Port.FLIT_MODE p)) 0)

/-- The mode that training takes among those both ends offer: latency-optimised 256B is preferred; as FLIT_NOW. -/
def commonMode (modes : Nat) : Option Nat :=
  if bitAt modes 1 then some 2 else if bitAt modes 0 then some 1 else if bitAt modes 2 then some 3
  else if bitAt modes 3 then some 4 else none

/-- Lanes of a link: the largest power of two within what is offered and what the port has. -/
def linkLanes (have_ offered : Nat) : Nat :=
  ([16, 8, 4, 2, 1].find? fun n => n ≤ have_ && n ≤ offered).getD 1

/-- Training of port p can end: it is in progress, its PLLs are locked and its partner is out of reset. -/
def trains (m : Mach) (p : Nat) : Bool :=
  let l := m.rd (PortStat.LTSSM p)
  m.on (Port.ENABLE p) && portPowered m p && (l == 1 || l == 2 || l == 3 || l == 5 || l == 7) && !(m.port p).resting &&
  (portBlocks m p).all (fun b => m.rd (Blk.PLL_STATE b) == 2) && !(m.rd (Port.ROLE p) == 0 && perstPin m (p / 4)) &&
  m.rd Col.FATAL_STATE == 0 && m.rd Twin.TWIN_STATE != 6

/-- Training ends (R71, R85, R520). -/
def trainingDone (p : Nat) (t : Trained) (m : Mach) : Mach :=
  if !trains m p then m
  else
    let again := m.rd (PortStat.LTSSM p) == 5
    match commonMode (Nat.land (offeredModes m p) t.modes) with
    | none =>
      let m := if again then linkDown p 1 false false true m else m
      linkState p ((m.wr (PortStat.LTSSM p) 1).updPort p fun x => { x with resting := true })
    | some mode =>
      let rate := min (min t.rate (m.rd (Port.MAX_RATE p))) (if mode ≥ 3 then 4 else 6)
      let lanes := linkLanes (4 * positions m p) t.lanes
      let same := again && m.rd (PortStat.RATE p) = rate && m.rd (PortStat.WIDTH_NOW p) = lanes
      let m := ((m.wr (PortStat.LTSSM p) 4).wr (PortStat.RATE p) rate).wr (PortStat.WIDTH_NOW p) lanes
      let m := ((m.wr (PortStat.FLIT_NOW p) mode).wr (PortStat.PRESENT p) 1).wr (PortStat.PARTNER p) t.partner
      let m := m.wr (PortStat.LD_COUNT p) (if t.partner = 5 then min 16 t.lds else 0)
      let m := equalise p rate t.eq (setPortLanes p lanes 4 3 (m.updPort p fun x => { x with full := lanes }))
      let m := match vcsOfUsp m p with
        | some v => refreshVcs v m
        | none => m
      let m := if again then m else reportVppbs p true m
      if same then m else linkState p m

/-- A width change under L0p, in halving steps, down to L0P_MIN (R73). -/
def l0pChange (p lanes : Nat) (m : Mach) : Mach :=
  let now := m.rd (PortStat.WIDTH_NOW p)
  let lo := m.rd (Port.L0P_MIN p)
  let flit := m.rd (PortStat.FLIT_NOW p)
  if m.rd (PortStat.LTSSM p) = 4 && 1 ≤ lo && (flit = 1 || flit = 2) && (2 * lanes = now || lanes = 2 * now) &&
     2 ^ (lo - 1) ≤ lanes && lanes ≤ (m.port p).full then
    linkState p (setPortLanes p lanes 4 3 (m.wr (PortStat.WIDTH_NOW p) lanes))
  else m

/-- A partner appears at a port or leaves it: a port that rests trains once more (R71, R85). A port with a slot takes presence from it,
and a covered port is absent (R2). -/
def receiverDetection (p : Nat) (present : Bool) (m : Mach) : Mach :=
  if m.rd (PortCtl.SLOT p) < 32 || m.on (PortStat.PRESENT p) = present || (coverer m p).isSome then m
  else raiseEv (16 * p + 6) (portCtx p)
    ((m.updPort p fun x => { x with resting := false }).wr (PortStat.PRESENT p) (if present then 1 else 0))

/-- Presence on a slot changes: the tied port, unless it is covered, raises HOTPLUG and trains once more from Detect (R71, R85). -/
def slotHotplug (t : Nat) (present : Option Bool) (m : Mach) : Mach :=
  forAll ((List.range 64).filter fun p => m.rd (PortCtl.SLOT p) == t && (coverer m p).isNone) (fun p m =>
    let m := match present with
      | some b => (m.wr (PortStat.PRESENT p) (if b then 1 else 0)).updPort p fun x => { x with resting := false }
      | none => m
    raiseEv (16 * p + 6) (portCtx p) m) m

/-! ### The translation table (R89, R96) -/

/-- Entry e of the translation table. -/
def xlate (m : Mach) (e : Nat) : Nat := m.words Xlate.XLATE (2 * e) 2
def putXlate (e v : Nat) (m : Mach) : Mach := m.putWords Xlate.XLATE (2 * e) v 2

/-- Valid entries, ascending. -/
def xlateValid (m : Mach) : List Nat :=
  let lo := wordKey Xlate.XLATE 0
  (m.ram.filter fun x => lo ≤ x.1 && x.1 < lo + 8192 && (x.1 - lo) % 2 == 0 && x.2 % 2 == 1).map fun x => (x.1 - lo) / 2

def xSys (x : Nat) : Bool := bitAt x 1
def xDir (x : Nat) : Nat := getBits x 2 2
def xVcs (x : Nat) : Nat := getBits x 8 6
def xKey (x : Nat) : Nat := getBits x 16 16
def xPort (x : Nat) : Nat := getBits x 48 6
def xLd (x : Nat) : Option Nat := if bitAt x 58 then some (getBits x 54 4) else none

/-- The entry with a key (R89). -/
def xlateFind (m : Mach) (dir vcs key : Nat) : Option Nat :=
  ((xlateValid m).map (xlate m)).find? fun x => xDir x == dir && xVcs x == vcs && xKey x == key

/-- A valid entry with SYS set. -/
def sysEntry (dir vcs key pbr port : Nat) (ld : Option Nat) : Nat :=
  3 + dir * 4 + vcs * 2 ^ 8 + key * 2 ^ 16 + pbr * 2 ^ 32 + port * 2 ^ 48 +
  (match ld with
   | some l => l * 2 ^ 54 + 2 ^ 58
   | none => 0)

/-- Write an entry to the lowest invalid place; none where the table is full. -/
def addXlate (v : Nat) (m : Mach) : Option Mach :=
  let used := xlateValid m
  match firstBelow 4096 fun e => !used.contains e with
  | some e => some (putXlate e v m)
  | none => none

/-- Remove the SYS entries that satisfy a test. -/
def dropSys (test : Nat → Bool) (m : Mach) : Mach :=
  forAll ((xlateValid m).filter fun e => xSys (xlate m e) && test (xlate m e)) (fun e m => putXlate e 0 m) m

/-- PBR ID of a port, or of an LD of it. -/
def pbrOf (m : Mach) (p : Nat) (ld : Option Nat) : Nat := m.rd (Port.PBR_BASE p) + ld.getD 0

/-- A host resets an upstream port in band (R86): the link goes through Hot Reset, and the configuration that the host wrote
is gone. -/
def inBandReset (p : Nat) (m : Mach) : Mach :=
  if m.rd (Port.ROLE p) = 1 && m.linkUp p then
    let m := linkDown p 7 false true false m
    let m := m.updPort p fun x => { x with busMaster := false }
    match vcsOfUsp m p with
    | some v =>
      let m := dropSys (fun x => xDir x == 0 && xVcs x == v) m
      forAll ((boundVppbs m).filter fun i => vVcs (m.rd (Vppb.VPPB i)) == v) (updVppb · fun x => { x with bus := none }) m
    | none => m
  else m

/-! ### IDE (R74, R75) -/

/-- KEY_GO loads KEY and IV into the stream of KEY_SEL (R74). For a transmit key the switch sends the key refresh indication, and the key
is in use from the next flit boundary; a receive key is in use from the first flit that carries the new key set indication. -/
def keyLoad (p : Nat) (m : Mach) : Mach :=
  let k := m.rd (PortIde.KEY_SEL p)
  let v := m.rd (PortIde.KEY p) + m.rd (PortIde.IV p) * 2 ^ 256
  let m := m.updPort p fun x => { x with
    loaded := Tab.put 0 x.loaded k v
    txDue := if k % 2 = 1 then x.txDue ++ [k] else x.txDue }
  let m := if k % 2 = 1 then m.emit (.keyRefresh p k) else m
  ideKey p (m.wr (PortIde.IDE_STATE p) (setBit (m.rd (PortIde.IDE_STATE p)) k true))

/-- Transmit keys that wait are in use from the flit boundary that a stitch brings (R74, log entry 133). -/
def keysBegin (m : Mach) : Mach :=
  forAll ((m.edge.ports.filter fun e => !e.2.txDue.isEmpty).map (·.1)) (fun p m =>
    m.updPort p fun x => { x with
      inUse := x.txDue.foldl (fun t k => Tab.put 0 t k (Tab.get 0 x.loaded k)) x.inUse
      txDue := [] }) m

/-- A flit with an uncorrectable error after which the port retrains: it enters Recovery and raises LINK_UNCORR (R98). -/
def flitRetrain (p : Nat) (m : Mach) : Mach := raiseEv (16 * p + 3) (portCtx p) (m.wr (PortStat.LTSSM p) 5)

/-- The verdict of a flit that arrives (R28, R74, R75, R181): whether what it carries is released. -/
def flitVerdict (f : Flit) (m : Mach) : Bool × Mach :=
  let p := f.port
  if !m.linkUp p || !m.domOn (portDomain p) then (false, m)
  else
    let m := if f.corrected = 0 then m
      else occur (16 * p + 2) f.corrected none (portCtx p) (portCount p 8 65535 f.corrected (m.bump (PortErr.CORR p) f.corrected))
    let kind := if f.proto = 0 then 0 else 1
    let ide := m.on (if kind = 0 then PortIde.IO_IDE p else PortIde.CM_IDE p)
    if !f.fecOk || !f.crcOk then
      let m := portCount p 9 65535 1 (m.bump (PortErr.REPLAYS p) 1)
      (false, if f.retrain then flitRetrain p m else m)
    else if ide && ideBlocked m p kind then (true, ideHold p kind (portCount p 0 65535 1 m))
    else
      let rx := 2 * kind
      let m := if ide && f.newKeySet then
          m.updPort p fun x => { x with inUse := Tab.put 0 x.inUse rx (Tab.get 0 x.loaded rx) }
        else m
      if ide && !f.macOk then (false, raiseEv (16 * p + 4) (portCtx p) (m.bump (PortIde.MAC_FAIL p) 1))
      else
        let m := portCount p 0 65535 1 m
        match Tab.get none m.core.discard p with
        | none => (true, m)
        | some _ =>
          let before := f.swatches.takeWhile fun s => !s.1
          let m := countDiscard p before.length m
          (true, if f.swatches.any (·.1) then m.updCore fun c => { c with discard := Tab.put none c.discard p none } else m)

/-! ### Enabling a virtual switch (R76) -/

/-- The vPPB range of virtual switch v. -/
def vppbRange (m : Mach) (v : Nat) : Nat × Nat := (m.rd (Vcs.VPPB_FIRST v), m.rd (Vcs.VPPB_FIRST v) + m.rd (Vcs.VPPB_COUNT v))

/-- The vPPB lies in the range of virtual switch v. -/
def inVcs (m : Mach) (v i : Nat) : Bool := (vppbRange m v).1 ≤ i && i < (vppbRange m v).2

/-- Why VCS_ENABLE 1 fails. -/
def vcsEnableCheck (v : Nat) (m : Mach) : Option Status :=
  if m.on (Vcs.VCS_ENABLE v) then none
  else
    let u := m.rd (Vcs.USP v)
    let r := vppbRange m v
    let others := (List.range 64).filter fun w => w != v && m.on (Vcs.VCS_ENABLE w)
    if m.rd (Vcs.VPPB_COUNT v) = 0 || r.2 > 1024 then some .state
    else if u ≥ 64 || (coverer m u).isSome || m.rd (Port.ROLE u) != 1 then some .state
    else if others.any fun w => m.rd (Vcs.USP w) == u || (r.1 < (vppbRange m w).2 && (vppbRange m w).1 < r.2) then some .state
    else none

def vcsEnable (v : Nat) (m : Mach) : Mach := refreshVcs v (m.wr (Vcs.VCS_ENABLE v) 1)

/-- VCS_ENABLE 0: the virtual switch's vPPBs keep their bindings until they are unbound. -/
def vcsDisable (v : Nat) (m : Mach) : Mach := refreshVcs v (m.wr (Vcs.VCS_ENABLE v) 0)

end Sys2Proof.Machine
end

