-- ==== Sys2Proof/Machine/Binding.lean ====
section
/-! DEFINITION. The bind engine (R80 to R84). -/

namespace Sys2Proof.Machine

/-- Record the running request. -/
def putJob (j : Option BindJob) (m : Mach) : Mach := { m with edge := { m.edge with job := j } }

/-- The request ends with BIND_STATUS and BIND_RESULT. -/
def bindResult (status code : Nat) (m : Mach) : Mach :=
  putJob none ((m.wr Bridge.BIND_STATUS status).wr Bridge.BIND_RESULT code)

/-- The first condition that a bind breaks (R81). -/
def bindCheck (v i p : Nat) (ld : Option Nat) (m : Mach) : Option Status :=
  let onPort := (boundVppbs m).filter fun k => vPort (m.rd (Vppb.VPPB k)) == p
  if !m.on (Vcs.VCS_ENABLE v) || !inVcs m v i then some .range
  else if m.rd (Vppb.VPPB i) != 0 then some .state
  else if !m.on (Port.ENABLE p) || m.rd (Port.ROLE p) != 0 || m.rd (PortStat.LTSSM p) != 4 || m.rd (PortStat.PARTNER p) = 6
  then some .state
  else
    match ld with
    | none => if m.rd (PortStat.PARTNER p) = 5 || !onPort.isEmpty then some .state else none
    | some l =>
      if m.rd (PortStat.PARTNER p) != 5 || l ≥ m.rd (PortStat.LD_COUNT p) || (vppbOf m p (some l)).isSome then some .state
      else none

/-- Descriptor of a vPPB. -/
def vppbDesc (m : Mach) (state v p : Nat) (ld : Option Nat) : Nat :=
  state + (if ld.isSome then 4 else 0) + p * 2 ^ 4 + ld.getD 0 * 2 ^ 10 + pbrOf m p ld * 2 ^ 16 + v * 2 ^ 28

/-- An accepted bind request (R81, R82 step 1). -/
def bindStart (v i p : Nat) (ld : Option Nat) (m : Mach) : Mach :=
  match bindCheck v i p ld m with
  | some st => bindResult 3 st.code m
  | none =>
    putJob (some ⟨true, v, i, p, ld, 0, false⟩)
      ((m.wr Bridge.BIND_STATUS 1).wr (Vppb.VPPB i) (vppbDesc m 1 v p ld))

/-- Steps 2 to 4 of a bind (R82). A table with no invalid entry, or with an entry of the same key, leaves no place for the
entry, and the bind is undone. -/
def bindFinish (j : BindJob) (m : Mach) : Mach :=
  let pbr := pbrOf m j.port j.ld
  let usp := m.rd (Vcs.USP j.vcs)
  let taken := (xlateFind m 1 j.vcs pbr).isSome
  match (if taken then none else addXlate (sysEntry 1 j.vcs pbr (m.rd (Port.PBR_BASE usp)) usp none) m) with
  | none => bindUndo j.port m
  | some m =>
    let m := showVppb j.vppb (fun x => { x with present := true }) m
    let m := m.wr (Vppb.VPPB j.vppb) (vppbDesc m 2 j.vcs j.port j.ld)
    bindResult 2 0 (raiseEv (16 * j.port + 7) (portCtx j.port) m)

/-- The bind engine takes its next step at the stitch strobe. -/
def bindStitch (m : Mach) : Mach :=
  match m.edge.job with
  | some j => if j.bind then bindFinish j m else m
  | none => m

/-- Unbind in mode 2, or the host's link down: new traffic is refused and the drain begins (R83 step 3). -/
def unbindDrain (j : BindJob) (m : Mach) : Mach :=
  putJob (some { j with drain := true }) (showVppb j.vppb (fun x => { x with present := false, attn := false }) m)

/-- Why an unbind fails. -/
def unbindCheck (v i : Nat) (m : Mach) : Option Status :=
  if !m.on (Vcs.VCS_ENABLE v) || !inVcs m v i then some .range
  else if vState (m.rd (Vppb.VPPB i)) != 2 then some .state
  else none

/-- An accepted unbind request (R83 steps 1 and 2). -/
def unbindStart (v i mode : Nat) (m : Mach) : Mach :=
  match m.edge.job with
  | some j => if j.drain then m else unbindDrain { j with mode := 2 } m
  | none =>
    match unbindCheck v i m with
    | some st => bindResult 3 st.code m
    | none =>
      let d := m.rd (Vppb.VPPB i)
      let j : BindJob := ⟨false, v, i, vPort d, if vKind d = 1 then some (vLd d) else none, mode, false⟩
      let m := (m.wr (Vppb.VPPB i) (setBits d 0 2 3)).wr Bridge.BIND_STATUS 1
      match mode with
      | 0 => putJob (some j) m
      | 1 => putJob (some j) (showVppb i (fun x => { x with attn := true }) (m.beginWait waitRemoval))
      | _ => unbindDrain j m

/-- Why a write of BIND_REQ fails (R80, R83): only an unbind in mode 2 interrupts one in mode 0 for the same vPPB. -/
def bindReqCheck (op i mode : Nat) (m : Mach) : Option Status :=
  if op = 0 || op > 2 || (op = 2 && mode > 2) then some .range
  else if m.rd Bridge.BIND_STATUS = 1 then
    match m.edge.job with
    | some j => if !j.bind && j.mode = 0 && op = 2 && mode = 2 && j.vppb = i then none else some .busy
    | none => some .busy
  else none

/-- A write of BIND_REQ (the BIND_REQ layout). -/
def bindReq (v : Nat) (m : Mach) : Mach :=
  if getBits v 0 8 = 1 then
    bindStart (getBits v 8 6) (getBits v 16 10) (getBits v 32 6) (if bitAt v 42 then some (getBits v 38 4) else none) m
  else unbindStart (getBits v 8 6) (getBits v 16 10) (getBits v 43 2) m

/-- The value of BIND_REQ that a bind or unbind writes. -/
def bindValue (op v i p ld : Nat) (ldValid : Bool) (mode : Nat) : Nat :=
  op + v % 64 * 2 ^ 8 + i % 1024 * 2 ^ 16 + p % 64 * 2 ^ 32 + ld % 16 * 2 ^ 38 + (if ldValid then 2 ^ 42 else 0) +
    mode % 4 * 2 ^ 43

/-- The host takes a vPPB's link down: a waiting unbind of it goes on (R83 step 2). -/
def vppbLinkDown (i : Nat) (m : Mach) : Mach :=
  let m := updVppb i (fun x => { x with present := false }) m
  match m.edge.job with
  | some j => if !j.bind && j.vppb = i && !j.drain then unbindDrain j m else m
  | none => m

/-- A managed removal has waited CPL_TIMEOUT_US (R83 step 2). -/
def unbindRemovalTimeout (m : Mach) : Mach :=
  match m.edge.job with
  | some j =>
    if !j.bind && j.mode = 1 && !j.drain && m.waited waitRemoval (usStitches (m.rd (Port.CPL_TIMEOUT_US j.port))) then unbindDrain j m else m
  | none => m

/-- A transaction between the virtual switch and the target of an unbind is open (R83 step 3). -/
def unbindBusy (m : Mach) (j : BindJob) : Bool :=
  let usp := m.rd (Vcs.USP j.vcs)
  (m.edge.txns ++ (allWaiting m).map (waitTxn m)).any fun t => t.io &&
    ((t.egress == j.port && t.ld == j.ld && t.port == usp) || (t.port == j.port && t.rld == j.ld && t.egress == usp))

/-- Every open transaction of an unbinding vPPB has closed (R83 steps 4 and 5). -/
def unbindDrainDone (m : Mach) : Mach :=
  match m.edge.job with
  | some j =>
    if j.bind || !j.drain || unbindBusy m j then m
    else
      let pbr := pbrOf m j.port j.ld
      let m := dropSys (fun x => xVcs x == j.vcs &&
        ((xDir x == 1 && xKey x == pbr) || (xDir x == 0 && xPort x == j.port && xLd x == j.ld))) m
      let m := { m.wr (Vppb.VPPB j.vppb) 0 with edge := { m.edge with
        vppbs := Tab.put VppbSt.reset m.edge.vppbs j.vppb VppbSt.reset } }
      bindResult 2 0 (raiseEv (16 * j.port + 7) (portCtx j.port) m)
  | none => m

/-- The host writes a bound vPPB's secondary bus number: the entry of the former number goes, that of the new one is written
for device 0, function 0 (R82 step 5). -/
def secondaryBusWrite (i bus : Nat) (m : Mach) : Mach :=
  let d := m.rd (Vppb.VPPB i)
  if vState d != 2 then m
  else
    let ld := if vKind d = 1 then some (vLd d) else none
    let p := vPort d
    let v := vVcs d
    let m := dropSys (fun x => xDir x == 0 && xVcs x == v && xPort x == p && xLd x == ld) m
    let m := updVppb i (fun x => { x with bus := some bus }) m
    if (xlateFind m 0 v (bus * 256)).isSome then m
    else (addXlate (sysEntry 0 v (bus * 256) (pbrOf m p ld) p ld) m).getD m

/-- The traffic of a virtual switch with a target is refused while its unbind drains (R83 step 3). -/
def unbinding (m : Mach) (v p : Nat) (ld : Option Nat) : Bool :=
  match m.edge.job with
  | some j => !j.bind && j.drain && j.vcs == v && j.port == p && j.ld == ld
  | none => false

end Sys2Proof.Machine
end

