-- ==== Sys2Proof/Machine/Mirror.lean ====
section
/-! DEFINITION. The mirror: records on their way to the peer, and what their confirmation releases (R389, R392, R393, R395); and
what a seam and the heartbeats tell the twin (R387, R396, R399, R401). -/

namespace Sys2Proof.Machine

/-- The 16 B of a mirror record (mirror record table). -/
def recordBits (r : MirrorRec) : Nat :=
  r.ty % 2 ^ 4 + r.lines % 2 ^ 4 * 2 ^ 4 + r.newState % 2 * 2 ^ 8 + r.home % 2 * 2 ^ 9 + r.agent % 2 ^ 6 * 2 ^ 10 +
  r.slot % 2 ^ 23 * 2 ^ 16 + r.tag % 2 ^ 19 * 2 ^ 39 + r.slice % 2 ^ 12 * 2 ^ 58 + r.ce % 4 * 2 ^ 70

/-- The places of a record: an IMAGE is followed by its entry. -/
def recordPlaces (r : MirrorRec) : List Nat := if r.ty = 6 then [recordBits r, r.entry % 2 ^ 128] else [recordBits r]

/-- Records packed into swatches of four places, none spanning two (R389): those of the first swatch, and the rest. -/
def packOne : Nat → List MirPlace → List MirPlace × List MirPlace
  | _, [] => ([], [])
  | room, x :: xs =>
    let w := (recordPlaces x.record).length
    if w ≤ room then
      let (a, b) := packOne (room - w) xs
      (x :: a, b)
    else ([], x :: xs)

/-- A mirror swatch: SLICE 0, class 0, SOP and EOP set (R154, R190). -/
def mirrorSwatch (s vc : Nat) (l : List MirPlace) : SeamSw :=
  let data := packFields 128 (l.flatMap fun x => recordPlaces x.record)
  let head := (65 + s) * 2 ^ 18 + 2 ^ 25 + 2 ^ 26 + 15 * 2 ^ 28
  ⟨vc, false, data + head * 2 ^ 512 + crc32c (toBytes 64 data ++ toBytes 4 head) * 2 ^ 544⟩

/-- Hand slice c's unsent records to seam s. -/
def sendRecords : Nat → Nat → Nat → Mach → Mach
  | 0, _, _, m => m
  | n + 1, c, s, m =>
    match packOne 4 ((Tab.get [] m.coh.mq c).filter fun x => x.swatch.isNone) with
    | ([], _) => m
    | (l, _) =>
      let k := Tab.get 0 m.coh.mirSent s
      let m := m.updCore fun x => { x with
        seamTx := Tab.upd [] x.seamTx s (· ++ [mirrorSwatch s (seamVcOf m s 4) l]) }
      let m := m.updCoh fun x => { x with
        mirSent := Tab.put 0 x.mirSent s (k + 1)
        mq := Tab.upd [] x.mq c (·.map fun y => if l.contains y then { y with swatch := some (s, k) } else y) }
      sendRecords n c s m

/-- Each slice presents its queued records to the seam (R389, R395). -/
def mirrorStitch (m : Mach) : Mach :=
  forAll (List.range 4) (fun c m =>
    match peerSeam m c with
    | some s => sendRecords 64 c s m
    | none => m) m

/-- Records in flight on seam s are to be sent again, and its numbering starts anew (R395). -/
def mirrorRestart (s : Nat) (m : Mach) : Mach :=
  let m := m.updCoh fun x => { x with
    mirSent := Tab.put 0 x.mirSent s 0
    mq := Tab.mapAll [] (·.map fun y => if y.swatch.any (·.1 == s) then { y with swatch := none } else y) x.mq }
  m.updSeam s fun x => { x with mirDone := 0 }

/-- Every OWN record that was confirmed lets its line go on (R392, R393): a grant that only waited is presented, and a flagged
read's port engine gets its release notice. -/
def releaseOwn (p : Place) (j : Nat) (m : Mach) : Mach :=
  let x := m.tline p j
  if x.own.isNone || ownWaits m p j then m
  else
    let m := updLine p j (fun x => { x with own := none }) m
    match x.st, x.req with
    | .re, some q =>
      let m := if x.data then
          (nocPut 2 (sliceEnd p.c) (endpointOf q.port) q.slice q.tag none (.release q.port q.tag) m).emit (.release q.port q.tag)
        else m
      if x.grantE then grantE p j q (!x.data) m else m
    | _, _ => m

/-- What waited for the records that left the queues goes on. -/
def afterConfirm (m : Mach) : Mach :=
  let ps := m.coh.tlt.map Tlt.place
  let m := forAll ps (fun p m => forAll (List.range 4) (releaseOwn p) m) m
  let m := forAll ps afterSector m
  let waiting := m.coh.deferred
  forAll waiting cohTake (m.updCoh fun x => { x with deferred := [] })

/-- CREDIT_RET covers n more mirror swatches of seam s: their records are confirmed (R392). -/
def mirrorConfirm (s n : Nat) (m : Mach) : Mach :=
  if n = 0 then m
  else
    let upTo := (m.seam s).mirDone + n
    let m := m.updSeam s fun x => { x with mirDone := upTo }
    let m := m.updCoh fun x => { x with
      mq := Tab.mapAll [] (·.filter fun y => !(y.swatch.any fun z => z.1 == s && z.2 < upTo)) x.mq }
    drainWork 64 (afterConfirm m)

/-- Grants that wait for the confirmation of their OWN (0x7002.06). -/
def waitingGrants (m : Mach) : Nat :=
  (m.coh.tlt.map fun e => ((List.range 4).filter fun j =>
    (e.lines.getD j TLine.idleLine).grantE && ownWaits m e.place j).length).sum

/-! ### What the twin learns from its seams -/

/-- Event k of the twin (R410). -/
def twinEvent (k : Nat) (m : Mach) : Mach := raiseEv (1456 + k) { noCtx with level := 4, kind := 7 } m

def Mach.updTwin (m : Mach) (f : TwinSt → TwinSt) : Mach := { m with twin := f m.twin }

/-- TWIN_STATE. -/
def twinState (m : Mach) : Nat := m.rd Twin.TWIN_STATE

/-- This twin's agent mask: the CA_ID of every enabled upstream port (R396). -/
def ownAgents (m : Mach) : Nat :=
  ((List.range 64).filter fun p => m.on (Port.ENABLE p)).foldl (fun v p =>
    match portAgent m p with
    | some a => setBit v a true
    | none => v) 0

/-- The bytes of an entry. -/
def entryBytes (m : Mach) (k : Nat) : List Nat := toBytes (widthOf k / 8) (m.rd k)

/-- PAIR_DIGEST (R387): the windows with a size, and the sewn bank of the central table. -/
def pairDigest (m : Mach) : Nat :=
  let wins := (List.range 1024).flatMap fun w =>
    if m.rd (Win.W_SIZE w) = 0 then []
    else toBytes 2 w ++ [Win.W_BASE w, Win.W_SIZE w, Win.W_TYPE w, Win.W_PREFETCH w, Win.W_ATOMIC_SITE w, Win.W_HOME w,
      Win.W_WAYS w, Win.W_GRAN w].flatMap (entryBytes m)
  let bank := (List.range 8192).flatMap fun r => toBytes 16 (ruleOf m 0 (m.rd Ct.SEWN_BANK) r)
  Config.sha384 (wins ++ bank)

/-- The message of this twin (R396). -/
def pairMsg (m : Mach) : PairMsg :=
  ⟨m.role, twinState m, m.rd Twin.INCIDENT, m.now.ftime, m.rd Ident.SERIAL, ownAgents m, pairDigest m⟩

/-- Some seam in twin role is active. -/
def pairLinked (m : Mach) : Bool := twinSeam m 0 || twinSeam m 1

/-- HELLO is sent (R386 step 1, R396). -/
def sendHello (m : Mach) : Mach :=
  if m.on Twin.TWIN_ENABLE && (twinState m == 1 || twinState m == 5) && pairLinked m then
    (m.wr Twin.OWN_AGENTS (ownAgents m)).emit (.pair 0 (pairMsg m))
  else m

/-- State 3 or 4 is entered (R401). -/
def enterSuspect (st : Nat) (m : Mach) : Mach :=
  twinEvent 4 (((m.wr Twin.TWIN_STATE st).bump Twin.INCIDENT 1).updTwin fun x => { x with suspectAt := m.now.stitch, backAt := none })

/-- The seam heartbeat is lost (R399, R401). -/
def seamHbLost (m : Mach) : Mach :=
  if !m.on Hb.SEAM_HB_OK then m
  else
    let m := twinEvent 2 ((m.wr Hb.SEAM_HB_OK 0).bump Hb.HB_LOST 1)
    if twinState m = 2 then enterSuspect (if m.rd Hb.SENSE_STATE = 0 then 4 else 3) m else m

/-- A seam in twin role has gone down (R399, R401). Where the other seam still carries the pair, it takes the traffic over and
nothing is lost (R395). -/
def noteFall (s : Nat) (m : Mach) : Mach :=
  if m.rd (SeamCfg.SEAM_ROLE s) != 0 || pairLinked m then m
  else seamHbLost (m.updTwin fun x => { x with seamFell := true })

end Sys2Proof.Machine
end

