-- ==== Sys2Proof/Machine/Requests.lean ====
section
/-! DEFINITION. Requests at the ports: the slice map, policing and shaping, windows and refusal, coherence or direct
forwarding, the edge bridge, locked sequences, and the responses that come back (R14, R26, R27, R79, R90 to R95, R211, R222,
R234, R262, R263, R281 to R294, R303 to R306, R323, R335 to R340, R385, R402, R525). -/

namespace Sys2Proof.Machine

/-! ### Where a request enters -/

/-- A request can enter at port p, or at seam p - 65. -/
def entryUp (m : Mach) (p : Nat) : Bool :=
  if p < 64 then m.linkUp p && m.domOn (portDomain p)
  else (p == 65 || p == 66) && m.rd (SeamStat.LINK_STATE (p - 65)) == 3

/-- It enters at a seam in twin role: it was mapped, policed and checked on the twin where it entered (R290, R303, R335). -/
def fromTwin (m : Mach) (p : Nat) : Bool := p ≥ 64 && m.rd (SeamCfg.SEAM_ROLE (p - 65)) == 0

/-- This twin acts as home for window w (R27, R385). -/
def actsHome (m : Mach) (w : Nat) : Bool :=
  !m.twinMode || m.on Twin.HOME_ALL || (m.rd (Win.W_HOME w) == m.role && !m.twin.peerAll)

/-- New work for the peer is refused: the twin is fenced, or it has no peer (R402, R404). -/
def peerRefused (m : Mach) : Bool := m.rd Twin.TWIN_STATE != 2 && m.rd Twin.TWIN_STATE != 7

/-- PROTECTION of the ingress port (R292). -/
def protection (p slice addr cause access : Nat) (m : Mach) : Mach :=
  if p < 64 then raiseEv (16 * p + 15) { accessCtx m p slice addr access with cause := cause } (portCount p 12 slice 1 m) else m

/-- Count a refusal by rule at its site and its window (R292). -/
def countRefused (t : Nat) (w : Option Nat) (m : Mach) : Mach :=
  let m := m.bump (refusedKey t) 1
  match w with
  | some w => m.bump (Win.W_REFUSED w) 1
  | none => m

/-! ### CXL.mem requests -/

/-- The name of a CXL.mem request (R222): 0 RdS, 1 RdA, 2 RdI, 3 InvA, 4 ClnEv, 5 a write, 6 BIConflict, 7 MemSpecRd. A
port without a caching agent is granted nothing. -/
def memName (m : Mach) (r : MemReq) : Nat :=
  let a := (portAgent m r.port).isSome
  match r.op with
  | .memRd =>
    (match r.mval with
     | .s => if a then 0 else 2
     | .a => if a then 1 else 2
     | _ => 2)
  | .memRdData => if a then 0 else 2
  | .memInv | .memInvNT => if r.mval = .a then 3 else 4
  | .memClnEvct => 4
  | .memWr | .memWrPtl => 5
  | .biConflict => 6
  | .memSpecRd => 7

/-- Permissions that a named request needs (R287). -/
def memNeed (k : Nat) : Nat := [needRead, needOwn, needRead, needOwn, 0, needWrite, 0, 0].getD k 0

/-- The answer to a refused request, or the error response of R14 (R14, R292). -/
def memRefusal (r : MemReq) (m : Mach) : Mach :=
  match r.op with
  | .memRd | .memRdData => m.emit (.coherent r.port r.tag 4 0 true)
  | .memSpecRd => m
  | .biConflict => m.emit (.coherent r.port r.tag 3 0 false)
  | _ => m.emit (.coherent r.port r.tag 0 0 false)

/-- The transaction of a CXL.mem request. -/
def memTxn (m : Mach) (r : MemReq) (s egress : Nat) (ld : Option Nat) (need grant : Nat) : Txn :=
  ⟨r.port, r.tag, false, r.op == .memRd || r.op == .memRdData, egress, ld, 0, s, genOf m s, r.addr, 64, need, grant, 1, none, 0⟩

/-- A port engine counts a request whose block is off (R14). -/
def offCount (p s addr : Nat) (m : Mach) : Mach :=
  if p < 64 then raiseEv (16 * p + 12) (accessCtx m p s addr 0) (m.bump (PortErr.POWER_REFUSED p) 1) else m

/-- The port engine of the member that holds an address is off (R14). -/
def memberOff (m : Mach) (w a : Nat) : Bool :=
  let d := winTarget m w (memberOf m w a)
  match tgtKind d with
  | 1 => !m.domOn (portDomain (tgtPort d))
  | 2 => (gfdPort m (tgtPbr d)).any fun p => !m.domOn (portDomain p)
  | _ => false

/-- The request needs a block that is off (R14). -/
def memOff (r : MemReq) (s : Nat) (m : Mach) : Mach := offCount r.port s r.addr (memRefusal r m)

/-- A request refused because the peer cannot take it (R402, R404). -/
def memFenced (r : MemReq) (m : Mach) : Mach :=
  memRefusal r (if fenced m then m.bump Hb.FENCED 1 else m)

/-- A request of the port engine as its slice takes it. -/
def cohOfMem (m : Mach) (r : MemReq) (s : Nat) (refused : Option Nat) : CohReq where
  addr := r.addr
  who := match portAgent m r.port with
    | some a => .agent a
    | none => .io r.port
  port := r.port
  tag := r.tag
  slice := s
  naks := 0
  mval := r.mval
  partialW := r.op == .memWrPtl
  data := r.data
  be := r.be
  poison := r.poison
  refused := refused
  ecc := 0
  atomCode := 0
  atomSize := 0
  operand := 0
  compare := 0

/-- A CXL.mem request by its place in `MemOp`. -/
def memCode : MemOp → Nat
  | .memRd => 0
  | .memRdData => 1
  | .memInv => 2
  | .memInvNT => 3
  | .memSpecRd => 4
  | .memClnEvct => 5
  | .memWr => 6
  | .memWrPtl => 7
  | .biConflict => 8

/-- Send a tracked request to the slice of its line: here, or across the seam (R26, R27, R385). -/
def memToSlice (w k s need : Nat) (r : MemReq) (refused : Option Nat) (m : Mach) : Mach :=
  if actsHome m w then
    let c := (placeOfAddr m r.addr).c
    if !sliceRuns m c || (portAgent m r.port).any (agentDead m) || (!([3, 4, 6] : List Nat).contains k && memberOff m w r.addr) then memOff r s (retire r.port r.tag m)
    else sendLine k (cohOfMem m r s refused) (openTxn (memTxn m r s 255 none need 0) m)
  else if peerRefused m then memFenced r (retire r.port r.tag m)
  else
    match peerSeam m (placeOfAddr m r.addr).c with
    | some x =>
      let m := (openTxn (memTxn m r s (65 + x) none need 0) m).emit
        (.forward r.port r.tag (65 + x) none (memCode r.op) r.addr 64 r.data r.be r.poison)
      handOver r.port r.tag m
    | none => memFenced r (retire r.port r.tag m)

/-- A request to a tracked window (R211, R222, R290, R293). -/
def memTracked (w s : Nat) (checked : Bool) (r : MemReq) (m : Mach) : Mach :=
  let k := memName m r
  let agent := (portAgent m r.port).isSome
  if k = 7 then m
  else if !agent && (k = 3 || k = 4 || k = 6) then memRefusal r m
  else
    let need := memNeed k
    match (if need = 0 || checked then none else checkAccess m 0 s need (r.addr / 64 * 64) 64) with
    | none => memToSlice w k s need r none (if need = 0 || checked then m else stamp 0 r.port r.tag r.addr m)
    | some cause =>
      if k = 5 && agent then memToSlice w k s need r (some cause) (countRefused 0 (some w) m)
      else protection r.port s r.addr cause 1 (memRefusal r (countRefused 0 (some w) m))

/-- End a request whose member does not resolve as a transaction whose egress link is lost (R525). -/
def memUnresolved (s grant : Nat) (r : MemReq) (m : Mach) : Mach := farErrorOpen (memTxn m r s r.port none 0 grant) 1 m

/-- Forward a request to its member (R282, R284, R525), with the stamp of the site that checked it (R298). -/
def memForward (w s grant : Nat) (site : Option Nat) (r : MemReq) (m : Mach) : Mach :=
  let d := winTarget m w (memberOf m w r.addr)
  let open_ := fun (e : Nat) (ld : Option Nat) (a : Nat) (m : Mach) =>
    let m := sendOn e 1 (.forward r.port r.tag e ld (memCode r.op) a 64 r.data r.be r.poison) m
    let m := match site with
      | some t => handOver r.port r.tag (stamp t r.port r.tag r.addr m)
      | none => m
    if r.op = .memSpecRd then m else openTxn (memTxn m r s e ld 0 grant) m
  if memberOff m w r.addr then memOff r s m
  else
    match resolve m d with
    | .port p ld =>
      if takesMem m p then open_ p ld (deviceAddr m w r.addr) m
      else if r.op = .memSpecRd then m else memUnresolved s grant r m
    | .seam x => open_ (65 + x) none r.addr m
    | .peer =>
      if peerRefused m || fromTwin m r.port then memFenced r m
      else (match peerSeam m (sideQuadrant r.port) with
        | some x => open_ (65 + x) none r.addr m
        | none => memFenced r m)
    | .none => if r.op = .memSpecRd then m else memUnresolved s grant r m

/-- A gate passes what a seam input presents to the fabric core without a rule lookup (R290). -/
def gatePasses (p t : Nat) : Bool := t != 0 && p ≥ 64

/-- A request to a private or uncached window (R211, R290). -/
def memDirect (w s : Nat) (checked : Bool) (r : MemReq) (m : Mach) : Mach :=
  let k := memName m r
  let cached := m.rd (Win.W_TYPE w) = 0
  let need := memNeed k
  let t := pieceSite m w r.addr
  let free := need = 0 || checked || gatePasses r.port t
  match (if free then none else checkAccess m t s need (r.addr / 64 * 64) 64) with
  | some cause => protection r.port s r.addr cause 1 (memRefusal r (countRefused t (some w) m))
  | none =>
    match k with
    | 3 => m.emit (.coherent r.port r.tag (if cached then 2 else 0) 0 false)
    | 4 => m.emit (.coherent r.port r.tag 0 0 false)
    | 6 => m.emit (.coherent r.port r.tag 3 0 false)
    | 7 => if m.on (Win.W_PREFETCH w) then memForward w s 0 none r m else m
    | _ => memForward w s (if cached && k = 0 then 1 else if cached && k = 1 then 2 else 0) (if free then none else some t) r m

/-- What still passes while a window drains or a slice resets: a writeback, a clean eviction or a BIConflict of a caching agent
for a tracked line (R286, R323). -/
def passesShut (m : Mach) (r : MemReq) : Bool :=
  match (windowsInState m 1 ++ windowsInState m 2).find? fun w => inWindow m w r.addr with
  | none => false
  | some w =>
    winTracked m w && (portAgent m r.port).isSome &&
    (match memName m r with
     | 4 | 6 => true
     | 5 => isWb m (placeOfAddr m r.addr) (r.addr / 64 % 4) (cohOfMem m r 0 none)
     | _ => false)

/-- Look up the window of a request and act for its type (R281). -/
def memPresent (s : Nat) (checked : Bool) (r : MemReq) (m : Mach) : Mach :=
  match findWindow m r.addr with
  | some w => if winTracked m w then memTracked w s checked r m else memDirect w s checked r m
  | none =>
    match (windowsInState m 2).find? fun w => inWindow m w r.addr with
    | some w =>
      if passesShut m r then memToSlice w (memName m r) s 0 r none m
      else protection r.port s r.addr 0 1 (memRefusal r m)
    | none => protection r.port s r.addr 0 1 (memRefusal r m)

/-- A write that may be a writeback always passes the policer and the shaper (R338). -/
def mayBeWb (m : Mach) (r : MemReq) : Bool :=
  (r.op == .memWr || r.op == .memWrPtl) && r.port < 64 && m.rd (Port.ROLE r.port) == 1 && m.rd (Port.CA_ID r.port) != 255 &&
  (match findWindow m r.addr with
   | some w => winTracked m w
   | none => false)

/-- Colour a mapped request, apply the red action and the shaper; what is left is presented, or still held (R335 to R340). -/
def memPolice (h : HeldMem) (m : Mach) : Option HeldMem × Mach :=
  let s := h.slice
  let always := mayBeWb m h.req
  let (v, m) := if h.passed || h.req.op = .biConflict then (.pass, m) else police h.req.port s 1 0 none always h.red m
  match v with
  | .hold => (some { h with red := true }, m)
  | .drop => (none, memRefusal h.req m)
  | .pass =>
    if always || shaperOpen m s then (none, memPresent s false h.req (shaperDebit s 1 m))
    else (some { h with passed := true }, m)

/-- The slice of a held request is not yet mapped. -/
def unmapped : Nat := 65535

/-- A CXL.mem request at the head of its channel (R303 to R306, R323, R339). -/
def memStep (h : HeldMem) (m : Mach) : Option HeldMem × Mach :=
  let r := h.req
  if h.slice != unmapped then memPolice h m
  else if fromTwin m r.port then (none, memPresent r.slice true r m)
  else
    match mapSlice m r.port (match r.pbr with
      | some x => .pbr x
      | none => .none) none with
    | none => (none, memRefusal r (mapMiss r.port r.addr m))
    | some s =>
      let m := portCount r.port 4 s 1 m
      if sliceState m s = 1 || passesShut m r then memPolice { h with slice := s } m
      else (none, memRefusal r (m.bump (Slc.SLC_REFUSED s) 1))

/-- The channel of a request: requests with data travel apart (R337). -/
def memChannel (r : MemReq) : Nat := 2 * r.port + (if r.op == .memWr || r.op == .memWrPtl then 1 else 0)

def heldMemOf (m : Mach) (ch : Nat) : List HeldMem := Tab.get [] m.traffic.heldMem ch
def putHeldMem (ch : Nat) (l : List HeldMem) (m : Mach) : Mach :=
  { m with traffic := { m.traffic with heldMem := Tab.put [] m.traffic.heldMem ch l } }

/-- Requests of a channel proceed from the head until one is held (R337). -/
def memDrain : List HeldMem → Mach → List HeldMem × Mach
  | [], m => ([], m)
  | h :: hs, m =>
    match memStep h m with
    | (some h', m) => (h' :: hs, m)
    | (none, m) => memDrain hs m

/-- A host's CXL.mem request (R281). -/
def memRequest (r : MemReq) (m : Mach) : Mach :=
  if !entryUp m r.port then m
  else if r.port < 64 && ideBlocked m r.port 1 then
    ideHold r.port 1 (m.updPort r.port fun x => { x with heldMem := x.heldMem ++ [r] })
  else
    let ch := memChannel r
    let h : HeldMem := ⟨r, unmapped, false, false⟩
    match heldMemOf m ch with
    | [] =>
      let (l, m) := memDrain [h] m
      putHeldMem ch l m
    | q => putHeldMem ch (q ++ [h]) m

/-! ### CXL.io requests -/

/-- A request that a requester waits for (R93). -/
def nonPosted (r : IoReq) : Bool := r.kind = 0 || r.kind = 2 || r.kind = 3 || r.kind = 6 || r.kind = 8

/-- Refuse a CXL.io request with a completion status; a posted one is discarded (R292). -/
def ioRefusal (r : IoReq) (status : Nat) (m : Mach) : Mach :=
  if nonPosted r then m.emit (.complete r.port r.tag status 0 false) else m

/-- Units of a CXL.io request (R335). -/
def ioUnits (r : IoReq) : Nat := if r.kind ≤ 2 then max 1 (ceilDiv r.len 64) else 1

/-- The transaction of a CXL.io request. -/
def ioTxn (m : Mach) (r : IoReq) (s egress : Nat) (ld : Option Nat) (need lines : Nat) : Txn :=
  ⟨r.port, r.tag, true, r.kind != 3, egress, ld, r.vcs, s, genOf m s, r.addr, r.len, need, 0, lines, r.ld, 0⟩

/-- A block that the request needs is off (R14). -/
def ioOff (r : IoReq) (s : Nat) (m : Mach) : Mach := offCount r.port s r.addr (ioRefusal r 1 m)

/-- The egress link is not up (R94, R525). -/
def ioNoLink (r : IoReq) (s : Nat) (m : Mach) : Mach :=
  if nonPosted r then farErrorOpen (ioTxn m r s r.port none 0 1) 1 m
  else if r.port < 64 then raiseEv (16 * r.port + 10) (accessCtx m r.port s r.addr 2) m
  else m

/-- LOCK of port p (R91, R92). -/
def lockEvent (p : Nat) (m : Mach) : Mach := raiseEv (16 * p + 9) (portCtx p) m

/-- The request comes from the USP of a host. -/
def isUsp (m : Mach) (p : Nat) : Bool := p < 64 && m.rd (Port.ROLE p) == 1

/-- A CXL.io request reaches the queue of its target: the semaphore decides whether it waits or goes on (R91). A request that enters at
a seam comes from a host of another switch. -/
def atTarget (w : IoWait) (go : Mach → Mach) (m : Mach) : Mach :=
  let r := w.req
  let k := targetKey w.egress w.ld
  let x := m.sem k
  if w.locked && m.edge.sems.any (fun e => e.1 != k && e.2.holder == some r.port) then lockEvent r.port (ioRefusal r 1 m)
  else
    match x.holder with
    | some h =>
      if h != r.port && (isUsp m r.port || r.port ≥ 64) then
        m.putSem k { x with waiting := x.waiting ++ [{ w with since := m.now.stitch }] }
      else go m
    | none => go (if w.locked then m.putSem k { x with holder := some r.port, since := m.now.stitch } else m)

/-- A CXL.io request that goes straight to its target. -/
def toTarget (r : IoReq) (s egress : Nat) (ld : Option Nat) (addr : Nat) (locked : Bool) (m : Mach) : Mach :=
  atTarget ⟨r, egress, ld, addr, locked, s, none, 0⟩ (forwardIo r s egress ld addr) m

/-- Forward to a port, when it is on and its link is up. -/
def ioToPort (r : IoReq) (s p : Nat) (ld : Option Nat) (addr : Nat) (locked : Bool) (m : Mach) : Mach :=
  if !m.domOn (portDomain p) then ioOff r s m
  else if !m.linkUp p then ioNoLink r s m
  else toTarget r s p ld addr locked m

/-- A translation finds no entry (R90). -/
def xlateMiss (r : IoReq) (m : Mach) : Mach :=
  let m := if r.kind = 4 || r.kind = 5 then m else ioRefusal r 1 m
  if r.port < 64 then raiseEv (16 * r.port + 8) (portCtx r.port) (m.bump (PortErr.XLATE_MISS r.port) 1) else m

/-- The edge bridge routes a request, a message or a completion by identifier (R83, R89, R90). A host's request is keyed by
its bus, device and function; a device's by its own PBR ID. What is forwarded keeps its address: the register of a configuration
request, or the place in the device's memory-mapped registers, whose function the hierarchy has found (R77, log entry 134). -/
def ioBridge (r : IoReq) (s : Nat) (locked : Bool) (m : Mach) : Mach :=
  let found := if isUsp m r.port then
      (vcsOfUsp m r.port).bind fun v => (xlateFind m 0 v r.keyId).map fun x => (v, x)
    else (xlateFind m 1 r.vcs (pbrOf m r.port r.ld)).map fun x => (r.vcs, x)
  match found with
  | none => xlateMiss r m
  | some (v, x) =>
    let stop := if isUsp m r.port then unbinding m v (xPort x) (xLd x) else unbinding m v r.port r.ld
    if stop then ioRefusal r 1 m
    else if r.kind = 4 || r.kind = 5 then
      (if !m.domOn (portDomain (xPort x)) then ioOff r s m
       else if m.linkUp (xPort x) then sendOn (xPort x) 0 (.route r.port (xPort x) (xLd x) r.data) m else m)
    else ioToPort r s (xPort x) (xLd x) r.addr locked m

/-- The window of every byte of a memory request, or the cause that refuses it (R283): UNMAPPED 0, SPLIT 4. -/
def ioRange (m : Mach) (a len : Nat) : Except (Nat × Option Nat) Nat :=
  match findWindow m a with
  | none => .error (0, none)
  | some w =>
    let last := a + (max 1 len - 1)
    if last ≥ winEnd m w then
      (if (findWindow m (winEnd m w)).isSome then .error (4, some w) else .error (0, some w))
    else
      let g := 2 ^ (8 + m.rd (Win.W_GRAN w))
      if m.rd (Win.W_WAYS w) != 0 && (a - winBase m w) / g != (last - winBase m w) / g then .error (4, some w)
      else .ok w

/-- Permissions that a CXL.io memory request needs (R287). -/
def ioNeed (kind : Nat) : Nat := [needRead, needWrite, needAtomic].getD kind 0

/-- Line k of a request as its slice takes it (R222, R234). -/
def cohOfIo (r : IoReq) (s k : Nat) : CohReq :=
  let first := r.addr / 64
  let shift := if r.kind = 1 then r.addr % 64 else 0
  let be := getBits ((2 ^ r.len - 1) * 2 ^ shift) (64 * k) 64
  { addr := if k = 0 then r.addr else 64 * (first + k)
    who := .io r.port
    port := r.port
    tag := r.tag
    slice := s
    naks := 0
    mval := .noOp
    partialW := be != 2 ^ 64 - 1
    data := getBits (r.data * 2 ^ (8 * shift)) (512 * k) 512
    be := be
    poison := r.poison
    refused := none
    ecc := 0
    atomCode := r.atomCode
    atomSize := r.atomSize
    operand := r.operand
    compare := r.compare }

/-- Lines that a request touches. -/
def ioLines (r : IoReq) : Nat := (r.addr % 64 + max 1 r.len - 1) / 64 + 1

/-- A CXL.io memory request, or an atomic, for a coherence slice (R27, R234, R262 to R264). -/
def ioToSlice (w s kind need : Nat) (r : IoReq) (m : Mach) : Mach :=
  if actsHome m w then
    if !sliceRuns m (placeOfAddr m r.addr).c || memberOff m w r.addr then ioOff r s (retire r.port r.tag m)
    else if r.kind = 1 then
      match (List.range (ioLines r)).map (cohOfIo r s) with
      | q :: rest => sendLine 5 q (putStream r.port (some ⟨q, false, rest⟩) m)
      | [] => m
    else if r.kind = 2 then sendLine kind (cohOfIo r s 0) (openTxn (ioTxn m r s 255 none need 1) m)
    else
      let qs := (List.range (ioLines r)).map (cohOfIo r s)
      forAll qs (sendLine kind) (openTxn (ioTxn m r s 255 none need qs.length) m)
  else if peerRefused m then ioRefusal r 1 (retire r.port r.tag (if fenced m then m.bump Hb.FENCED 1 else m))
  else
    match peerSeam m (placeOfAddr m r.addr).c with
    | some x => forwardIo r s (65 + x) none r.addr m
    | none => ioRefusal r 1 (retire r.port r.tag m)

/-- The target of a request to a window that a slice serves: its member here, or the seam to the twin that acts as home. -/
def ioTarget (m : Mach) (w : Nat) (r : IoReq) : Option (Nat × Option Nat) :=
  if actsHome m w then
    match resolve m (winTarget m w (memberOf m w r.addr)) with
    | .port p ld => some (p, ld)
    | .seam x => some (65 + x, none)
    | .peer => (peerSeam m (sideQuadrant r.port)).map fun x => (65 + x, none)
    | .none => none
  else (peerSeam m (placeOfAddr m r.addr).c).map fun x => (65 + x, none)

/-- The semaphore of the target comes before the slice (R91). -/
def ioGated (w s kind need : Nat) (locked : Bool) (r : IoReq) (m : Mach) : Mach :=
  match ioTarget m w r with
  | some (e, ld) => atTarget ⟨r, e, ld, r.addr, locked, s, some (w, kind, need), 0⟩ (ioToSlice w s kind need r) m
  | none => ioToSlice w s kind need r m

/-- Requests that a released semaphore has let go reach their slices. -/
def serveSliced (m : Mach) : Mach :=
  let l := m.edge.served
  forAll l (fun x m => match x.tracked with
    | some (w, kind, need) => ioToSlice w x.slice kind need x.req m
    | none => m) { m with edge := { m.edge with served := [] } }

/-- Forward a CXL.io memory request to its member (R284, R525). -/
def ioToMember (w s : Nat) (locked : Bool) (r : IoReq) (m : Mach) : Mach :=
  let d := winTarget m w (memberOf m w r.addr)
  if memberOff m w r.addr then ioOff r s (retire r.port r.tag m)
  else
    match resolve m d with
    | .port p ld => toTarget r s p ld (deviceAddr m w r.addr) locked m
    | .seam x => toTarget r s (65 + x) none r.addr locked m
    | .peer =>
      if peerRefused m || fromTwin m r.port then ioRefusal r 1 (retire r.port r.tag (if fenced m then m.bump Hb.FENCED 1 else m))
      else (match peerSeam m (sideQuadrant r.port) with
        | some x => toTarget r s (65 + x) none r.addr locked m
        | none => ioRefusal r 1 (retire r.port r.tag m))
    | .none => ioNoLink r s (retire r.port r.tag m)

/-- A CXL.io memory request or AtomicOp to the pool (R262, R263, R281, R283, R290). -/
def ioPool (r : IoReq) (s : Nat) (checked locked : Bool) (m : Mach) : Mach :=
  match ioRange m r.addr r.len with
  | .error (cause, w) =>
    let m := match w with
      | some w => m.bump (Win.W_REFUSED w) 1
      | none => m
    protection r.port s r.addr cause 2 (ioRefusal r (if cause = 0 then 1 else 2) m)
  | .ok w =>
    let atom := r.kind == 2
    let home := atom && m.rd (Win.W_ATOMIC_SITE w) = 0
    let bySlice := winTracked m w || home
    let need := ioNeed r.kind
    let t := if bySlice then 0 else pieceSite m w r.addr
    let free := checked || gatePasses r.port t
    match (if free then none else checkAccess m t s need r.addr (max 1 r.len)) with
    | some cause => protection r.port s r.addr cause 2 (ioRefusal r 2 (countRefused t (some w) m))
    | none =>
      let m := if free then m else stamp t r.port r.tag r.addr m
      if bySlice then ioGated w s (if home then 7 else if atom then 8 else 2) need locked r m else ioToMember w s locked r m

/-- The host writes the Command register of the USP function (R320, R516): bit 2 is bus mastering. -/
def uspCommand (r : IoReq) (m : Mach) : Mach :=
  if isUsp m r.port && (vcsOfUsp m r.port).isSome then
    (m.updPort r.port fun x => { x with busMaster := bitAt r.data 2 }).emit (.complete r.port r.tag 0 0 false)
  else ioRefusal r 1 m

/-- Global Persistent Flush goes to the devices of the host's virtual switch (R70). -/
def persistentFlush (r : IoReq) (m : Mach) : Mach :=
  match if isUsp m r.port then vcsOfUsp m r.port else none with
  | none => m
  | some v =>
    forAll ((boundVppbs m).filter fun i => vState (m.rd (Vppb.VPPB i)) == 2 && vVcs (m.rd (Vppb.VPPB i)) == v) (fun i m =>
      let d := m.rd (Vppb.VPPB i)
      if m.linkUp (vPort d) then
        sendOn (vPort d) 0 (.route r.port (vPort d) (if vKind d = 1 then some (vLd d) else none) r.data) m
      else m) m

/-- The host writes the Slot Control register of a vPPB of its virtual switch: bit 5 enables the hot-plug interrupt (R82, log entry
135). -/
def vppbControl (r : IoReq) (m : Mach) : Mach :=
  match if isUsp m r.port then vcsOfUsp m r.port else none with
  | none => ioRefusal r 1 m
  | some v =>
    if inVcs m v r.keyId then
      sendOn r.port 0 (.complete r.port r.tag 0 0 false) (updVppb r.keyId (fun x => { x with hotplug := bitAt r.data 5 }) m)
    else ioRefusal r 1 m

/-- A request that passed the policer and the shaper is routed. -/
def ioPresent (r : IoReq) (s : Nat) (checked locked : Bool) (m : Mach) : Mach :=
  if r.kind = 6 then uspCommand r m
  else if r.kind = 7 then persistentFlush r m
  else if r.kind = 8 then vppbControl r m
  else if locked && !isUsp m r.port then (if r.port < 64 then lockEvent r.port else id) (ioRefusal r 1 m)
  else if r.kind ≤ 2 && !r.byId then ioPool r s checked locked m
  else ioBridge r s locked m

/-- Colour a mapped CXL.io request, apply the red action and the shaper (R335 to R340). -/
def ioPolice (h : HeldIo) (m : Mach) : Option HeldIo × Mach :=
  let s := h.slice
  let u := ioUnits h.req
  let (v, m) := if h.passed then (.pass, m) else police h.req.port s u 1 (some h.req.tc) false h.red m
  match v with
  | .hold => (some { h with red := true }, m)
  | .drop => (none, ioRefusal h.req 2 m)
  | .pass =>
    if shaperOpen m s then (none, ioPresent h.req s false h.locked (shaperDebit s u m))
    else (some { h with passed := true }, m)

/-- A CXL.io request at the head of its channel: it waits behind a posted write stream of its port (R234, R262), is mapped, policed
and presented. A completion that the edge bridge routes is no request. -/
def ioStep (h : HeldIo) (m : Mach) : Option HeldIo × Mach :=
  let r := h.req
  if (streamOf m r.port).isSome then (some h, m)
  else if r.kind = 5 then (none, ioBridge r unmapped false m)
  else if h.slice != unmapped then ioPolice h m
  else if fromTwin m r.port then (none, ioPresent r r.slice true h.locked m)
  else
    match mapSlice m r.port (match r.pbr, r.ld with
      | some x, _ => .pbr x
      | none, some l => .ld l
      | none, none => .none) r.pasid with
    | none => (none, ioRefusal r 1 (mapMiss r.port r.addr m))
    | some s =>
      let m := portCount r.port 5 s 1 m
      if sliceState m s = 1 then ioPolice { h with slice := s } m
      else (none, ioRefusal r 1 (m.bump (Slc.SLC_REFUSED s) 1))

def putHeldIo (p : Nat) (l : List HeldIo) (m : Mach) : Mach :=
  { m with traffic := { m.traffic with heldIo := Tab.put [] m.traffic.heldIo p l } }

/-- Requests of the CXL.io channel of a port proceed from the head until one is held. -/
def ioDrain : List HeldIo → Mach → List HeldIo × Mach
  | [], m => ([], m)
  | h :: hs, m =>
    match ioStep h m with
    | (some h', m) => (h' :: hs, m)
    | (none, m) => ioDrain hs m

/-- A CXL.io request at a port (R90, R281); `locked` is MRdLk (R91, R92). -/
def ioRequest (locked : Bool) (r : IoReq) (m : Mach) : Mach :=
  if !entryUp m r.port then m
  else if r.port < 64 && ideBlocked m r.port 0 then
    ideHold r.port 0 (m.updPort r.port fun x => { x with heldIo := x.heldIo ++ [(locked, r)] })
  else
    let h : HeldIo := ⟨r, unmapped, false, false, locked⟩
    match Tab.get [] m.traffic.heldIo r.port with
    | [] =>
      let (l, m) := ioDrain [h] m
      putHeldIo r.port l m
    | q => putHeldIo r.port (q ++ [h]) m

/-- The slice of a request at the head of a channel of port p that a policer or a shaper holds. -/
def policedHead (m : Mach) (p : Nat) : Option Nat :=
  let mems := ((heldMemOf m (2 * p)).take 1 ++ (heldMemOf m (2 * p + 1)).take 1).filter fun h => h.red || h.passed
  let ios := ((Tab.get [] m.traffic.heldIo p).take 1).filter fun h => h.red || h.passed
  (mems.map (·.slice) ++ ios.map (·.slice)).head?

/-- Held requests of the ports are tried again in each stitch, in ascending input number (R337, R339, R340). -/
def retryHeld (m : Mach) : Mach :=
  let m := serveSliced m
  let ports := ((m.traffic.heldMem.map fun (e : Nat × List HeldMem) => e.1 / 2) ++ m.traffic.heldIo.map fun (e : Nat × List HeldIo) => e.1).eraseDups
  let order := (List.range 67).filter ports.contains
  let m := forAll order (fun p m =>
    let m := forAll [2 * p, 2 * p + 1] (fun ch m =>
      let (l, m) := memDrain (heldMemOf m ch) m
      putHeldMem ch l m) m
    let (l, m) := ioDrain (Tab.get [] m.traffic.heldIo p) m
    putHeldIo p l m) m
  let shaped := ((m.traffic.heldMem.flatMap fun (e : Nat × List HeldMem) => ((e.2.take 1).filter (·.passed)).map (·.slice)) ++
    (m.traffic.heldIo.flatMap fun (e : Nat × List HeldIo) => ((e.2.take 1).filter (·.passed)).map (·.slice))).eraseDups
  let m := forAll shaped (fun s m => m.bump (Pol.SHP_HOLDS s) 1) m
  forAll (order.filter (· < 64)) (fun p m =>
    match policedHead m p with
    | some s => portCount p 14 s 1 m
    | none => m) m

/-! ### CXL.cache (R79) -/

/-- A device's CXL.cache request: it goes to the USP of the virtual switch to which its vPPB is bound. An unbind that drains refuses it
(R83); without a binding it is discarded and counted. -/
def cachePresent (p ld cacheId addr : Nat) (m : Mach) : Mach :=
  let mld := m.rd (PortStat.PARTNER p) == 5
  let l := if mld then some ld else none
  let discard := fun (m : Mach) => raiseEv (16 * p + 8) (portCtx p) (m.bump (PortErr.XLATE_MISS p) 1)
  match mapSlice m p (if mld then .ld ld else .none) none with
  | none => mapMiss p addr (portCount p 6 65535 1 m)
  | some s =>
    let m := portCount p 6 s 1 m
    if sliceState m s != 1 then m.bump (Slc.SLC_REFUSED s) 1
    else
      let (v, m) := police p s 1 2 none false false m
      match v with
      | .drop => m
      | _ =>
        match vppbOf m p l with
        | none => discard m
        | some i =>
          let d := m.rd (Vppb.VPPB i)
          let u := m.rd (Vcs.USP (vVcs d))
          if vState d < 2 || !m.on (Vcs.VCS_ENABLE (vVcs d)) then discard m
          else if unbinding m (vVcs d) p l then sendOn p 1 (.cacheRefused p cacheId addr) m
          else if !m.domOn (portDomain u) then offCount p s addr m
          else sendOn u 1 (.route p u (some cacheId) addr) m

/-- A CXL.cache request arrives; without keys the port holds it (R75). -/
def cacheRequest (p ld cacheId addr : Nat) (m : Mach) : Mach :=
  if !entryUp m p || p ≥ 64 then m
  else if ideBlocked m p 1 then
    ideHold p 1 (m.updPort p fun x => { x with heldCache := x.heldCache ++ [(ld, cacheId, addr)] })
  else cachePresent p ld cacheId addr m

/-- A stream has its keys: what it held is taken in order (R75). -/
def ideRelease (p : Nat) (m : Mach) : Mach :=
  let x := m.port p
  let m := if bitAt x.holding 0 && !ideBlocked m p 0 then
      let m := m.updPort p fun x => { x with heldIo := [], holding := setBit x.holding 0 false }
      forAll x.heldIo (fun h => ioRequest h.1 h.2) m
    else m
  let m := if bitAt x.holding 1 && !ideBlocked m p 1 then
      let m := m.updPort p fun x => { x with heldMem := [], heldCache := [], holding := setBit x.holding 1 false }
      forAll x.heldCache (fun h => cacheRequest p h.1 h.2.1 h.2.2) (forAll x.heldMem memRequest m)
    else m
  let leave := x.heldOut.filter fun o => !ideBlocked m p o.1
  let m := m.updPort p fun y => { y with heldOut := x.heldOut.filter fun o => ideBlocked m p o.1 }
  forAll leave (fun o m => m.emit o.2) m

/-- KEY_GO (R74, R75). -/
def keyGo (p : Nat) (m : Mach) : Mach := ideRelease p (keyLoad p m)

/-! ### Posted write streams (R234) -/

/-- The slice of a stream's current line has forwarded the line's write, or has no more to do with it. -/
def streamForwarded (m : Mach) (q : CohReq) : Bool :=
  let waits := m.coh.deferred.any fun x => match x with
    | .write y => y.tag == q.tag && y.port == q.port
    | _ => false
  let x := m.tline (placeOfAddr m q.addr) (q.addr / 64 % 4)
  let mine := x.req.any fun y => y.tag == q.tag && y.port == q.port
  !waits && (!mine || x.st == .m)

/-- Streams whose line was forwarded present the next one; a stream that ends lets the requests behind it go on. -/
def advanceStreams (m : Mach) : Mach :=
  forAll (m.edge.streams.map (·.1)) (fun p m =>
    match streamOf m p with
    | none => m
    | some x =>
      if !x.taken || !streamForwarded m x.cur then m
      else
        match x.rest with
        | q :: rest => sendLine 5 q (putStream p (some ⟨q, false, rest⟩) m)
        | [] =>
          let m := putStream p none m
          let (l, m) := ioDrain (Tab.get [] m.traffic.heldIo p) m
          putHeldIo p l m) m

/-! ### Locked sequences (R91) -/

/-- The holder's Unlock. -/
def unlock (p k : Nat) (m : Mach) : Mach := if (m.sem k).holder = some p then serveSliced (releaseSem k m) else m

/-- A semaphore has been held for LOCK_LIMIT_US of its holder's port, which raises LOCK and counts it; a holder beyond a seam
has no such entry (log entry 136). -/
def lockLimit (k : Nat) (m : Mach) : Mach :=
  match (m.sem k).holder with
  | some p =>
    if 64 ≤ p then serveSliced (releaseSem k m)
    else if m.now.stitch < (m.sem k).since + usStitches (m.rd (PortCtl.LOCK_LIMIT_US p)) then m
    else serveSliced (releaseSem k (lockEvent p (m.bump (PortErr.LOCK_TIMEOUT p) 1)))
  | none => m

/-! ### Responses (R93 to R95, R224, R393) -/

/-- The open transaction that waits for a response at egress port p. -/
def findEgress (m : Mach) (p tag : Nat) : Option Txn := m.edge.txns.find? fun t => t.egress == p && t.tag == tag

/-- A target's response arrives at port p (R94, R95, R224). -/
def targetResponse (p tag : Nat) (r : Response) (m : Mach) : Mach :=
  if !entryUp m p then m
  else
    match findEgress m p tag with
    | some t =>
      if r.status != 0 then retire t.port t.tag (farErrorOpen t (min 2 r.status) m)
      else
        let m := retire t.port t.tag (closeTxn t.port t.tag m)
        answerTo t.port t.tag (if r.poison && t.read then 1 else 0) r.data
          (if t.io then .complete t.port t.tag 0 r.data r.poison
           else .coherent t.port t.tag (if t.grant = 0 && t.read then 4 else t.grant) r.data (r.poison && t.read)) m
    | none =>
      sliceAnswered p tag r m

/-- The release notice for a held response arrives (R393); one that comes before its response waits for it. -/
def releaseNotice (p tag : Nat) (m : Mach) : Mach :=
  match m.coh.heldRsp.find? fun h => h.port == p && h.tag == tag with
  | some h =>
    let m := m.updCoh fun x => { x with heldRsp := x.heldRsp.erase h }
    match findTxn m p tag with
    | some t => presentData t h.data (if h.poison then 1 else 0) m
    | none => m
  | none => m.updCoh fun x => { x with early := x.early ++ [(p, tag)] }

/-- An error arrives for an open transaction (R94). -/
def farError (p tag status : Nat) (m : Mach) : Mach := targetResponse p tag ⟨max 1 status, 0, true⟩ m

/-- A request that waits at egress port p since a stitch has waited CPL_TIMEOUT_US; a seam has no such entry, and the limit is the far
side's (log entry 155). -/
def cplDue (m : Mach) (p since : Nat) : Bool := 64 ≤ p || since + usStitches (m.rd (Port.CPL_TIMEOUT_US p)) ≤ m.now.stitch

/-- A non-posted CXL.io request has waited CPL_TIMEOUT_US at egress port p: its context is discarded (R93). The needle engine takes
it as an error (R372). -/
def cplTimeout (p tag : Nat) (m : Mach) : Mach :=
  match findEgress m p tag with
  | some t =>
    if t.io && cplDue m p t.since then
      let m := retire t.port t.tag (closeTxn t.port t.tag (if p < 64 then m.bump (PortErr.CPL_TIMEOUT p) 1 else m))
      if 256 ≤ t.port then errorAnswer t 1 m else m
    else m
  | none =>
    match (allWaiting m).find? fun w => w.egress == p && w.req.tag == tag && nonPosted w.req && cplDue m p w.since with
    | some w =>
      retire w.req.port tag (dropWaiting (fun x => x = w) (if p < 64 then m.bump (PortErr.CPL_TIMEOUT p) 1 else m))
    | none => m

/-! ### Flits (R28) -/

/-- The port engine of an agent's port forwards a BIRsp to the slice of its BITag, with the WB_AHEAD mask: the lines of the snooped
sector for which a write of the agent is open (R223). -/
def forwardBirsp (p bitag kind : Nat) (m : Mach) : Mach :=
  match portAgent m p with
  | none => m
  | some a =>
    let (slice, mask) := match m.coh.snoops.find? fun s => s.sent && s.bitag == bitag && s.agent == a with
      | none => ((mapSlice m p .none none).getD 0, 0)
      | some s =>
        let q : Place := ⟨s.c, s.slot, s.tag⟩
        let sector := sectorOf m q
        (workSlice m q s.mask, (m.edge.txns.filter fun t => t.port == p && !t.io && !t.read && t.need == needWrite && t.addr / 256 == sector).foldl
          (fun v t => setBit v (t.addr / 64 % 4) true) 0)
    nocPut 2 (endpointOf p) (sliceEnd (bitag / 1024 % 4)) slice bitag none (.slice (.birsp ⟨bitag, a, kind, mask⟩)) m

/-- The port engine takes what a checked flit carries. -/
def takeItem (p : Nat) : FlitItem → Mach → Mach
  | .io locked r, m => ioRequest locked r m
  | .mem r, m => memRequest r m
  | .cache ld cacheId addr, m => cacheRequest p ld cacheId addr m
  | .response tag r, m => targetResponse p tag r m
  | .packet k, m => packetPresent k m
  | .birsp bitag kind, m => forwardBirsp p bitag kind m

/-- A flit arrives: what it carries is released only after its verdict is good, and discarded otherwise (R28). -/
def flitReceived (f : Flit) (m : Mach) : Mach :=
  let (good, m) := flitVerdict f m
  if good then forAll f.items (takeItem f.port) m else m

end Sys2Proof.Machine
end

