-- ==== Sys2Proof/Machine/Lanes.lean ====
section
/-! DEFINITION. Lanes (R99, R105 to R119): raw test mode, patterns and their checker, bit-slip alignment and deep doze. -/

namespace Sys2Proof.Machine

/-- Do an action of an entry whose block lies in domain d (R39, R44). -/
def actIn (d : Nat) (check : Mach → Option Status) (effect : Mach → Mach) (m : Mach) : Mach :=
  act (fun m => if m.domOn d then check m else some .state) effect m

/-- Domain of lane n. -/
def laneDomain (n : Nat) : Nat := blockDomain (laneBlock n)

/-- Event k of lane block b (R121). -/
def blockEvent (b k : Nat) (m : Mach) : Mach :=
  raiseEv (1024 + 4 * b + k)
    { noCtx with level := 3, kind := 2, unit := b, quad := if b < 32 then b / 8 else 255 } m

/-! ### Raw test mode (R111 to R117) -/

/-- Why LANE_MODE cannot be set (R111). -/
def laneModeCheck (n : Nat) (raw : Bool) (m : Mach) : Option Status :=
  if !raw || rawLane m n then none
  else if n < 256 then (if m.on (Port.ENABLE (lanePort m n)) then some .state else none)
  else match seamOfBlock m (laneBlock n) with
    | some (s, _) => if m.on (SeamCfg.SEAM_ENABLE s) then some .state else none
    | none => none

/-- LANE_MODE enters raw test mode, or leaves it: the loop, the generator and the checker go off, and DOZE clears. -/
def laneModeSet (n : Nat) (raw : Bool) (m : Mach) : Mach :=
  if raw = rawLane m n then m
  else if raw then refreshPll (laneBlock n) ((m.wr (Lane.LANE_MODE n) 1).wr (Lane.LANE_STATE n) 5)
  else
    let m := ((m.wr (Lane.LANE_MODE n) 0).wr (Lane.LOOP n) 0).wr (Lane.PRBS_GEN n) 0
    let m := ((m.wr (Lane.PRBS_CHK n) 0).wr (Lane.CHK_LOCK n) 0).wr (Lane.DOZE n) 0
    let m := (m.wr (Lane.LANE_STATE n) 0).updLane n fun x => { LaneSt.reset with matches_ := x.matches_, fir := x.fir, stopped := x.stopped }
    refreshPll (laneBlock n) m

/-- The largest count of the checker (R115). -/
def prbsMax : Nat := 2 ^ 48 - 1

/-- A pattern code is one of R113 and valid for the rate. -/
def patternOk (rate code : Nat) (gen : Bool) : Bool := code ≤ 4 || (code == 5 && pam4 rate) || (code == 6 && gen)

/-- A write of PRBS_GEN: the pattern begins. The bits that it begins with are open, but never all zero (R113, log entry 139). -/
def generatorSet (n code : Nat) (m : Mach) : Mach :=
  let m := m.wr (Lane.PRBS_GEN n) code
  if code = 0 || code = 6 then m.updLane n fun x => { x with gen := 0, phase := 0 }
  else
    let (f, m) := m.fresh
    m.updLane n fun x => { x with gen := f % (2 ^ patternLength code - 1) + 1 }

/-- A write of PRBS_CHK: the checker seeds itself, or is off. -/
def checkerSet (n code : Nat) (m : Mach) : Mach :=
  let m := m.updLane n fun x => { x with past := 0, run := 0, errs := 0 }
  (m.wr (Lane.PRBS_CHK n) code).wr (Lane.CHK_LOCK n) (if code = 0 then 0 else 1)

/-- 256 consecutive bits match the pattern (R114). -/
def chkLock (n : Nat) (m : Mach) : Mach :=
  if rawLane m n && m.rd (Lane.CHK_LOCK n) = 1 then
    (m.wr (Lane.CHK_LOCK n) 2).updLane n fun x => { x with run := 0, errs := 0 }
  else m

/-- The checker loses lock and seeds itself again (R114). -/
def chkLost (n : Nat) (m : Mach) : Mach :=
  if rawLane m n && m.rd (Lane.CHK_LOCK n) = 2 then
    blockEvent (laneBlock n) 3 ((m.wr (Lane.CHK_LOCK n) 1).bump (Lane.CHK_LOST n) 1)
  else m

/-- Lane n delivers symbols in raw test mode: its PLL is locked, and it neither dozes nor wakes (R103, R104, R108). -/
def rawRuns (m : Mach) (n : Nat) : Bool :=
  rawLane m n && m.rd (Lane.LANE_STATE n) == 5 && m.rd (Blk.PLL_STATE (laneBlock n)) == 2

/-- The checker's counters move (R114, R115). -/
def counting (m : Mach) (n : Nat) : Bool :=
  rawRuns m n && m.rd (Lane.CHK_LOCK n) == 2 && m.rd (Lane.PRBS_BITS n) < prbsMax

/-- The bits of the generator of lane n in a stitch, with the bits that PRBS_INJECT inverts, the earliest of the stitch (R113, R117). -/
def generate (n : Nat) (m : Mach) : Nat × Mach :=
  let x := m.lane n
  let size := rateBits (m.rd (Lane.TEST_RATE n))
  let code := m.rd (Lane.PRBS_GEN n)
  let (bits, past) := if code = 6 then (repeatedBits (m.rd (Lane.ALIGN_PATTERN n)) x.phase size, x.gen) else patternBits code size x.gen
  let k := min x.inverted size
  (Nat.xor bits (2 ^ k - 1), m.updLane n fun x => { x with gen := past, phase := (x.phase + size) % 64, inverted := x.inverted - k })

/-- Received bits at the checker of lane n (R114, R115). -/
def checkBits (n size bits : Nat) (m : Mach) : Mach :=
  let code := m.rd (Lane.PRBS_CHK n)
  if code = 0 then m
  else
    let x := m.lane n
    let was : Checker := ⟨m.rd (Lane.CHK_LOCK n) == 2, x.past, x.run, x.errs, x.skip, m.rd (Lane.PRBS_BITS n), m.rd (Lane.PRBS_ERR n), 0⟩
    let now := was.takeAll code size bits
    let m := m.updLane n fun x => { x with past := now.past, run := now.run, errs := now.errs, skip := now.skip }
    let m := if was.bits < prbsMax then
        (m.wr (Lane.PRBS_BITS n) (min prbsMax now.bits)).wr (Lane.PRBS_ERR n) (min prbsMax now.bad)
      else m
    let m := (m.wr (Lane.CHK_LOCK n) (if now.locked then 2 else 1)).bump (Lane.CHK_LOST n) now.losses
    if now.losses = 0 then m else blockEvent (laneBlock n) 3 m

/-- Received bits at the alignment detector of lane n, as words of 64 bits from the word boundary on (R118, R119). -/
def alignBits (n size bits : Nat) (m : Mach) : Mach :=
  let x := m.lane n
  let cut := min x.late size
  let len := x.tailLen + (size - cut)
  let all := x.tail + bits / 2 ^ cut * 2 ^ x.tailLen
  let words := (List.range (len / 64)).map fun i => getBits all (64 * i) 64
  let (st, seen) := words.foldl (alignWord (m.rd (Lane.ALIGN_PATTERN n))) (m.rd (Lane.ALIGN_STATE n), x.matches_)
  (m.wr (Lane.ALIGN_STATE n) st).updLane n fun x => { x with
    late := x.late - cut, tailLen := len % 64, tail := all / 2 ^ (64 * (len / 64)) % 2 ^ (len % 64), matches_ := seen }

/-- A stitch of a lane in raw test mode (R107, R112, R113): what its generator sends and what its balls carry, and what its receiver
delivers. A lane of whose receive balls the strobe names nothing counts the bits of the stitch as compared, and the strobe's defects name
those in error (log entry 140). -/
def rawLaneStitch (rx : List (Nat × Nat)) (n : Nat) (m : Mach) : Mach :=
  let rate := m.rd (Lane.TEST_RATE n)
  let size := rateBits rate
  let loop_ := m.rd (Lane.LOOP n)
  let on := m.on (Lane.PRBS_GEN n)
  let (bits, m) := if on && loop_ != 3 then generate n m else (0, m)
  let sent := toLine rate size (m.on (Lane.TX_INVERT n)) bits
  let came := (rx.find? (·.1 == n)).map (·.2 % 2 ^ size)
  let m := if loop_ = 3 then (match came with
      | some v => m.emit (.symbols n v)
      | none => m)
    else if on && loop_ != 2 then m.emit (.symbols n sent) else m
  let m := if loop_ = 0 || loop_ = 3 then (if came.isSome then m.wr (Lane.RX_DETECT n) 1 else m) else m
  let heard := match loop_ with
    | 1 => if on then some (fromLine rate size (m.on (Lane.RX_INVERT n)) sent) else none
    | 2 => if on then some bits else none
    | _ => came.map (fromLine rate size (m.on (Lane.RX_INVERT n)))
  match heard with
  | some v => checkBits n size v (alignBits n size v m)
  | none =>
    if !counting m n then m
    else
      let skip := (m.lane n).skip
      let m := if skip = 0 then m else m.updLane n fun x => { x with skip := skip - size }
      m.wr (Lane.PRBS_BITS n) (min prbsMax (m.rd (Lane.PRBS_BITS n) + (size - skip)))

/-- A stitch of the lanes in raw test mode. -/
def prbsStitch (rx : List (Nat × Nat)) (m : Mach) : Mach := forAll ((List.range 288).filter (rawRuns m)) (rawLaneStitch rx) m

/-- Compared bits are in error. -/
def prbsErrors (n bits : Nat) (m : Mach) : Mach :=
  if counting m n then m.wr (Lane.PRBS_ERR n) (min prbsMax (m.rd (Lane.PRBS_ERR n) + bits)) else m

/-- PRBS_BITS has reached its maximum, and both counters stop (R115). -/
def prbsStop (n : Nat) (m : Mach) : Mach :=
  if rawLane m n && m.rd (Lane.PRBS_BITS n) = prbsMax && !(m.lane n).stopped then
    blockEvent (laneBlock n) 3 (m.updLane n fun x => { x with stopped := true })
  else m

def prbsClear (n : Nat) (m : Mach) : Mach :=
  ((m.wr (Lane.PRBS_ERR n) 0).wr (Lane.PRBS_BITS n) 0).updLane n fun x => { x with stopped := false }

/-- PRBS_SNAP (R116). -/
def prbsSnap (n : Nat) (m : Mach) : Mach :=
  let m := (m.wr (Lane.SNAP_ERR n) (m.rd (Lane.PRBS_ERR n))).wr (Lane.SNAP_BITS n) (m.rd (Lane.PRBS_BITS n))
  m.wr (Lane.SNAP_STITCH n) (m.now.stitch - 1)

/-- PRBS_INJECT (R117). -/
def prbsInject (n : Nat) (m : Mach) : Mach := m.updLane n fun x => { x with inverted := x.inverted + 1 }

/-! ### Bit-slip alignment (R118, R119) -/

/-- Lane n is a seam lane in the manual bring-up state. -/
def manualLane (m : Mach) (n : Nat) : Bool :=
  match seamOfBlock m (laneBlock n) with
  | some (s, _) => m.rd (SeamStat.LINK_STATE s) == 2
  | none => false

/-- Rate of a lane whose alignment is found by slipping. -/
def slipRate (m : Mach) (n : Nat) : Nat :=
  if rawLane m n then m.rd (Lane.TEST_RATE n)
  else match seamOfBlock m (laneBlock n) with
    | some (s, _) => m.rd (SeamStat.RATE_NOW s)
    | none => 0

/-- Why SLIP fails. -/
def slipCheck (n : Nat) (m : Mach) : Option Status :=
  if !rawLane m n && !manualLane m n then some .state
  else if (m.lane n).slipping then some .busy
  else none

/-- SLIP 1 begins to move the word boundary. -/
def slip (n : Nat) (m : Mach) : Mach := m.updLane n fun x => { x with slipping := true }

/-- The alignment detector begins again. -/
def alignPending (n : Nat) (m : Mach) : Mach :=
  (m.wr (Lane.ALIGN_STATE n) 0).updLane n fun x => { x with matches_ := 0 }

/-- The slip has taken effect: SLIP_POS counts it, and the word over the boundary leaves the checker's count. -/
def slipDone (n : Nat) (m : Mach) : Mach :=
  if (m.lane n).slipping then
    let places := if pam4 (slipRate m n) then 32 else 64
    let m := m.wr (Lane.SLIP_POS n) ((m.rd (Lane.SLIP_POS n) + 1) % places)
    let lock := m.rd (Lane.CHK_LOCK n) = 2
    alignPending n (m.updLane n fun x => { x with
      slipping := false, skip := if lock then x.skip + 64 else x.skip, late := x.late + (if pam4 (slipRate m n) then 2 else 1) })
  else m

/-- Words that the receiver delivers at its parallel interface are compared with ALIGN_PATTERN (R119). -/
def alignDetect (n : Nat) (words : List Nat) (m : Mach) : Mach :=
  if rawLane m n || manualLane m n then
    let (st, seen) := words.foldl (alignWord (m.rd (Lane.ALIGN_PATTERN n))) (m.rd (Lane.ALIGN_STATE n), (m.lane n).matches_)
    (m.wr (Lane.ALIGN_STATE n) st).updLane n fun x => { x with matches_ := seen }
  else m

/-! ### Deep doze (R108, R109) -/

/-- Lane n begins deep doze. -/
def dozeBegin (n : Nat) (m : Mach) : Mach :=
  let b := laneBlock n
  let was : DozeWas := ⟨m.now.stitch, m.rd (Lane.LANE_STATE n), m.rd (Blk.PLL_STATE b), m.rd (PortStat.LTSSM (lanePort m n))⟩
  refreshPll b ((m.wr (Lane.LANE_STATE n) 1).updLane n fun x => { x with entered := some was })

/-- A port enters L1 (level 0), L1.1 (1) or L1.2 (2), under ASPM as its entry allows or by the host's PCI-PM (R70, R108). The lanes drive
electrical idle, and in L1.2 lane n begins deep doze. -/
def portLowPower (n level : Nat) (pm : Bool) (m : Mach) : Mach :=
  let p := lanePort m n
  let l := m.rd (PortStat.LTSSM p)
  if m.on (Port.ENABLE p) && (l = 4 || l = 6) && (pm || level < m.rd (Port.ASPM p)) then
    if level = 2 then
      (dozeBegin n m).wr (PortStat.LTSSM p) 6
    else (setLane n 3 m).wr (PortStat.LTSSM p) 6
  else m

/-- A lane enters deep doze: a port lane with its port in L1.2, a seam lane of an inactive block, a raw lane with DOZE 1. A lane with an
exit request in the same stitch stays awake (R120). -/
def dozeEntry (n level : Nat) (pm : Bool) (m : Mach) : Mach :=
  let b := laneBlock n
  if !m.domOn (laneDomain n) || (m.lane n).wake || (m.lane n).exitAt = some m.now.stitch || m.rd (Lane.LANE_STATE n) = 1 then m
  else if rawLane m n then
    (if m.on (Lane.DOZE n) then dozeBegin n m else m)
  else if n < 256 then portLowPower n level pm m
  else match seamOfBlock m b with
    | some (s, i) =>
      if m.rd (SeamStat.LINK_STATE s) = 3 && !m.bit (SeamStat.MASK_NOW s) i && !bitAt (m.seam s).standby i then dozeBegin n m
      else m
    | none => m

/-- The entry of lane n in this stitch, which an exit request of the same stitch finds not begun (R120). -/
def dozeUndo (n : Nat) (w : DozeWas) (m : Mach) : Mach :=
  let b := laneBlock n
  let m := (m.wr (Lane.LANE_STATE n) w.state).updLane n fun x => { x with entered := none }
  let m := if m.rd (Blk.PLL_STATE b) = 0 then m.wr (Blk.PLL_STATE b) w.pll else m
  if n < 256 && !rawLane m n then m.wr (PortStat.LTSSM (lanePort m n)) w.ltssm else m

/-- A lane in deep doze is asked to leave it. Where its block's PLL is stopped the switch asks for a staged wake (R110). -/
def dozeExit (n : Nat) (m : Mach) : Mach :=
  let b := laneBlock n
  let m := m.updLane n fun x => { x with exitAt := some m.now.stitch }
  if m.domOn (laneDomain n) && m.rd (Lane.LANE_STATE n) = 1 then
    match (m.lane n).entered.filter (·.stitch == m.now.stitch) with
    | some w => dozeUndo n w m
    | none =>
      let ran := m.rd (Blk.PLL_STATE b) == 2
      let m := (m.wr (Lane.LANE_STATE n) 2).updLane n fun x => { x with wake := true, pllRan := ran }
      if m.rd (Blk.PLL_STATE b) = 0 then stagePll b m else m
  else if n < 256 && !rawLane m n && m.rd (PortStat.LTSSM (lanePort m n)) = 6 && m.rd (Lane.LANE_STATE n) = 3 then
    m.wr (PortStat.LTSSM (lanePort m n)) 5
  else m

/-- The request that asks lane n to leave deep doze: CLKREQ_N of its port, a seam command, or DOZE written 0. -/
def dozeExitRequest (n : Nat) (m : Mach) : Mach :=
  if rawLane m n && m.on (Lane.DOZE n) then m else dozeExit n m

/-- DOZE of a lane in raw test mode. -/
def dozeSet (n : Nat) (v : Bool) (m : Mach) : Mach :=
  let m := m.wr (Lane.DOZE n) (if v then 1 else 0)
  if v then dozeEntry n 2 false m else dozeExit n m

/-- A lane finishes waking after `us` microseconds, counted from relock where it waited for one (R109, R120). -/
def dozeExitDone (n us : Nat) (m : Mach) : Mach :=
  let b := laneBlock n
  if m.domOn (laneDomain n) && m.rd (Lane.LANE_STATE n) = 2 && m.rd (Blk.PLL_STATE b) = 2 then
    let bound := if (m.lane n).pllRan then 20 else 40
    let m := (m.updLane n fun x => { x with wake := false }).bump (Blk.DOZE_EXITS b) 1
    let m := m.wr (Blk.DOZE_EXIT_MAX_US b) (max us (m.rd (Blk.DOZE_EXIT_MAX_US b)))
    let active := match seamOfBlock m b with
      | some (s, _) => m.rd (SeamStat.LINK_STATE s) == 3
      | none => false
    let m := m.wr (Lane.LANE_STATE n) (if rawLane m n then 5 else if n < 256 || !active then 3 else 4)
    let p := lanePort m n
    let m := if n < 256 && !rawLane m n && m.rd (PortStat.LTSSM p) = 6 then m.wr (PortStat.LTSSM p) 5 else m
    if bound < us then blockEvent b 2 m else m
  else m

end Sys2Proof.Machine
end

