-- ==== Sys2Proof/Machine/Seam.lean ====
section
/-! DEFINITION. The Epyaro link (chapter 5): frames, sequence and replay, credits, lane commands, training and loss of the
seams. -/

namespace Sys2Proof.Machine

/-! ### Lanes, masks and events -/

/-- The link logic is on (PD63). -/
def seamsOn (m : Mach) : Bool := m.domOn 63

/-- LINK_STATE of seam s. -/
def linkOf (m : Mach) (s : Nat) : Nat := m.rd (SeamStat.LINK_STATE s)

/-- Event k of seam s (R153). -/
def seamEvent (s k : Nat) (m : Mach) : Mach := raiseEv (1440 + 8 * s + k) { noCtx with level := 4, kind := 7, unit := s } m

/-- Lane blocks that seam s has in the selected mode (R122). -/
def seamBlocks (m : Mach) (s : Nat) : Nat :=
  match m.rd Seam.SEAM_MODE with
  | 1 => if s = 0 then 4 else 0
  | 2 => 2
  | _ => 0

/-- Lane block of block bit b of seam s, and its lanes. -/
def seamBlock (s b : Nat) : Nat := 32 + 2 * s + b
def seamLanes (s b : Nat) : List Nat := (List.range 8).map (8 * seamBlock s b + ·)

/-- A mask that a seam can be active on (R122). -/
def validMask (m : Mach) (s mask : Nat) : Bool :=
  mask < 2 ^ seamBlocks m s && (popCount 4 mask == 4 || popCount 4 mask == 2 || popCount 4 mask == 1)

/-- The widest valid mask within `allowed`, of the lowest-numbered blocks (R146, R148); 0 for none. -/
def widestMask (m : Mach) (s allowed : Nat) : Nat :=
  ((List.range 16).filter fun k => validMask m s k && Nat.land k allowed == k).foldl
    (fun best k => if popCount 4 k > popCount 4 best then k else best) 0

/-- LANE_MASK less MARGINAL. -/
def usableMask (m : Mach) (s : Nat) : Nat :=
  let lm := m.rd (SeamCfg.LANE_MASK s)
  Nat.land lm 15 - Nat.land (Nat.land lm 15) (m.rd (SeamStat.MARGINAL s))

/-- Set the state of the lanes of the blocks of a mask. -/
def setSeamLanes (s mask v : Nat) (m : Mach) : Mach :=
  forAll (bitsSet 4 mask) (fun b m =>
    refreshPll (seamBlock s b) (forAll (seamLanes s b) (setLane · v) m)) m

/-- The lanes of the blocks of a mask take state v; one in deep doze is asked to leave it, and one that wakes goes on (R109, R145). -/
def raiseSeamLanes (s mask v : Nat) (m : Mach) : Mach :=
  forAll (bitsSet 4 mask) (fun b m =>
    refreshPll (seamBlock s b) (forAll (seamLanes s b) (fun l m =>
      if m.rd (Lane.LANE_STATE l) = 1 then dozeExit l m else if m.rd (Lane.LANE_STATE l) = 2 then m else setLane l v m) m)) m

/-- Mark a block in MARGINAL (R146, R149). -/
def markMarginal (s b : Nat) (m : Mach) : Mach :=
  if m.bit (SeamStat.MARGINAL s) b then m else seamEvent s 5 (m.putBit (SeamStat.MARGINAL s) b true)

/-- The VC carries mirror records, whose slots are freed when they have been applied (R391). -/
def mirrorVc (m : Mach) (s v : Nat) : Bool := m.rd (SeamCfg.SEAM_ROLE s) == 0 && v == seamVcOf m s 4

/-! ### Sequence, credits -/

def seamNext (m : Mach) (s : Nat) : Nat := m.rd (SeamStat.NEXT_SEQ s)
def seamOldest (m : Mach) (s : Nat) : Nat := m.rd (SeamStat.OLDEST s)
def seamExpect (m : Mach) (s : Nat) : Nat := m.rd (SeamStat.EXPECT s)

/-- Frames outstanding (R130). -/
def outstanding (m : Mach) (s : Nat) : Nat := (seamNext m s + 4096 - seamOldest m s) % 4096

/-- Element v of a list of counts by VC, and the list with it changed. -/
def vcGet (l : List Nat) (v : Nat) : Nat := l.getD v 0
def vcSet (l : List Nat) (v x : Nat) : List Nat := (List.range 8).map fun i => if i = v then x % 65536 else l.getD i 0

/-- Credits held for VC v (R139). -/
def seamCredits (x : SeamSt) (v : Nat) : Nat := vcGet x.peerBuf v - (vcGet x.sent v + 65536 - vcGet x.returned v) % 65536

/-- OUTSTANDING and CREDITS read what is held. -/
def refreshSeam (s : Nat) (m : Mach) : Mach :=
  (m.wr (SeamStat.OUTSTANDING s) (outstanding m s)).wr (SeamStat.CREDITS s)
    (packFields 16 ((List.range 8).map (seamCredits (m.seam s))))

/-- Everything of the sequence and the credits starts at zero. -/
def zeroSequence (s : Nat) (m : Mach) : Mach :=
  let m := ((m.wr (SeamStat.NEXT_SEQ s) 0).wr (SeamStat.OLDEST s) 0).wr (SeamStat.EXPECT s) 0
  let m := m.updSeam s fun x => { x with
    replay := [], cursor := none, nakPending := false, nakDue := false, ackDue := false, ackSent := 0, replays := 0, replayFrom := none
    sent := SeamSt.reset.sent, returned := SeamSt.reset.returned, freed := SeamSt.reset.freed, peerBuf := SeamSt.reset.peerBuf }
  refreshSeam s (mirrorRestart s m)

/-! ### Training, retraining and loss (R147 to R150) -/

/-- Pending lane commands are abandoned (R149). -/
def dropCommands (s : Nat) (m : Mach) : Mach :=
  let x := m.seam s
  let had := x.cmd.isSome || x.switching.isSome
  let m := (m.updSeam s fun x => { x with cmd := none, cmdSent := false, answer := none, switching := none }).wr
    (SeamStat.LCMD_STATE s) 0
  if had then seamEvent s 7 m else m

/-- A full training begins (R147): at 32 GT/s on every lane of LANE_MASK; with MANUAL it stops in the manual state. -/
def seamTrain (s : Nat) (m : Mach) : Mach :=
  let m := (dropCommands s m).bump (SeamCnt.RETRAINS s) 1
  let m := (m.wr (SeamStat.LINK_STATE s) (if m.on (SeamCfg.MANUAL s) then 2 else 1)).wr (SeamStat.RATE_NOW s) 4
  let m := (m.wr (SeamStat.MASK_NOW s) 0).wr (SeamStat.WIDTH_NOW s) 0
  let m := m.updSeam s fun x => { x with
    peer := none, cursor := none, badRun := 0, standby := 0, final := false, initSent := false, inits := 0 }
  raiseSeamLanes s (Nat.land (m.rd (SeamCfg.LANE_MASK s)) (2 ^ seamBlocks m s - 1)) 3 (m.beginWait (waitTraining s))

/-- The seam leaves traffic: what it held is discarded, the transactions that crossed it end as a link loss, and its credits
are zero (R150 steps 1 to 3). Mirror records already received stay to be applied (R391). -/
def seamStop (s : Nat) (m : Mach) : Mach :=
  let m := m.updSeam s fun x => { x with
    rx := x.rx.filter fun r => mirrorVc m s r.vc
    arrived := [], peer := none, resume := false, badRun := 0 }
  let m := m.updCore fun c => { c with seamTx := Tab.put [] c.seamTx s [] }
  let m := zeroSequence s (dropCommands s m)
  let m := ((m.wr (SeamStat.RATE_NOW s) 0).wr (SeamStat.MASK_NOW s) 0).wr (SeamStat.WIDTH_NOW s) 0
  endPort (65 + s) m

/-- The seam goes down (R150). -/
def seamDown (s : Nat) (m : Mach) : Mach :=
  noteFall s (seamEvent s 1 (((seamStop s m).wr (SeamStat.LINK_STATE s) 5).beginWait (waitDown s)))

/-- A full training fails: three in a row take the seam down (R150). A seam that was already down stays down. -/
def trainFail (s : Nat) (m : Mach) : Mach :=
  let n := (m.seam s).fails + 1
  let m := m.updSeam s fun x => { x with fails := min n 4 }
  if n < 3 then seamTrain s m
  else if n = 3 then seamDown s m
  else (dropCommands s m).wr (SeamStat.LINK_STATE s) 5

/-- The conditions on the settings of a seam to be enabled (R122, R138, R139). -/
def seamConfigOk (m : Mach) (s : Nat) : Bool :=
  let n := m.rd (SeamCfg.VC_COUNT s)
  let vc := seamVcOf m s
  let kind := fun c => [0, 1, 2, 2, 3, 0, 0, 2].getD c 0
  let twin := m.rd (SeamCfg.SEAM_ROLE s) == 0
  let cs := List.range 8
  seamBlocks m s != 0 && cs.all (fun c => vc c < n) &&
  cs.all (fun c => cs.all fun d => kind c == kind d || vc c != vc d) &&
  (!twin || (4 ≤ n && [1, 4].all fun c => cs.all fun d => c == d || vc c != vc d)) &&
  ((List.range 8).map fun v => getBits (m.rd (SeamCfg.VC_BUF s)) (16 * v) 16).sum ≤
    (if m.rd Seam.SEAM_MODE = 1 then 16384 else 8192)

/-- Why SEAM_ENABLE 1 fails. -/
def seamEnableCheck (s : Nat) (m : Mach) : Option Status :=
  if m.on (SeamCfg.SEAM_ENABLE s) then none
  else if !seamConfigOk m s then some .state
  else if (List.range 8).any fun b => b < seamBlocks m s && (seamLanes s b).any fun l => m.rd (Lane.LANE_MODE l) == 1
  then some .state else none

/-- Why a write of a setting that is fixed while the seam is enabled fails (R152). -/
def seamFixedCheck (s : Nat) (m : Mach) : Option Status := if m.on (SeamCfg.SEAM_ENABLE s) then some .state else none

/-- SEAM_MODE is writable while both SEAM_ENABLE are 0. -/
def seamModeCheck (m : Mach) : Option Status :=
  if m.on (SeamCfg.SEAM_ENABLE 0) || m.on (SeamCfg.SEAM_ENABLE 1) then some .state else none

/-- SEAM_ENABLE goes from 0 to 1: training begins when the link logic is on. -/
def seamEnable (s : Nat) (m : Mach) : Mach :=
  if m.on (SeamCfg.SEAM_ENABLE s) then m
  else
    let m := (m.wr (SeamCfg.SEAM_ENABLE s) 1).updSeam s fun x => { x with fails := 0, resume := false }
    if seamsOn m && m.rd Col.FATAL_STATE = 0 then seamTrain s m else m

/-- SEAM_ENABLE goes from 1 to 0: the seam stops (R150). -/
def seamDisable (s : Nat) (m : Mach) : Mach :=
  if !m.on (SeamCfg.SEAM_ENABLE s) then m
  else
    let was := linkOf m s
    let m := m.wr (SeamCfg.SEAM_ENABLE s) 0
    let m := if was = 0 || was = 5 then m else seamStop s m
    let m := if was = 3 || was = 4 then noteFall s (seamEvent s 1 m) else m
    setSeamLanes s (2 ^ seamBlocks m s - 1) 0 (m.wr (SeamStat.LINK_STATE s) 0)

/-- MANUAL_GO: training goes on from the manual state (R147). -/
def manualGo (s : Nat) (m : Mach) : Mach := if linkOf m s = 2 then m.wr (SeamStat.LINK_STATE s) 1 else m

/-- A retrain (R149): steps 3 to 6 of R147 again at the current rate. -/
def seamRetrain (s : Nat) (m : Mach) : Mach :=
  if linkOf m s != 3 then m
  else
    let m := ((dropCommands s (m.wr (SeamStat.LINK_STATE s) 4)).bump (SeamCnt.RETRAINS s) 1).beginWait (waitRetrain s)
    seamEvent s 4 (m.updSeam s fun x => { x with peer := none, cursor := none, badRun := 0, final := true, initSent := false, inits := 0 })

/-- A block of a seam has lost its signal, its lock or its reference (R149): an active block leaves the set, and the seam retrains without
it unless it already does. -/
def seamBlockLost (s b : Nat) (m : Mach) : Mach :=
  if linkOf m s != 3 && linkOf m s != 4 then m
  else if m.bit (SeamStat.MASK_NOW s) b then seamRetrain s (markMarginal s b m)
  else m.updSeam s fun x => { x with standby := setBit x.standby b false }

/-- A retrain has not finished within 50 µs: it becomes a full training (R149). -/
def retrainTimeout (s : Nat) (m : Mach) : Mach :=
  if linkOf m s = 4 && m.waited (waitRetrain s) (usStitches 50) then seamTrain s m else m

/-- Training has not finished within 10 ms, in the manual state or beyond it (R147). -/
def trainingTimeout (s : Nat) (m : Mach) : Mach :=
  if (linkOf m s = 1 || linkOf m s = 2) && m.waited (waitTraining s) (msStitches 10) then trainFail s m else m

/-- A down seam trains again every 100 ms (R150). -/
def seamDownRetry (s : Nat) (m : Mach) : Mach :=
  if linkOf m s = 5 && m.on (SeamCfg.SEAM_ENABLE s) && seamsOn m && m.rd Col.FATAL_STATE = 0 && m.waited (waitDown s) (msStitches 100) then
    seamTrain s (m.beginWait (waitDown s))
  else m

/-- ROLE of this side's INIT record. -/
def initRole (m : Mach) (s : Nat) : Nat := if m.rd (SeamCfg.SEAM_ROLE s) = 1 then 2 else m.rd Ident.ROLE

/-- The peer's INIT record does not fit this side's (R148). -/
def initMismatch (m : Mach) (s : Nat) (f : InitRecord) : Bool :=
  let twin := m.rd (SeamCfg.SEAM_ROLE s) == 0
  f.vcCount != m.rd (SeamCfg.VC_COUNT s) || f.vcMap != m.rd (SeamCfg.VC_MAP s) ||
  (twin && f.role == initRole m s) || ((f.role == 2) != !twin) ||
  (twin && m.rd Seam.SEAM_MODE == 2 && m.rd (SeamCfg.SEAM_ROLE (1 - s)) == 0 &&
    m.rd (SeamStat.PEER_SERIAL (1 - s)) != 0 && m.on (SeamCfg.SEAM_ENABLE (1 - s)) &&
    m.rd (SeamStat.PEER_SERIAL (1 - s)) != f.serial)

/-- Both sides have exchanged INIT frames: they change to the lower of their target rates, where word alignment is found again, by hand
where MANUAL asks for it (R147 steps 2 to 5). -/
def rateStep (s : Nat) (m : Mach) : Mach :=
  let x := m.seam s
  match x.peer with
  | some f =>
    if x.final || !x.initSent then m
    else
      let m := (m.wr (SeamStat.RATE_NOW s) (min (m.rd (SeamCfg.TARGET_RATE s)) f.rate)).updSeam s fun x => { x with final := true, inits := 0 }
      if m.on (SeamCfg.MANUAL s) then m.wr (SeamStat.LINK_STATE s) 2 else m
  | none => m

/-- The lanes of block b of seam s are up: their PLL is locked and none is in deep doze or waking. -/
def blockReady (m : Mach) (s b : Nat) : Bool :=
  m.rd (Blk.PLL_STATE (seamBlock s b)) == 2 && (seamLanes s b).all fun l => 3 ≤ m.rd (Lane.LANE_STATE l)

/-- The blocks that a training or a retrain uses: all of LANE_MASK in a full training; in a retrain those that are not in deep doze, which
stay there until a WAKE or a LINK_CMD 3 (R145, R147, R149, log entry 142). -/
def trainMask (m : Mach) (s : Nat) : Nat :=
  let all := Nat.land (m.rd (SeamCfg.LANE_MASK s)) (2 ^ seamBlocks m s - 1)
  if linkOf m s = 4 then Nat.land all (Nat.lor (m.rd (SeamStat.MASK_NOW s)) (m.seam s).standby) else all

/-- 64 good INIT frames in a row at the final rate: the seam becomes active (R147, R148, R149). -/
def seamActive (s : Nat) (m : Mach) : Mach :=
  if !seamsOn m || (linkOf m s != 1 && linkOf m s != 4) || m.rd Col.FATAL_STATE != 0 || (m.seam s).inits < 64 then m
  else
    match (m.seam s).peer with
    | none => m
    | some f =>
      let rest := trainMask m s
      let mask := widestMask m s (Nat.land (Nat.land (usableMask m s) rest) f.mask)
      if !((bitsSet 4 mask).all (blockReady m s)) || mask = 0 then m
      else
        let m := if (m.seam s).resume && f.resume then m else zeroSequence s m
        let full := linkOf m s == 1
        let m := ((m.wr (SeamStat.MASK_NOW s) mask).wr (SeamStat.WIDTH_NOW s) (8 * popCount 4 mask)).wr (SeamStat.LINK_STATE s) 3
        let m := m.updSeam s fun x => { x with
          resume := true, fails := 0, badRun := 0, framedAt := m.now.stitch, timerAt := m.now.ftime
          peerBuf := (List.range 8).map fun v => getBits f.vcBuf (16 * v) 16
          cursor := x.replay.head?.map (·.seq), replayFrom := x.replay.head?.map (·.seq)
          standby := rest - Nat.land rest mask }
        let m := refreshSeam s (seamEvent s 0 (raiseSeamLanes s rest 4 m))
        if full then sendHello m else m

/-- An active lane has been without signal for 1 µs (R149). -/
def laneSignalLoss (s lane : Nat) (m : Mach) : Mach :=
  let m := if m.domOn (blockDomain (seamBlock s (lane / 8))) then m.wr (Lane.RX_DETECT (256 + 16 * s + lane)) 0 else m
  seamBlockLost s (lane / 8) m

/-! ### Lane commands (R143 to R146, R152) -/

/-- Own receivers hold every lane of a mask aligned: its blocks are active or in standby, and none of their lanes still leaves deep doze. -/
def masksAligned (m : Mach) (s mask : Nat) : Bool :=
  let held := Nat.lor (m.rd (SeamStat.MASK_NOW s)) (m.seam s).standby
  Nat.land mask held == mask && (bitsSet 4 mask).all (blockReady m s)

/-- A lane command of this side is pending. -/
def commandPending (m : Mach) (s : Nat) : Bool := (m.seam s).cmd.isSome || (m.seam s).switching.isSome

/-- LANE_CMD with LCMD_STATE v. -/
def laneCmdEnd (s v : Nat) (m : Mach) : Mach := seamEvent s 7 (m.wr (SeamStat.LCMD_STATE s) v)

/-- A set may be proposed: valid, within LANE_MASK, without a marginal block, aligned here, and not the active one. -/
def mayPropose (m : Mach) (s mask : Nat) : Bool :=
  validMask m s mask && Nat.land mask (usableMask m s) == mask && masksAligned m s mask

/-- Propose a new active set (R143). -/
def propose (s mask : Nat) (m : Mach) : Mach :=
  let t := ((m.seam s).tag + 1) % 16
  ((m.updSeam s fun x => { x with tag := t, cmd := some ⟨1, mask, t⟩, cmdSent := false }).wr (SeamStat.LCMD_STATE s) 1).beginWait (waitLcmd s)

/-- Inactive blocks of a mask enter standby, or deep doze (R145). -/
def blocksStandby (s mask : Nat) (m : Mach) : Mach :=
  let k := mask - Nat.land mask (m.rd (SeamStat.MASK_NOW s))
  let k := Nat.land k (2 ^ seamBlocks m s - 1)
  raiseSeamLanes s k 4 (m.updSeam s fun x => { x with standby := Nat.lor x.standby k })
def blocksDoze (s mask : Nat) (m : Mach) : Mach :=
  let k := mask - Nat.land mask (m.rd (SeamStat.MASK_NOW s))
  let k := Nat.land k (2 ^ seamBlocks m s - 1)
  setSeamLanes s k 1 (m.updSeam s fun x => { x with standby := x.standby - Nat.land x.standby k })

/-- Both directions have changed: the switch is complete (R144, R145). -/
def switchEnd (s : Nat) (m : Mach) : Mach :=
  match (m.seam s).switching with
  | some w =>
    if w.txDone && w.rxDone then
      let old := m.rd (SeamStat.MASK_NOW s)
      let left := old - Nat.land old w.mask
      let m := (m.wr (SeamStat.MASK_NOW s) w.mask).wr (SeamStat.WIDTH_NOW s) (8 * popCount 4 w.mask)
      let m := m.updSeam s fun x => { x with switching := none, standby := x.standby - Nat.land x.standby w.mask }
      let m := if m.on (SeamCfg.DROP_DOZE s) then blocksDoze s left m else blocksStandby s left m
      let m := laneCmdEnd s 0 m
      if popCount 4 old != popCount 4 w.mask then seamEvent s 0 m else m
    else m
  | none => m

/-- Begin this side's own SWITCH countdown. -/
def countDown (s mask tag : Nat) (rx : Option Nat) (m : Mach) : Mach :=
  (m.updSeam s fun x => { x with
    cmd := none, answer := none, switching := some ⟨mask, tag, some 7, false, rx, false⟩ }).wr (SeamStat.LCMD_STATE s) 2

/-- This side's proposals win over the peer's (R145). -/
def seamMaster (m : Mach) (s : Nat) : Bool :=
  if m.rd (SeamCfg.SEAM_ROLE s) = 0 then m.rd Ident.ROLE == 0 else m.rd Ident.SERIAL < m.rd (SeamStat.PEER_SERIAL s)

/-- A received PROPOSE is answered (R143, R145). -/
def lcmdPropose (s mask tag : Nat) (aligned : Bool) (m : Mach) : Mach :=
  if linkOf m s != 3 || (m.seam s).switching.isSome then m
  else
    let own := (m.seam s).cmd.any fun k => k.cmd == 1
    if own && seamMaster m s then m
    else
      let m := if own then laneCmdEnd s 0 (m.updSeam s fun x => { x with cmd := none }) else m
      let ok := validMask m s mask && Nat.land mask (m.rd (SeamCfg.LANE_MASK s)) == mask && masksAligned m s mask && aligned
      m.updSeam s fun x => { x with answer := some ⟨if ok then 2 else 3, mask, tag⟩ }

/-- The own proposal that an answer names. -/
def answered (m : Mach) (s mask tag : Nat) : Bool := (m.seam s).cmd == some ⟨1, mask, tag⟩

/-- A received ACCEPT starts the countdown (R144). -/
def lcmdAccept (s mask tag : Nat) (m : Mach) : Mach :=
  if linkOf m s = 3 && answered m s mask tag then countDown s mask tag none m else m

/-- A received REFUSE ends the proposal (R143). -/
def lcmdRefuse (s mask tag : Nat) (m : Mach) : Mach :=
  if linkOf m s = 3 && answered m s mask tag then laneCmdEnd s 3 (m.updSeam s fun x => { x with cmd := none }) else m

/-- A received SWITCH: `left` frames still come on the old set; this side's own countdown starts with its next frame, under the tag of the
lane command (R144). -/
def lcmdSwitch (s mask tag left : Nat) (m : Mach) : Mach :=
  if linkOf m s != 3 then m
  else
    let m := match (m.seam s).switching with
      | some w => m.updSeam s fun x => { x with switching := some { w with rx := if w.rxDone then none else some left } }
      | none => countDown s mask tag (some left) m
    match (m.seam s).switching with
    | some w =>
      if left = 0 && !w.rxDone then
        switchEnd s (m.updSeam s fun x => { x with switching := some { w with rx := none, rxDone := true } })
      else m
    | none => m

/-- Received WAKE and DOZE (R145). -/
def lcmdWake (s mask : Nat) (m : Mach) : Mach := if linkOf m s = 3 then blocksStandby s mask m else m
def lcmdDoze (s mask : Nat) (m : Mach) : Mach := if linkOf m s = 3 then blocksDoze s mask m else m

/-- A PROPOSE has had no answer for 256 stitches (R143). -/
def lcmdTimeout (s : Nat) (m : Mach) : Mach :=
  if ((m.seam s).cmd.any fun k => k.cmd == 1) && m.waited (waitLcmd s) 256 then
    laneCmdEnd s 3 (m.updSeam s fun x => { x with cmd := none })
  else m

/-- Why a LINK_CMD of 2 to 4 fails (R143, R145, R152). -/
def linkCmdCheck (s v : Nat) (m : Mach) : Option Status :=
  if v = 1 then none
  else if linkOf m s != 3 then some .state
  else if commandPending m s then some .busy
  else if v = 2 && !mayPropose m s (m.rd (SeamCfg.LANE_SET s)) then some .state
  else none

/-- LINK_CMD 3 and 4: own blocks move, and the peer is told (R145). -/
def linkCmdBlocks (s cmd : Nat) (m : Mach) : Mach :=
  let k := m.rd (SeamCfg.LANE_SET s)
  let m := if cmd = 5 then blocksStandby s k m else blocksDoze s k m
  m.updSeam s fun x => { x with cmd := some ⟨cmd, k % 16, 0⟩, cmdSent := false }

/-- An accepted LINK_CMD. -/
def linkCmd (s v : Nat) (m : Mach) : Mach :=
  match v with
  | 1 => seamRetrain s m
  | 2 => propose s (m.rd (SeamCfg.LANE_SET s)) m
  | 3 => linkCmdBlocks s 5 m
  | _ => linkCmdBlocks s 6 m

/-- A 1 ms window of LANE_CORR ends, and the next begins (R146). -/
def laneErrWindow (s : Nat) (m : Mach) : Mach :=
  if !seamsOn m || !m.waited (waitLaneErr s) (msStitches 1) then m
  else
    let l := (m.seam s).corr
    let m := ((m.beginWait (waitLaneErr s)).wr (SeamStat.LANE_CORR s) (packFields 32 l)).updSeam s fun x => { x with corr := SeamSt.reset.corr }
    if !m.on (SeamCfg.AUTO_DEGRADE s) then m
    else
      let noisy := (List.range 4).filter fun b =>
        (List.range 8).any fun i => l.getD (8 * b + i) 0 > m.rd (SeamCfg.LANE_ERR_LIMIT s)
      let m := forAll noisy (markMarginal s) m
      let want := widestMask m s (usableMask m s)
      let now := m.rd (SeamStat.MASK_NOW s)
      if noisy.isEmpty || linkOf m s != 3 || commandPending m s || want = 0 || want = now || !mayPropose m s want then m
      else propose s want m

/-! ### Sending (R125 to R128, R132 to R137, R142) -/

/-- LCMD, LMASK, LTAG and LARG of the next PAYLOAD or CONTROL frame. -/
def laneField (x : SeamSt) : Nat × LaneCmd :=
  match x.switching with
  | some w =>
    (match w.tx with
     | some n => (n, ⟨4, w.mask, w.tag⟩)
     | none => (0, ⟨0, 0, 0⟩))
  | none =>
    match x.answer, x.cmd with
    | some a, _ => (0, a)
    | none, some k => (0, k)
    | none, none => (0, ⟨0, 0, 0⟩)

/-- A frame header (frame header table). -/
def frameHeader (ty vc seq ack : Nat) (nak : Bool) (larg : Nat) (k : LaneCmd) : Nat :=
  ty + vc * 2 ^ 4 + (if nak then 2 ^ 7 else 0) + seq * 2 ^ 8 + ack * 2 ^ 20 + k.cmd * 2 ^ 32 + k.mask % 16 * 2 ^ 36 +
  k.tag % 16 * 2 ^ 40 + larg % 16 * 2 ^ 44

/-- A control block and its slots (R128). -/
def framePayload (count poison : Nat) (credit slots : List Nat) : Nat :=
  count + poison * 2 ^ 8 + packFields 16 credit * 2 ^ 16 + packFields 576 slots * 2 ^ 144

/-- Lanes of the blocks of a mask, in ascending order, counted within seam s. -/
def maskLanes (mask : Nat) : List Nat := (bitsSet 4 mask).flatMap fun b => (List.range 8).map (8 * b + ·)

/-- The blocks on which seam s sends its next frame: those of the new set once its countdown has ended, the active ones, or in training the
widest set that it can use (R125, R144, log entry 142). -/
def txMask (m : Mach) (s : Nat) : Nat :=
  if linkOf m s = 3 then
    match (m.seam s).switching with
    | some w => if w.txDone then w.mask else m.rd (SeamStat.MASK_NOW s)
    | none => m.rd (SeamStat.MASK_NOW s)
  else widestMask m s (Nat.land (usableMask m s) (trainMask m s))

/-- The blocks on which its next frame arrives. -/
def rxMask (m : Mach) (s : Nat) : Nat :=
  if linkOf m s = 3 then
    match (m.seam s).switching with
    | some w => if w.rxDone then w.mask else m.rd (SeamStat.MASK_NOW s)
    | none => m.rd (SeamStat.MASK_NOW s)
  else txMask m s

/-- The symbols that each active lane carries of a frame: lane k of W carries bytes k, k + W and so on, each least significant bit first
(R100, R107, R125). -/
def striped (m : Mach) (s : Nat) (bytes : List Nat) : List (Nat × Nat) :=
  let lanes := maskLanes (txMask m s)
  let w := lanes.length
  let n := 256 / max 1 w
  (List.range w).map fun k =>
    let l := 256 + 16 * s + lanes.getD k 0
    let bits := packFields 8 ((List.range n).map fun i => bytes.getD (k + i * w) 0)
    (l, toLine (m.rd (SeamStat.RATE_NOW s)) (8 * n) (m.on (Lane.TX_INVERT l)) bits)

/-- The frame with its CRC and FEC, on the lanes that carry it (R125, R126). -/
def sealFrame (m : Mach) (s header payload : Nat) : Out :=
  let body := toBytes 8 header ++ toBytes 234 payload
  let crc := crc64 body
  let fec := rsParity (body ++ toBytes 8 crc)
  .frame s header payload crc (ofBytes fec) (striped m s (body ++ toBytes 8 crc ++ fec))

/-- A frame slot of the countdown has passed: after LARG 0 the transmitter is on the new set (R144). -/
def sentCommand (s : Nat) (m : Mach) : Mach :=
  match (m.seam s).switching with
  | some w =>
    (match w.tx with
     | some 0 => switchEnd s (m.updSeam s fun x => { x with switching := some { w with tx := none, txDone := true } })
     | some (n + 1) => m.updSeam s fun x => { x with switching := some { w with tx := some n } }
     | none => m)
  | none => m.updSeam s fun x => { x with cmdSent := x.cmd.isSome && x.answer.isNone }

/-- Send a PAYLOAD (1) or CONTROL (2) frame with what every such frame carries (R132, R133, R143). -/
def sendFrame (s ty vc seq poison : Nat) (slots : List Nat) (m : Mach) : Mach :=
  let x := m.seam s
  let (larg, k) := laneField x
  let h := frameHeader ty vc seq ((seamExpect m s + 4095) % 4096) x.nakDue larg k
  let m := m.emit (sealFrame m s h (framePayload slots.length poison x.freed slots))
  let m := m.bump (SeamCnt.FRAMES_TX s) 1
  let m := if x.nakDue then m.bump (SeamCnt.NAK_TX s) 1 else m
  let m := m.updSeam s fun x => { x with
    nakDue := false, ackDue := false, ackSent := seamExpect m s, framedAt := m.now.stitch }
  sentCommand s m

/-- The next frame of a replay (R135). -/
def sendReplay (s : Nat) (f : TxFrame) (m : Mach) : Mach :=
  let m := sendFrame s 1 f.vc f.seq f.poison f.slots m
  let next := (m.seam s).replay.dropWhile (fun g => g.seq != f.seq) |>.drop 1
  m.updSeam s fun x => { x with cursor := next.head?.map (·.seq) }

/-- Swatches ready on VC v, oldest first. -/
def seamReady (m : Mach) (s v : Nat) : List SeamSw := (Tab.get [] m.core.seamTx s).filter fun w => w.vc == v

/-- VCs that can send a new PAYLOAD frame. -/
def openVcs (m : Mach) (s : Nat) : List Nat :=
  if outstanding m s ≥ 2048 then []
  else (List.range 8).filter fun v => !(seamReady m s v).isEmpty && seamCredits (m.seam s) v > 0

/-- Drop the first n swatches of VC v. -/
def dropReady (v : Nat) : Nat → List SeamSw → List SeamSw
  | 0, l => l
  | _, [] => []
  | n + 1, w :: ws => if w.vc = v then dropReady v n ws else w :: dropReady v (n + 1) ws

/-- Send a new PAYLOAD frame of VC v: up to three swatches, as credits allow (R128, R129, R139). -/
def sendNew (s v : Nat) (m : Mach) : Mach :=
  let n := min 3 (seamCredits (m.seam s) v)
  let ws := (seamReady m s v).take n
  let k := ws.length
  let seq := seamNext m s
  let poison := packFields 1 (ws.map fun w => if w.failed then 1 else 0)
  let first := outstanding m s == 0
  let slots := ws.map (·.bits)
  let m := m.updCore fun c => { c with seamTx := Tab.upd [] c.seamTx s (dropReady v k) }
  let m := debitBobbinOf (7 + s) v k m
  let m := m.updSeam s fun x => { x with
    replay := x.replay ++ [⟨seq, v, poison, slots, m.now.ftime⟩]
    sent := vcSet x.sent v (vcGet x.sent v + k)
    timerAt := if first then m.now.ftime else x.timerAt }
  let m := m.wr (SeamStat.NEXT_SEQ s) ((seq + 1) % 4096)
  refreshSeam s (sendFrame s 1 v seq poison slots m)

/-- 64 stitches have passed, or ACK_BATCH frames have arrived, since the last acknowledgement (R133). -/
def ackWanted (m : Mach) (s : Nat) : Bool :=
  let x := m.seam s
  m.now.stitch ≥ x.framedAt + 64 || (seamExpect m s + 4096 - x.ackSent) % 4096 ≥ m.rd (SeamCfg.ACK_BATCH s)

/-- A CONTROL frame is required (R131 to R133, R143, R144). -/
def controlWanted (m : Mach) (s : Nat) : Bool :=
  let x := m.seam s
  x.nakDue || x.ackDue || ackWanted m s || (laneField x).2.cmd != 0

/-- This side's INIT record (INIT record table). -/
def initBits (m : Mach) (s : Nat) : Nat :=
  1 + initRole m s * 2 ^ 8 + m.rd (SeamCfg.TARGET_RATE s) * 2 ^ 16 + usableMask m s * 2 ^ 24 + m.rd (SeamCfg.VC_COUNT s) * 2 ^ 32 +
  (if (m.seam s).resume then 2 ^ 40 else 0) + m.rd (SeamCfg.VC_MAP s) * 2 ^ 64 + m.rd (SeamCfg.VC_BUF s) * 2 ^ 128 +
  m.rd Ident.SERIAL * 2 ^ 256

/-- Send an INIT frame, with the acknowledgement and the credits of the sequence state that this side keeps (R128, R149). -/
def sendInit (s : Nat) (m : Mach) : Mach :=
  let h := frameHeader 3 0 0 ((seamExpect m s + 4095) % 4096) false 0 ⟨0, 0, 0⟩
  let m := m.emit (sealFrame m s h (framePayload 0 0 (m.seam s).freed [] + initBits m s * 2 ^ 144))
  rateStep s ((m.bump (SeamCnt.FRAMES_TX s) 1).updSeam s fun x => { x with initSent := true })

/-- A frame slot of seam s (R142). -/
def seamFrameSlot (s : Nat) (m : Mach) : Mach :=
  if !seamsOn m then m
  else if linkOf m s = 1 || linkOf m s = 4 then sendInit s m
  else if linkOf m s != 3 then m
  else
    match (m.seam s).cursor.bind fun q => (m.seam s).replay.find? fun f => f.seq == q with
    | some f => sendReplay s f m
    | none =>
      match arbitrate m (7 + s) ((openVcs m s).map fun v => (v, m.now.stitch)) with
      | some (v, _) => sendNew s v m
      | none => if controlWanted m s then sendFrame s 2 0 0 0 [] m else m.emit (sealFrame m s 0 0)

/-- The acknowledgement timer, when no PAYLOAD frame is ready to carry the acknowledgement (R133). -/
def ackTimer (s : Nat) (m : Mach) : Mach :=
  if seamsOn m && linkOf m s = 3 && ackWanted m s && (m.seam s).cursor.isNone && (openVcs m s).isEmpty then sendFrame s 2 0 0 0 [] m
  else m

/-- A replay starts, unless it would be the fifth with the same OLDEST (R135, R137). -/
def startReplay (s : Nat) (m : Mach) : Mach :=
  if outstanding m s = 0 then m
  else if (m.seam s).replays ≥ 4 then seamRetrain s m
  else m.updSeam s fun x => { x with
    cursor := some (seamOldest m s), replayFrom := some (seamOldest m s), replays := x.replays + 1, timerAt := m.now.ftime }

/-- A NAK asks for a replay, unless one from the same OLDEST is in progress (R135). -/
def nakReplay (s : Nat) (m : Mach) : Mach :=
  if (m.seam s).cursor.isSome && (m.seam s).replayFrom = some (seamOldest m s) then m else startReplay s m

/-- The replay timer expires at a stitch boundary, REPLAY_NS or more after its last restart (R136). The event and the count are those of a
replay that starts; the fifth retrains instead (R137). -/
def replayTimer (s : Nat) (m : Mach) : Mach :=
  if linkOf m s != 3 || outstanding m s = 0 || m.now.ftime < (m.seam s).timerAt + m.rd (SeamCfg.REPLAY_NS s) then m
  else if (m.seam s).replays ≥ 4 then seamRetrain s m
  else seamEvent s 3 (startReplay s (m.bump (SeamCnt.REPLAY_TIMER s) 1))

/-! ### Receiving (R127, R129, R131, R134, R139, R151) -/

/-- One received frame boundary of a running countdown (R144). -/
def countFrame (s : Nat) (m : Mach) : Mach :=
  match (m.seam s).switching with
  | some w =>
    (match w.rx with
     | some (n + 2) => m.updSeam s fun x => { x with switching := some { w with rx := some (n + 1) } }
     | some _ => switchEnd s (m.updSeam s fun x => { x with switching := some { w with rx := none, rxDone := true } })
     | none => m)
  | none => m

/-- A NAK is due unless one is pending (R131, R132). -/
def wantNak (s : Nat) (m : Mach) : Mach :=
  if (m.seam s).nakPending then m else m.updSeam s fun x => { x with nakPending := true, nakDue := true }

/-- Corrected bytes of a frame (R127, R437). -/
def chargeLanes (s : Nat) (lanes : List Nat) (m : Mach) : Mach :=
  if lanes.isEmpty then m
  else
    let m := (m.bump (SeamCnt.FEC_CORR s) lanes.length).updSeam s fun x => { x with
      corr := (List.range 32).map fun i => x.corr.getD i 0 + lanes.count i }
    occur (1440 + 8 * s + 2) lanes.length none { noCtx with level := 4, kind := 7, unit := s } m

/-- A bad frame (R127, R132, R149). -/
def badFrame (s : Nat) (m : Mach) : Mach :=
  let m := wantNak s (m.bump (SeamCnt.BAD_FRAMES s) 1)
  let m := m.updSeam s fun x => { x with badRun := x.badRun + 1 }
  let m := countFrame s m
  if (m.seam s).badRun ≥ 16 then seamRetrain s m else m

/-- Swatches per frame are at most three; a frame as received, its fields those of the frame layout and the INIT record table. -/
structure Frame where
  ty     : Nat
  vc     : Nat
  nak    : Bool
  seq    : Nat
  ack    : Nat
  lcmd   : Nat
  lmask  : Nat
  ltag   : Nat
  larg   : Nat
  poison : Nat
  credit : List Nat
  slots  : List Nat
  init   : InitRecord
  deriving DecidableEq, Repr

/-- The fields of a frame's 256 bytes. -/
def frameFields (bytes : List Nat) : Frame :=
  let h := ofBytes (bytes.take 8)
  let p := ofBytes ((bytes.drop 8).take 234)
  let r := p / 2 ^ 144
  let count := if getBits h 0 4 = 1 then getBits p 0 2 else 0
  { ty := getBits h 0 4, vc := getBits h 4 3, nak := bitAt h 7, seq := getBits h 8 12, ack := getBits h 20 12
    lcmd := getBits h 32 4, lmask := getBits h 36 4, ltag := getBits h 40 4, larg := getBits h 44 4
    poison := getBits p 8 3
    credit := (List.range 8).map fun v => getBits p (16 + 16 * v) 16
    slots := (List.range count).map fun i => getBits p (144 + 576 * i) 576
    init := ⟨byteAt r 0, byteAt r 1, byteAt r 2, byteAt r 3, byteAt r 4, bitAt r 40, getBits r 64 64, getBits r 128 128, getBits r 256 128⟩ }

/-- The CRC of a frame's bytes holds (R126). -/
def crcHolds (bytes : List Nat) : Bool := crc64 (bytes.take 242) == ofBytes ((bytes.drop 242).take 8)

/-- The receiver corrects a frame by FEC and then checks its CRC (R127): the frame, or none where it is bad, and the places of the bytes
corrected. -/
def readFrame (bits : Nat) : Option Frame × List Nat :=
  let ways := fecCorrect (toBytes 256 bits)
  match ways.find? fun w => crcHolds w.1 with
  | some w => (some (frameFields w.1), w.2)
  | none => (none, (ways.head?.map (·.2)).getD [])

/-- Own WAKE and DOZE commands have travelled: they are complete (R143, R153). -/
def ownCommandDone (s : Nat) (m : Mach) : Mach :=
  if (m.seam s).cmdSent && (m.seam s).cmd.any (fun k => k.cmd == 5 || k.cmd == 6) then
    laneCmdEnd s 0 (m.updSeam s fun x => { x with cmd := none, cmdSent := false })
  else m

/-- The lane command of a good frame. -/
def frameCommand (s : Nat) (f : Frame) (m : Mach) : Mach :=
  let m := if f.lcmd = 1 then m else m.updSeam s fun x => { x with answer := none }
  let m := ownCommandDone s m
  match f.lcmd with
  | 0 => countFrame s m
  | 1 => lcmdPropose s f.lmask f.ltag true (countFrame s m)
  | 2 => lcmdAccept s f.lmask f.ltag (countFrame s m)
  | 3 => lcmdRefuse s f.lmask f.ltag (countFrame s m)
  | 4 => lcmdSwitch s f.lmask f.ltag f.larg m
  | 5 => lcmdWake s f.lmask (countFrame s m)
  | 6 => lcmdDoze s f.lmask (countFrame s m)
  | _ => seamEvent s 6 (countFrame s m)

/-- ACK or NAK of a good frame (R134, R135). -/
def frameAck (s : Nat) (f : Frame) (m : Mach) : Mach :=
  let m := if f.nak then m.bump (SeamCnt.NAK_RX s) 1 else m
  let a := (f.ack + 4096 - seamOldest m s) % 4096
  if a < outstanding m s then
    let done := (m.seam s).replay.take (a + 1)
    let rest := (m.seam s).replay.drop (a + 1)
    let m := match done.getLast? with
      | some g => m.wr (SeamStat.RTT_NS s) ((m.now.ftime - g.sentAt) % 2 ^ 32)
      | none => m
    let m := m.wr (SeamStat.OLDEST s) ((f.ack + 1) % 4096)
    let m := m.updSeam s fun x => { x with
      replay := rest, replays := 0, timerAt := m.now.ftime
      cursor := match x.cursor with
        | some q => if rest.any (fun g => g.seq == q) then some q else rest.head?.map (·.seq)
        | none => none }
    refreshSeam s (if f.nak then nakReplay s m else m)
  else if a = 4095 then
    if f.nak then nakReplay s m else m
  else seamRetrain s (seamEvent s 6 m)

/-- CREDIT_RET of a good frame (R139, R153, R392). -/
def frameCredit (s : Nat) (f : Frame) (m : Mach) : Mach :=
  let m := forAll (List.range 8) (fun v m =>
    let x := m.seam s
    let old := vcGet x.returned v
    let new := vcGet f.credit v
    let more := (new + 65536 - old) % 65536
    if more = 0 then m
    else if more > (vcGet x.sent v + 65536 - old) % 65536 then seamEvent s 6 m
    else
      let m := m.updSeam s fun x => { x with returned := vcSet x.returned v new }
      if mirrorVc m s v then mirrorConfirm s more m else m) m
  refreshSeam s m

/-- The CRC-32C of a swatch's 68 B, with FAILED taken as 0 (R155). -/
def crossCrc (b : Nat) : Nat := crc32c (toBytes 68 (setBit (b % 2 ^ 544) 539 false))

/-- Accept the slots of a frame in order: each is delivered with OUTPUT written for this fabric and a new CRC-32C, computed before the
CRC-32C that crossed the seam is verified (R29, R129, R131). -/
def acceptSlots (s : Nat) (f : Frame) (outs : List Nat) (m : Mach) : Mach :=
  let rewritten := (List.range (min 3 f.slots.length)).map fun i =>
    let b := f.slots.getD i 0
    let new := setBits b 530 7 (outs.getD i 0)
    let new := setBits new 544 32 (crossCrc new)
    SeamRx.mk f.vc (setBit new 539 (bitAt f.poison i || bitAt b 539 || crossCrc b != getBits b 544 32))
  m.updSeam s fun x => { x with rx := x.rx ++ rewritten, nakPending := false }

/-- The sequence check of a PAYLOAD frame (R131). -/
def framePayloadIn (s : Nat) (f : Frame) (outs : List Nat) (m : Mach) : Mach :=
  let d := (f.seq + 4096 - seamExpect m s) % 4096
  if d = 0 then (acceptSlots s f outs m).wr (SeamStat.EXPECT s) ((seamExpect m s + 1) % 4096)
  else if d < 2048 then wantNak s m
  else (m.bump (SeamCnt.DUP_RX s) 1).updSeam s fun x => { x with ackDue := true }

/-- A good frame of an active seam: its lane command, ACK or NAK, CREDIT_RET, then the sequence check and the payload (R131, R134, R151). An
IDLE frame carries nothing, and an INIT frame no lane command. -/
def goodFrame (s : Nat) (f : Frame) (outs : List Nat) (m : Mach) : Mach :=
  let m := m.updSeam s fun x => { x with badRun := 0 }
  if f.ty = 0 then countFrame s m
  else
    let m := m.bump (SeamCnt.FRAMES_RX s) 1
    let m := if f.ty = 1 || f.ty = 2 then frameCommand s f m else countFrame s m
    let m := if f.ty ≤ 2 then frameAck s f m else m
    if linkOf m s != 3 then m
    else
      let m := if f.ty ≤ 2 then frameCredit s f m else m
      if f.ty = 1 then framePayloadIn s f outs m else m

/-- A good INIT frame in training (R134, R147 to R149): a side that resumes takes its ACK and CREDIT_RET. -/
def initFrame (s : Nat) (f : Frame) (m : Mach) : Mach :=
  let m := m.bump (SeamCnt.FRAMES_RX s) 1
  if initMismatch m s f.init then trainFail s (seamEvent s 6 m)
  else
    let m := (m.wr (SeamStat.PEER_SERIAL s) f.init.serial).updSeam s fun x => { x with
      peer := some f.init, inits := if x.final then x.inits + 1 else 0 }
    let m := if (m.seam s).resume && f.init.resume then frameCredit s f (frameAck s { f with nak := false } m) else m
    rateStep s m

/-- A frame arrives on seam s (R127, R147, R151): each corrected byte is charged to the lane that carried it, and a bad frame is discarded
whole. Outside training an INIT frame has only its count; in training every other frame breaks the row of good INIT frames. -/
def frameReceived (s bits : Nat) (outs : List Nat) (m : Mach) : Mach :=
  if !seamsOn m || (linkOf m s != 1 && linkOf m s != 3 && linkOf m s != 4) then m
  else
    let lanes := maskLanes (rxMask m s)
    let r := readFrame bits
    let m := chargeLanes s (r.2.map fun k => lanes.getD (k % max 1 lanes.length) 0) m
    match r.1, linkOf m s == 3 with
    | none, true => badFrame s m
    | none, false => (m.bump (SeamCnt.BAD_FRAMES s) 1).updSeam s fun x => { x with inits := 0 }
    | some f, true => goodFrame s f outs m
    | some f, false => if f.ty = 3 then initFrame s f m else m.updSeam s fun x => { x with inits := 0 }

/-! ### The stitch -/

/-- A VC carries packets for the fabric core: requests, responses and data of ports or needle engine. -/
def packetVc (m : Mach) (s v : Nat) : Bool := [0, 2, 3, 6, 7].any fun c => seamVcOf m s c == v

/-- Receive buffers deliver, and stalls are counted (R130, R139, R140, R141). -/
def seamStitch (s : Nat) (m : Mach) : Mach :=
  let (now, later) := (m.seam s).rx.partition fun r => !mirrorVc m s r.vc
  let m := forAll now (fun r m => m.emit (.swatch s r.bits)) m
  let m := m.updSeam s fun x => { x with
    arrived := x.arrived ++ (now.filter fun r => packetVc m s r.vc).map fun r => bitAt r.bits 539
    rx := later
    freed := (List.range 8).map fun v => (x.freed.getD v 0 + (now.filter fun r => r.vc == v).length) % 65536 }
  if linkOf m s != 3 then m
  else
    let ready := (List.range 8).filter fun v => !(seamReady m s v).isEmpty
    let m := if outstanding m s ≥ 2048 && !ready.isEmpty then m.bump (SeamCnt.STALL_STITCHES s) 1 else m
    if ready.any fun v => seamCredits (m.seam s) v = 0 then m.bump (SeamCnt.CREDIT_STALL s) 1 else m

/-- The oldest mirror swatch in a receive buffer has been applied: its slot is freed (R391). -/
def mirrorFreed (s : Nat) (m : Mach) : Mach :=
  match (m.seam s).rx.find? fun r => mirrorVc m s r.vc with
  | some r => m.updSeam s fun x => { x with rx := x.rx.erase r, freed := vcSet x.freed r.vc (vcGet x.freed r.vc + 1) }
  | none => m

/-- PD63 goes off: the seams stop; on again, an enabled seam trains (R18, R147). -/
def seamsOff (m : Mach) : Mach :=
  forAll [0, 1] (fun s m =>
    if linkOf m s = 0 then m else noteFall s ((seamStop s m).wr (SeamStat.LINK_STATE s) 0)) m
def seamsBack (m : Mach) : Mach :=
  forAll [0, 1] (fun s m =>
    if m.on (SeamCfg.SEAM_ENABLE s) && linkOf m s = 0 && m.rd Col.FATAL_STATE = 0 then seamTrain s m else m) m

end Sys2Proof.Machine
end

