-- ==== Sys2Proof/Machine/Twin.lean ====
section
/-! DEFINITION. Twin operation (chapter 14): pairing, the shadow directory, fabric time, heartbeats and the witness, rejoin and
handback. -/

namespace Sys2Proof.Machine

/-! ### Pairing (R386, R408) -/

/-- DIR_MODE changes: INDEX_BITS follows, and the slices that are on write their dies empty (R218, R384, R386). -/
def toDirMode (v : Nat) (m : Mach) : Mach :=
  let m := (m.wr Coh.DIR_MODE v).wr Coh.INDEX_BITS (if v = 1 then 23 else 24)
  forAll ((List.range 4).filter fun c => m.domOn (58 + c)) ceInitStart m

/-- Some enabled window satisfies a test. -/
def someWindow (m : Mach) (test : Nat → Bool) : Bool := (windowsInState m 1 ++ windowsInState m 2).any test

/-- The window has a member of KIND 3. -/
def hasPeerMember (m : Mach) (w : Nat) : Bool := (List.range (winWays m w)).any fun i => tgtKind (winTarget m w i) == 3

/-- Why TWIN_ENABLE 1, and 0, fails (R386). -/
def twinEnableCheck (m : Mach) : Option Status :=
  if twinState m != 0 || someWindow m (winTracked m) then some .state else none
def twinDisableCheck (m : Mach) : Option Status :=
  match twinState m with
  | 1 => none
  | 2 => if someWindow m (winTracked m) then some .state else none
  | 5 => if someWindow m fun w => winTracked m w || hasPeerMember m w then some .state else none
  | _ => some .state

/-- TWIN_ENABLE 1: pairing waits for a seam in twin role (R386). -/
def twinEnable (m : Mach) : Mach :=
  sendHello ((m.wr Twin.TWIN_ENABLE 1).wr Twin.TWIN_STATE 1)

/-- TWIN_ENABLE 0: the twin is single again (R386). -/
def twinDisable (m : Mach) : Mach :=
  let m := ((m.wr Twin.TWIN_ENABLE 0).wr Twin.TWIN_STATE 0).wr Twin.HOME_ALL 0
  let m := m.updTwin fun x => { x with
    hello := none, flushed := false, timed := false, peerAll := false, seamFell := false, digestBad := 0
    handing := false, handed := 0, promoting := false, syncPos := [], within := 0 }
  let m := m.updCoh fun x => { x with mq := [], deferred := [] }
  if m.rd Coh.DIR_MODE = 1 then toDirMode 0 m else m

/-- State 2 is entered. -/
def enterPaired (m : Mach) : Mach :=
  (m.wr Twin.TWIN_STATE 2).updTwin fun x => { x with seamFell := false, digestBad := 0, backAt := none }

/-- Every step of pairing has passed here: a twin that joins a single one is paired (R386 step 6); one that joins a survivor waits
for the resynchronisation (R408). -/
def pairingStep (m : Mach) : Mach :=
  match m.twin.hello with
  | some h => if twinState m = 1 && m.twin.flushed && m.twin.timed && h.state = 1 then twinEvent 0 (enterPaired m) else m
  | none => m

/-- Why a HELLO is refused (R386 step 2). -/
def helloRefused (m : Mach) (h : PairMsg) : Bool :=
  h.digest != pairDigest m || Nat.land h.agents (ownAgents m) != 0 || (h.state != 1 && h.state != 5)

/-- A survivor walks both halves for its repaired peer (R408). -/
def syncStart (m : Mach) : Mach :=
  ((m.wr Twin.TWIN_STATE 7).wr Hb.SYNC_STATE 3).updTwin fun x => { x with syncPos := [], seamFell := false }

/-- A survivor accepts its peer once every agent of it has been revived (R408). -/
def syncAccept (m : Mach) : Mach :=
  match m.twin.hello with
  | some h =>
    if twinState m != 5 then m
    else if Nat.land h.agents (m.rd Agents.DEAD_AGENTS) = 0 then syncStart m else m.wr Hb.SYNC_STATE 1
  | none => m

/-- A HELLO of the peer (R386 steps 2 and 3, R408). -/
def helloIn (h : PairMsg) (m : Mach) : Mach :=
  if !m.on Twin.TWIN_ENABLE || !pairLinked m || (twinState m != 1 && twinState m != 5) then m
  else if helloRefused m h then twinEvent 1 m
  else
    let m := ((m.wr Twin.PEER_AGENTS h.agents).wr Twin.PEER_DIGEST h.digest).updTwin fun x => { x with
      hello := some h, flushed := false, timed := false }
    if twinState m = 5 then syncAccept m
    else if (hlcFlushCheck m).isNone then hlcFlush m else m

/-- REVIVE of an agent that a survivor waits for (R271, R408). -/
def reviveAgent (a : Nat) (m : Mach) : Mach := syncAccept (revive a m)

/-- Twin B sends a TREQ (R396). -/
def sendTreq (m : Mach) : Mach := (m.emit (.treq m.now.ftime)).updTwin fun x => { x with treqSent := m.now.stitch }

/-- Both twins have flushed (R386 step 4): the directory takes its twin form, and twin B asks for the time (step 5). -/
def pairingFlushDone (m : Mach) : Mach :=
  match m.twin.hello with
  | some _ =>
    if twinState m != 1 || m.twin.flushed || m.rd Hlc.HLC_DIRTY != 0 then m
    else
      let m := toDirMode 1 (m.updTwin fun x => { x with flushed := true })
      if m.role = 1 then sendTreq m else m
  | none => m

/-! ### Heartbeats (R387, R396, R399 to R401) -/

/-- A survivor and its peer are both back before a decision, and no seam went down (R401). -/
def heartbeatsBack (m : Mach) : Mach :=
  if fenced m && m.on Hb.SEAM_HB_OK && m.rd Hb.SENSE_STATE = 0 && !m.twin.seamFell then
    let m := (enterPaired m).updTwin fun x => { x with backAt := some m.now.stitch }
    forAll m.coh.snoops (fun s m => if s.sent then m else sendWaiting s.c m) m
  else m

/-- A HEARTBEAT of the peer (R387, R399). -/
def heartbeatIn (h : PairMsg) (m : Mach) : Mach :=
  if !pairLinked m || !m.on Twin.TWIN_ENABLE then m
  else
    let m := ((m.wr Hb.SEAM_HB_OK 1).wr Twin.PEER_DIGEST h.digest).updTwin fun x => { x with hbHeard := m.now.stitch }
    let m :=
      if twinState m != 2 then m
      else if h.digest = pairDigest m then m.updTwin fun x => { x with digestBad := 0 }
      else
        let n := m.twin.digestBad + 1
        let m := m.updTwin fun x => { x with digestBad := min n 4 }
        if n = 3 then twinEvent 1 m else m
    heartbeatsBack m

/-- HB_PERIOD_US has passed (R396). -/
def heartbeatTimer (m : Mach) : Mach :=
  if [1, 2, 7].contains (twinState m) && pairLinked m && m.twin.hbSent + 125 * m.rd Hb.HB_PERIOD_US ≤ m.now.stitch then
    (m.emit (.pair 1 (pairMsg m))).updTwin fun x => { x with hbSent := m.now.stitch }
  else m

/-- SEAM_HB_MISS_US have passed since the last HEARTBEAT was accepted (R399). -/
def seamHbTimeout (m : Mach) : Mach :=
  if m.twin.hbHeard + 125 * m.rd Hb.SEAM_HB_MISS_US ≤ m.now.stitch then seamHbLost m else m

/-- SENSE_STATE changes (R400, R401). -/
def setSense (v : Nat) (m : Mach) : Mach :=
  let old := m.rd Hb.SENSE_STATE
  if v = old then m
  else
    let m := m.wr Hb.SENSE_STATE v
    if v = 0 then heartbeatsBack m
    else
      let m := twinEvent 3 (if old = 0 then m.bump Hb.HB_LOST 1 else m)
      if twinState m = 2 && !m.on Hb.SEAM_HB_OK then enterSuspect 3 m else m

/-- The first of the four states of R400 that applies. -/
def senseNow (m : Mach) : Nat :=
  let x := m.twin
  if x.equal ≥ 2 then 2 else if x.masked then 3 else if x.quiet ≥ m.rd Hb.SENSE_MISS then 1 else 0

/-- The samples of a slot tick (R400): the own outputs toggle every SENSE_HALF ticks. -/
def senseTick (p n : Bool) (m : Mach) : Mach :=
  let half := m.rd Hb.SENSE_HALF
  let m := m.updTwin fun x =>
    if !m.on Twin.TWIN_ENABLE || m.rd Col.FATAL_STATE = 1 then x
    else if x.outTicks + 1 ≥ half then { x with outP := !x.outP, outTicks := 0 } else { x with outTicks := x.outTicks + 1 }
  let x := m.twin
  let toggled := p != n && p != x.levelP && !x.masked
  let early := toggled && x.quiet + 1 < ceilDiv half 2
  let fast := (if early then m.now.tick :: x.fast else x.fast).filter fun t => m.now.tick < t + 10000
  let m := m.updTwin fun x => { x with
    levelP := if p != n then p else x.levelP
    levelN := n
    equal := if p = n then min 2 (x.equal + 1) else 0
    quiet := if toggled then 0 else min 65535 (x.quiet + 1)
    fast := fast.take 9
    masked := x.masked || fast.length > 8 }
  setSense (senseNow m) m

/-- No toggle has come for SENSE_MISS slot ticks (R400). -/
def senseLost (m : Mach) : Mach :=
  if m.rd Hb.SENSE_STATE = 0 && m.rd Hb.SENSE_MISS ≤ m.twin.quiet then setSense (senseNow m) m else m

/-- SENSE_REARM unmasks a chattering input; where it still chatters, SENSE_FAULT is raised at most once per 100 ms (R400). -/
def senseRearm (still : Bool) (m : Mach) : Mach :=
  if !m.twin.masked then m
  else if still then
    if mayRepeat m m.twin.faultAt then twinEvent 3 (m.updTwin fun x => { x with faultAt := some m.now.ftime }) else m
  else
    let m := m.updTwin fun x => { x with masked := false, fast := [] }
    setSense (senseNow m) m

/-! ### The witness (R402 to R406) -/

/-- A decision is accepted in state 3 or 4, for the incident that runs (R403). One that comes in the stitch in which the heartbeats
return still stands (R407). -/
def witnessOk (m : Mach) (incident : Nat) : Bool :=
  (fenced m || m.twin.backAt.any fun t => m.now.stitch ≤ t + 1) && incident == m.rd Twin.INCIDENT

/-- R150 applied to every seam (R404, R406). -/
def allSeamsDown (m : Mach) : Mach :=
  forAll [0, 1] (fun s m => if linkOf m s = 0 || linkOf m s = 5 then m else seamDown s m) m

/-- Survive, in the commit phase of stitch n (R404, R405). -/
def surviveAt (n : Nat) (m : Mach) : Mach :=
  let m := allSeamsDown m
  let m := m.updTwin fun x => { x with promoting := true, hello := none, peerAll := false, handing := false, handed := 0 }
  let m := forAll (bitsSet 64 (m.rd Twin.PEER_AGENTS)) (declareDead m.now.stitch) m
  let m := drainWork 64 (afterConfirm (m.updCoh fun x => { x with mq := [] }))
  let held := m.coh.heldRsp
  let m := forAll held (fun h m => releaseNotice h.port h.tag m) m
  let m := (m.wr Twin.HOME_ALL 1).wr Twin.TWIN_STATE 5
  twinEvent 5 (m.wr Twin.FAILOVER_STITCH n)

/-- A decision to survive is accepted in the stitch before the one that runs next (R404, log entry 21). -/
def survive (m : Mach) : Mach := surviveAt (m.now.stitch - 1) m

/-- Yield (R406). -/
def yieldTwin (m : Mach) : Mach :=
  let m := allSeamsDown m
  let m := forAll ((List.range 64).filter fun p => m.on (Port.ENABLE p)) (fun p m =>
    if m.rd (PortStat.LTSSM p) = 0 then m else linkDown p 0 false true true m) m
  twinEvent 6 ((m.updCoh fun x => { x with heldRsp := [], early := [], mq := [] }).wr Twin.TWIN_STATE 6)

/-- The board controller's decision (R403): refused, it raises WITNESS_REFUSED and answers STATE. -/
def witness (incident : Nat) (effect : Mach → Mach) (m : Mach) : Mach :=
  if witnessOk m incident then (effect m).emit (.answer .ok 0) else (twinEvent 11 m).emit (.answer .state 0)

/-- No decision within WITNESS_WAIT_MS of entering state 3: with AUTO_SURVIVE twin A survives (R403). -/
def witnessTimeout (m : Mach) : Mach :=
  if twinState m = 3 && m.on Twin.AUTO_SURVIVE && m.role = 0 &&
    m.twin.suspectAt + 125000 * m.rd Twin.WITNESS_WAIT_MS ≤ m.now.stitch then surviveAt m.now.stitch m
  else m

/-! ### The shadow directory (R388 to R391) -/

/-- Write an entry on the peer's word: nothing is mirrored back. Sectors of the lower half are charged to their slices. -/
def shadowPut (p : Place) (e : Nat) (m : Mach) : Mach :=
  let old := m.slotEntry p
  let m := m.updCoh fun x => { x with dir := Tab.put 0 x.dir (slotKey p) e }
  let m := if old = 0 && e != 0 then m.wr (Ce.ENTRIES_USED p.c) (m.rd (Ce.ENTRIES_USED p.c) + 1)
    else if old != 0 && e = 0 then m.wr (Ce.ENTRIES_USED p.c) (m.rd (Ce.ENTRIES_USED p.c) - 1) else m
  if p.slot ≥ 2 ^ 23 then m
  else
    let held := Slc.SLC_DIR_HELD
    let m := if old = 0 then m else m.wr (held (eSlice old)) (m.rd (held (eSlice old)) - 1)
    if e = 0 then m else m.wr (held (eSlice e)) (m.rd (held (eSlice e)) + 1)

/-- The lines that a record names take state s. -/
def recordLines (e lines s : Nat) : Nat :=
  (List.range 4).foldl (fun e j => if bitAt lines j then withLine e j s else e) e

/-- OWNER is 0 when no line is left in E (R390). -/
def ownerLeft (e : Nat) : Nat := if (List.range 4).any (fun j => eLine e j == 2) then e else withOwner e 0

/-- A HANDOVER of slice c is applied: with the fourth this twin acts as home again (R409). -/
def handover (c : Nat) (m : Mach) : Mach :=
  if !m.twin.peerAll then m
  else
    let got := setBit m.twin.handed c true
    if got % 16 = 15 then m.updTwin fun x => { x with handed := 0, peerAll := false }
    else m.updTwin fun x => { x with handed := got }

/-- Apply one record (R390). -/
def applyRecord (r : MirrorRec) (m : Mach) : Mach :=
  if r.ty = 0 || r.ty > 7 then m
  else
    let m := m.bump Mirror.RECORDS_RX 1
    if r.ty = 7 then handover r.ce m
    else
      let p : Place := ⟨r.ce, r.slot % 2 ^ 23 + 2 ^ 23 * Nat.xor (r.home % 2) (m.role % 2), r.tag⟩
      if r.ty = 6 then shadowPut p r.entry m
      else
        let fresh := freshEntry r.tag r.slice
        if r.ty = 1 then shadowPut p fresh m
        else
          let other := eTag (m.slotEntry p) != r.tag
          let m := if other then twinEvent 8 m else m
          let e := if other then fresh else m.slotEntry p
          match r.ty with
          | 2 => shadowPut p 0 m
          | 3 => shadowPut p (withOwner (recordLines e r.lines 2) r.agent) m
          | 4 =>
            let e := recordLines e r.lines r.newState
            shadowPut p (ownerLeft (if r.newState = 1 then withSharers e (setBit (eSharers e) r.agent true) else e)) m
          | _ => shadowPut p (ownerLeft (recordLines e r.lines 3)) m

/-- A mirror swatch is applied, and its receive slot is freed (R390, R391). -/
def mirrorSwatchIn (records : List MirrorRec) (m : Mach) : Mach :=
  if m.rd Coh.DIR_MODE != 1 then m
  else
    let m := forAll records applyRecord m
    match [0, 1].find? fun s => (m.seam s).rx.any fun r => mirrorVc m s r.vc with
    | some s => mirrorFreed s m
    | none => m

/-! ### Fabric time between twins (R397, R398) -/

/-- Twin B's TREQ, and twin A's answer (R396). -/
def treqTimer (m : Mach) : Mach :=
  if m.role = 1 && [1, 2, 7].contains (twinState m) && pairLinked m &&
    m.twin.treqSent + 125000 * m.rd Time.TIME_PERIOD_MS ≤ m.now.stitch then sendTreq m else m
def treqIn (t1 : Nat) (m : Mach) : Mach :=
  if m.role = 0 && [1, 2, 7].contains (twinState m) && pairLinked m then
    pairingStep ((m.emit (.trsp t1 m.now.ftime m.now.ftime)).updTwin fun x => { x with timed := x.timed || x.flushed })
  else m

/-- Twin B takes a TRSP (R397). -/
def trspIn (t1 t2 t3 : Nat) (m : Mach) : Mach :=
  if m.role != 1 || !([1, 2, 7].contains (twinState m)) || !pairLinked m then m
  else
    let off : Int := (((t2 : Int) - t1) + ((t3 : Int) - m.now.ftime)) / 2
    let first := twinState m == 1 && m.twin.flushed && !m.twin.timed
    let m := m.wrS Time.TIME_OFFSET_NS off
    let m := if first && off.natAbs > 1000 then
        { m with now := { m.now with ftime := ((m.now.ftime : Int) + off).toNat }, twin := { m.twin with slew := 0 } }
      else m.updTwin fun x => { x with slew := off }
    let n := if off.natAbs ≤ 50 then min 8 (m.twin.within + 1) else 0
    let m := (m.updTwin fun x => { x with within := n, timed := x.timed || x.flushed }).wr Time.TIME_LOCKED (if n ≥ 8 then 1 else 0)
    pairingStep m

/-- One second in nanoseconds. -/
def secondNs : Nat := 1000000000

/-- An edge of PPS_IN in this stitch counts: none was accepted in the last 500 ms (R512). -/
def ppsAccepted (m : Mach) : Bool := m.twin.ppsAt.all fun n => n + msStitches 500 < m.now.stitch

/-- A rising edge of PPS_IN, `ns` nanoseconds into the stitch (R398, R512). -/
def ppsInEdge (ns : Nat) (m : Mach) : Mach :=
  if !ppsAccepted m then m
  else
  let m := m.updTwin fun x => { x with ppsAt := some m.now.stitch }
  let r := (m.now.ftime + ns) % secondNs
  let off : Int := if 2 * r < secondNs then r else (r : Int) - secondNs
  let m := m.wrS Time.PPS_OFFSET_NS off
  let m := if off.natAbs > m.rd Time.PPS_TOL_NS then twinEvent 7 m else m
  if m.on Time.PPS_DISCIPLINE && (twinState m = 0 || twinState m = 5) then m.updTwin fun x => { x with slew := -off } else m

/-- Fabric time has reached a whole second: PPS_OUT is high for 1 ms (R398). -/
def ppsOut (m : Mach) : Mach :=
  if m.now.ftime % secondNs < 1000000 then m.updTwin fun x => { x with ppsOut := true } else m

/-- PPS_OUT in a stitch: it goes high in the first stitch of a second, and low after 1 ms (R398). -/
def ppsStitch (m : Mach) : Mach :=
  if m.now.ftime % secondNs < 8 then m.updTwin fun x => { x with ppsOut := true }
  else if m.twin.ppsOut && m.now.ftime % secondNs ≥ 1000000 then m.updTwin fun x => { x with ppsOut := false }
  else m

/-- The nanosecond that slewing adds or omits in a stitch: at most one of every 10,000 ns (R397). -/
def slewStep (m : Mach) : Int :=
  if m.now.stitch % 1250 != 0 || m.twin.slew = 0 then 0 else if m.twin.slew > 0 then 1 else -1

/-! ### Rejoin and handback (R408, R409) -/

/-- IMAGEs of the non-empty slots of slice c, in ascending order, while its queue has places (R389, R408). Answers the slot
reached. -/
def syncImages : List Nat → Nat → Mach → Nat × Mach
  | [], e, m => (e, m)
  | k :: ks, e, m =>
    let p : Place := ⟨k / 2 ^ 24, k % 2 ^ 24, eTag (Tab.get 0 m.coh.dir k)⟩
    if mirrorUsed m p.c + 2 > 64 then (p.slot, m)
    else
      syncImages ks e (queueMirror
        ⟨6, 0, 0, slotHome m p, 0, p.slot % 2 ^ 23, p.tag, eSlice (m.slotEntry p), p.c, imageEntry m p⟩ m)

/-- The resynchronisation walk of slice c goes on to slot `b`. -/
def syncTo (c b : Nat) (m : Mach) : Mach :=
  let a := Tab.get 0 m.twin.syncPos c
  let ks := (m.coh.dir.filter fun e => c * 2 ^ 24 + a ≤ e.1 && e.1 < c * 2 ^ 24 + b).map (·.1)
  let (at_, m) := syncImages ks b m
  m.updTwin fun x => { x with syncPos := Tab.put 0 x.syncPos c at_ }

/-- A walk that has visited every slot ends: both twins are paired (R408). -/
def syncOver (m : Mach) : Mach :=
  if twinState m = 7 && (List.range 4).all fun c => Tab.get 0 m.twin.syncPos c == 2 ^ 24 then
    twinEvent 9 ((enterPaired m).wr Hb.SYNC_STATE 2)
  else m

/-- The walk ends, when nothing is left for it; what it has left is visited first (R408). -/
def syncDone (m : Mach) : Mach :=
  if twinState m = 7 then syncOver (forAll (List.range 4) (fun c m => syncTo c (2 ^ 24) m) m)
  else
    match m.twin.hello with
    | some h =>
      if twinState m = 1 && h.state = 5 && m.twin.flushed && m.twin.timed then
        twinEvent 9 (((enterPaired m).wr Hb.SYNC_STATE 2).updTwin fun x => { x with peerAll := true, handed := 0 })
      else m
    | none => m

/-- Why a HANDBACK write fails (R409). -/
def handbackCheck (m : Mach) : Option Status := if twinState m != 2 || !m.on Twin.HOME_ALL then some .state else none

/-- A handback begins (R409 step 1). -/
def handback (m : Mach) : Mach :=
  if m.twin.handing then m
  else
    let gone := m.coh.rsv.filter fun e => e.1 % 2 ^ 24 ≥ 2 ^ 23
    let free := gone.flatMap fun (e : Nat × List Rsv) => e.2
    let m := m.updCoh fun x => { x with
      rsv := x.rsv.filter fun e => e.1 % 2 ^ 24 < 2 ^ 23
      retries := x.retries.map fun r => if free.any (fun q => q.tag == r.tag && q.port == r.port) then { r with rsv := false } else r }
    m.updTwin fun x => { x with handing := true, handed := 0 }

/-- Step 3 of a handback, once nothing of the peer's sectors is left in the TLT or unconfirmed (R409). -/
def handbackStitch (m : Mach) : Mach :=
  let busy := (m.coh.tlt.any fun t => t.slot ≥ 2 ^ 23) ||
    (List.range 4).any fun c => (Tab.get [] m.coh.mq c).any fun x => x.record.home != m.role
  if !m.twin.handing || m.twin.handed = 16 || busy then m
  else
    let m := forAll (List.range 4) (fun c m => queueMirror ⟨7, 0, 0, 0, 0, 0, 0, 0, c, 0⟩ m) m
    m.updTwin fun x => { x with handed := 16 }

/-- Every HANDOVER is confirmed (R409 step 4). -/
def handbackDone (m : Mach) : Mach :=
  let waiting := (List.range 4).any fun c => (Tab.get [] m.coh.mq c).any fun x => x.record.ty == 7
  if m.twin.handing && m.twin.handed = 16 && !waiting then
    twinEvent 10 ((m.wr Twin.HOME_ALL 0).updTwin fun x => { x with handing := false, handed := 0 })
  else m

/-! ### The stitch -/

/-- What the twin does at a stitch strobe. -/
def twinStitch (m : Mach) : Mach :=
  let m := if m.on Hb.SEAM_HB_OK then seamHbTimeout m else m
  let m := if twinState m = 7 then syncOver <| forAll (List.range 4) (fun c m =>
      syncTo c (min (2 ^ 24) (Tab.get 0 m.twin.syncPos c + walkRate m c)) m) m else m
  let m := mirrorStitch (handbackStitch m)
  let m := if m.coh.deferred.isEmpty then m else m.bump Mirror.MQ_FULL 1
  let w := waitingGrants m
  let m := if w = 0 then m else m.bump Mirror.CONF_WAIT w
  ppsStitch m

end Sys2Proof.Machine
end

