-- ==== Sys2Proof/Machine/Slots.lean ====
section
/-! DEFINITION. The slot-power die (chapter 15): the slot state machine, trips and retries, presence and the other inputs, pass FET
checks, auxiliary power and the indicators. Every transition is one operation: the slot tick calls it when its condition is
met (R420), and the command of its row calls it when its event is named. -/

namespace Sys2Proof.Machine

def Mach.slot (m : Mach) (t : Nat) : SlotSt := Tab.get SlotSt.reset m.slots.slots t

def Mach.updSlot (m : Mach) (t : Nat) (f : SlotSt → SlotSt) : Mach :=
  { m with slots := { m.slots with slots := Tab.upd SlotSt.reset m.slots.slots t f } }

/-- The slot-power die is on. -/
def slotsOn (m : Mach) : Bool := m.domOn 76

def slotState (m : Mach) (t : Nat) : Nat := m.rd (Slot.SLOT_STATE t)

/-- RAMPING counts the slots in state 3. -/
def rampingNow (m : Mach) : Nat := ((List.range 32).filter fun t => slotState m t == 3).length
def putSlotState (t v : Nat) (m : Mach) : Mach :=
  let m := m.wr (Slot.SLOT_STATE t) v
  m.wr SlotAll.RAMPING (rampingNow m)

/-- Event of slot t with a cause (R432). -/
def slotEvent (t cause : Nat) (m : Mach) : Mach :=
  raiseEv (1472 + t) { noCtx with cause := cause, level := 5, kind := 11, unit := t, die := 12 } m

/-- Bits of INPUTS. -/
def inPresent : Nat := 0
def inFull : Nat := 3
def inLimit : Nat := 4
def inGood : Nat := 5
def inAux : Nat := 6
def inMask (i : Nat) : Nat := 8 + i

def slotIn (m : Mach) (t b : Nat) : Bool := m.bit (Slot.INPUTS t) b
def putIn (t b : Nat) (v : Bool) (m : Mach) : Mach := m.putBit (Slot.INPUTS t) b v

/-- The ports that are tied to slot t; a covered port's entries have no effect (R67). -/
def slotPorts (m : Mach) (t : Nat) : List Nat :=
  (List.range 64).filter fun p => m.rd (PortCtl.SLOT p) == t && (coverer m p).isNone

/-- Groups of the ports that are tied to slot t. -/
def slotGroups (m : Mach) (t : Nat) : List Nat :=
  ((slotPorts m t).map (· / 4)).eraseDups

/-- Do something that PERST_N of the tied groups may follow (R86). -/
def withPerst (t : Nat) (f : Mach → Mach) (m : Mach) : Mach :=
  let was := (slotGroups m t).filter fun g => !perstPin m g
  let m := f m
  forAll (was.filter (perstPin m)) perstAsserted m

/-- The auxiliary output follows AUX_MODE, the insertion, the gate and its own fault (R429). -/
def refreshAux (t : Nat) (m : Mach) : Mach :=
  let x := m.slot t
  let mode := m.rd (Slot.AUX_MODE t)
  putIn t inAux (!x.auxOff && ((mode == 1 && x.inserted) || (mode == 2 && x.gate))) m

/-- RETRY_LEFT_MS. -/
def refreshRetry (t : Nat) (m : Mach) : Mach := m.wr (Slot.RETRY_LEFT_MS t) (ceilDiv (m.slot t).retry 1000)

/-- The gate is turned off and power-good deasserts. -/
def gateOff (t : Nat) (m : Mach) : Mach :=
  withPerst t (fun m =>
    let m := m.updSlot t fun x => { x with
      gate := false, clean := 0, low := 0, pgFor := 0, uv := 0, fault := 0, offFor := 0, short := 0, opened := 0, ramp := 0, shorted := false }
    refreshAux t (putIn t inGood false (putIn t inFull false m))) m

/-! ### Trips (R421) -/

/-- Slot t trips with a cause. -/
def slotTrip (t cause : Nat) (m : Mach) : Mach :=
  let n := m.rd (Slot.RETRY_COUNT t) + 1
  let most := m.rd (Slot.RETRY_MAX t)
  let ms := m.rd (Slot.RETRY_MS t)
  let m := gateOff t m
  let m := ((m.wr (Slot.RETRY_COUNT t) n).bump (Slot.TRIPS t) 1).wr (Slot.LAST_CAUSE t) cause
  if n > most then slotEvent t 9 (putSlotState t 6 m)
  else
    let m := m.updSlot t fun x => { x with retry := 1000 * ms, running := true }
    slotEvent t cause (refreshRetry t (putSlotState t 5 m))

/-- An event that a command names happens only when the counts of the die have come to it, as its tick finds them (R420). -/
def whenDue (due : Mach → Bool) (f : Mach → Mach) (m : Mach) : Mach := if due m then f m else m

/-- The slot can trip: its gate is driven. -/
def powered (m : Mach) (t : Nat) : Bool := slotState m t == 3 || slotState m t == 4

/-- The sense voltage exceeds SC_UV: the gate is pulled down at once, and the slot trips in the next tick (R418). -/
def shortCircuit (t senseUv : Nat) (m : Mach) : Mach :=
  if !slotsOn m || senseUv ≤ m.rd (Slot.SC_UV t) then m
  else
    let hit := powered m t
    m.updSlot t fun x => { x with gate := false, shorted := hit }

/-- Current limit has lasted FAULT_TICKS (R417). -/
def faultExpiry (t : Nat) (m : Mach) : Mach := if slotsOn m && powered m t then slotTrip t 5 m else m

/-- The gate is not fully on in time (R416). -/
def slotRampTimeout (t : Nat) (m : Mach) : Mach :=
  if slotsOn m && slotState m t = 3 && !slotIn m t inFull then slotTrip t 7 m else m

/-- VOUT has been below 88% of VIN at two ticks (R419). -/
def pgLost (t : Nat) (m : Mach) : Mach := if slotsOn m && slotIn m t inGood then slotTrip t 8 m else m

/-- The retry timer, or the remainder, has run out (R421, R423). -/
def retryExpiry (t : Nat) (m : Mach) : Mach :=
  if !slotsOn m || !(m.slot t).running then m
  else
    let m := refreshRetry t (m.updSlot t fun x => { x with retry := 0, running := false })
    if slotState m t = 5 then putSlotState t 2 m else m

/-- Power-good has held for 1 s (R421). -/
def retryCountReset (t : Nat) (m : Mach) : Mach :=
  if slotsOn m && slotIn m t inGood then m.wr (Slot.RETRY_COUNT t) 0 else m

/-! ### Ramps and power-good (R415, R416, R419) -/

/-- A slot asks for a ramp (R415). -/
def asksRamp (m : Mach) (t : Nat) : Bool :=
  slotState m t == 2 && m.on (Slot.PWR_EN t) && !(m.slot t).running && (m.slot t).retry == 0 && m.rd (Slot.VIN_MV t) ≥ m.rd (Slot.UV_MV t) + 500

/-- Admit a slot that asks while fewer than RAMP_CONC ramp (R415). -/
def rampAdmit (t : Nat) (m : Mach) : Mach :=
  if slotsOn m && asksRamp m t && m.rd SlotAll.RAMPING < m.rd SlotAll.RAMP_CONC then
    let m := m.updSlot t fun x => { x with gate := true, ramp := 0, fault := 0, clean := 0, uv := 0, offFor := 0, short := 0 }
    refreshAux t (putSlotState t 3 m)
  else m

/-- VOUT is at least n% of VIN. -/
def voutAt (m : Mach) (t n : Nat) : Bool := 100 * m.rd (Slot.VOUT_MV t) ≥ n * m.rd (Slot.VIN_MV t)

/-- The conditions of power-good in one tick (R419). -/
def cleanTick (m : Mach) (t : Nat) : Bool := slotIn m t inFull && voutAt m t 92 && !slotIn m t inLimit && (m.slot t).fault == 0

/-- Power-good asserts (R85, R419): where PERST_N of a tied port's group is asserted it stays so for that port's hold. -/
def slotPowerGood (t : Nat) (m : Mach) : Mach :=
  if !slotsOn m || slotState m t != 3 || !cleanTick m t then m
  else
    let m := forAll ((slotPorts m t).filter fun p => perstPin m (p / 4)) (fun p m =>
      { m.beginWait (waitPerst p) with edge := { m.edge with perst := Tab.put false m.edge.perst p true } }) m
    let m := (putIn t inGood true m).wr (Slot.PG_STITCH t) m.now.stitch
    slotEvent t 4 (putSlotState t 4 (m.updSlot t fun x => { x with pgFor := 0, low := 0 }))

/-! ### Under-voltage (R426) -/

def uvHold (t : Nat) (m : Mach) : Mach :=
  if slotsOn m && powered m t then slotEvent t 10 (putSlotState t 7 ((gateOff t m).updSlot t fun x => { x with up := 0 })) else m
def uvRecovery (t : Nat) (m : Mach) : Mach := if slotsOn m && slotState m t = 7 then putSlotState t 2 m else m

/-! ### Presence (R422, R423) -/

/-- Filtered presence asserts: the absence is judged, and the insertion debounce starts (R422, R423). -/
def presenceOn (t : Nat) (m : Mach) : Mach :=
  let m := putIn t inPresent true m
  let long := (m.slot t).absent ≥ 50000   -- ticks since it was lost, this one included
  let m := if long then m.wr (Slot.RETRY_COUNT t) 0 else m
  let m := m.updSlot t fun x => { x with
    retry := if long then 0 else x.retry
    running := if long then false else x.retry != 0
    absent := 0
    debounce := if x.inserted then x.debounce else some 0 }
  let m := refreshRetry t m
  if slotState m t = 0 then putSlotState t 1 m else m

/-- Filtered presence is lost: during the debounce the slot is empty again; otherwise removal follows after 5 ms (R422). -/
def presenceOff (t : Nat) (m : Mach) : Mach :=
  let m := (putIn t inPresent false m).updSlot t fun x => { x with absent := 0, debounce := none }
  if slotState m t = 1 then
    putSlotState t 0 (m.updSlot t fun x => { x with running := false })
  else m

/-- Filtered presence changes (R422). A masked input does not follow its pin (R424). -/
def presenceFilter (t : Nat) (present : Bool) (m : Mach) : Mach :=
  if !slotsOn m || slotIn m t inPresent = present || slotIn m t (inMask 0) then m
  else if present then presenceOn t m else presenceOff t m

/-- The insertion debounce ends (R414, R422, R423, R429). -/
def debounceEnd (t : Nat) (m : Mach) : Mach :=
  if !slotsOn m || (m.slot t).debounce.isNone then m
  else
    let m := m.updSlot t fun x => { x with debounce := none, inserted := true, auxOff := false }
    let m := if slotState m t = 1 then
        putSlotState t (if m.rd (Slot.RETRY_COUNT t) > m.rd (Slot.RETRY_MAX t) then 6 else 2) m
      else m
    slotHotplug t (some true) (slotEvent t 0 (refreshAux t m))

/-- Presence has been lost for 5 ms (R422). -/
def removalDeclared (t : Nat) (m : Mach) : Mach :=
  if !slotsOn m || slotIn m t inPresent || !(m.slot t).inserted then m
  else
    let failed := slotState m t == 8
    let m := gateOff t m
    let m := m.updSlot t fun x => { x with inserted := false, running := false, auxOff := false }
    let m := refreshAux t m
    let m := if failed then m else putSlotState t 0 m
    slotHotplug t (some false) (slotEvent t 1 m)

/-! ### Inputs (R424, R425) -/

def updInput (t i : Nat) (f : SlotInput → SlotInput) (m : Mach) : Mach :=
  m.updSlot t fun x => { x with inputs := x.inputs.set i (f (x.inputs.getD i SlotInput.reset)) }
def slotInput (m : Mach) (t i : Nat) : SlotInput := (m.slot t).inputs.getD i SlotInput.reset

/-- An input is masked as chattering (R424): a masked presence counts as lost. -/
def inputChatter (t i : Nat) (m : Mach) : Mach :=
  if !slotsOn m || i > 2 || slotIn m t (inMask i) then m
  else
    let m := updInput t i (fun x => { x with chatterAt := some m.now.ftime }) (putIn t (inMask i) true m)
    let m := slotEvent t 13 m
    if i = 0 && slotIn m t inPresent then presenceOff t m else m

/-- A button or alert active for STUCK_MS is masked (R424). -/
def inputStuck (t i : Nat) (m : Mach) : Mach :=
  if !slotsOn m || i = 0 || i > 2 || slotIn m t (inMask i) || !slotIn m t i then m
  else slotEvent t 14 (updInput t i (fun x => { x with stuckAt := some m.now.ftime }) (putIn t (inMask i) true m))

/-- The input's sampled level has changed more than CHATTER_N times within CHATTER_MS. -/
def inputChatters (m : Mach) (t i : Nat) : Bool :=
  ((slotInput m t i).changes.filter fun c => m.now.tick < c + 1000 * m.rd (Slot.CHATTER_MS t)).length > m.rd (Slot.CHATTER_N t)

/-- INPUT_REARM of one input: unmasked, unless it still chatters or is still active, which is raised at most once per 100 ms (R424). -/
def rearmInput (t i : Nat) (m : Mach) : Mach :=
  if !slotIn m t (inMask i) then m
  else
    let x := slotInput m t i
    if inputChatters m t i then
      if mayRepeat m x.chatterAt then slotEvent t 13 (updInput t i (fun x => { x with chatterAt := some m.now.ftime }) m) else m
    else if i != 0 && x.level && slotIn m t i then
      if mayRepeat m x.stuckAt then slotEvent t 14 (updInput t i (fun x => { x with stuckAt := some m.now.ftime }) m) else m
    else updInput t i (fun x => { x with run := 0, active := 0 }) (putIn t (inMask i) false m)

/-- The filtered button asserts, and the filtered alert (R425). -/
def buttonOn (t : Nat) (m : Mach) : Mach :=
  if !slotsOn m || slotIn m t 1 || slotIn m t (inMask 1) then m
  else slotHotplug t none (slotEvent t 2 (updInput t 1 (fun x => { x with active := 0 }) (putIn t 1 true m)))
def alertOn (t : Nat) (m : Mach) : Mach :=
  if !slotsOn m || slotIn m t 2 || slotIn m t (inMask 2) then m
  else slotEvent t 3 (updInput t 2 (fun x => { x with active := 0 }) (putIn t 2 true m))

/-! ### Pass FET and auxiliary power (R427, R429) -/

/-- The short condition of R427. -/
def shortCondition (m : Mach) (t : Nat) : Bool :=
  if m.on (Slot.OR_FEED t) then 10 * toSigned 32 (m.rd (Slot.SENSE_UV t)) > (m.rd (Slot.ILIM_UV t) : Int)
  else 2 * m.rd (Slot.VOUT_MV t) ≥ m.rd (Slot.VIN_MV t)

/-- The open condition of R427. -/
def openCondition (m : Mach) (t : Nat) : Bool :=
  m.rd (Slot.VIN_MV t) > m.rd (Slot.VOUT_MV t) + 250 && 2 * toSigned 32 (m.rd (Slot.SENSE_UV t)) < (m.rd (Slot.ILIM_UV t) : Int)

def fetFail (t : Nat) (m : Mach) : Mach :=
  if !slotsOn m || slotState m t = 8 then m else slotEvent t 11 (putSlotState t 8 (gateOff t m))

/-- SLOT_CMD 1: the short check runs again (R427). -/
def fetRecheck (t : Nat) (m : Mach) : Mach :=
  if slotState m t = 8 then m.updSlot t fun x => { x with recheck := some 0, rebad := true } else m
def fetRecheckDone (t : Nat) (pass : Bool) (m : Mach) : Mach :=
  if !slotsOn m || slotState m t != 8 || (m.slot t).recheck.isNone then m
  else
    let m := m.updSlot t fun x => { x with recheck := none, rebad := false, offFor := 0, short := 0 }
    if pass then putSlotState t (if slotIn m t inPresent then 2 else 0) m else slotEvent t 11 m

def auxFault (t : Nat) (m : Mach) : Mach :=
  if slotsOn m && slotIn m t inAux then slotEvent t 12 (refreshAux t (m.updSlot t fun x => { x with auxOff := true, aux := 0 })) else m
def auxRestore (t : Nat) (m : Mach) : Mach := refreshAux t (m.updSlot t fun x => { x with auxOff := false, aux := 0 })

/-! ### Writes (R413, R414, R431) -/

/-- The value that an entry of the die will have when the accepted writes have taken effect. -/
def slotValue (m : Mach) (k : Nat) : Nat :=
  match (m.slots.writes.filter fun w => w.1 == k).getLast? with
  | some w => w.2
  | none => m.rd k

/-- A write is accepted: the next slot tick applies it (R413). -/
def slotWrite (k v : Nat) (m : Mach) : Mach := { m with slots := { m.slots with writes := m.slots.writes ++ [(k, v)] } }

/-- PWR_EN is written (R414, R421). -/
def pwrEn (t v : Nat) (m : Mach) : Mach :=
  let m := m.wr (Slot.PWR_EN t) v
  if v != 0 then m
  else
    let s := slotState m t
    let m := m.wr (Slot.RETRY_COUNT t) 0
    let m := if s = 3 || s = 4 then gateOff t m else m
    if 3 ≤ s && s ≤ 6 then
      putSlotState t 2 (refreshRetry t (m.updSlot t fun x => { x with retry := 0, running := false }))
    else m

/-- A write takes effect. -/
def applySlotWrite (k v : Nat) (m : Mach) : Mach :=
  let t := k / 256 - 0x7200
  match k % 256 with
  | 1 => pwrEn t v m
  | 0x0C => refreshAux t (m.wr k v)
  | 0x16 => forAll (bitsSet 3 v) (rearmInput t) m
  | 0x1B => if v = 1 then fetRecheck t m else auxRestore t m
  | _ => m.wr k v

/-- Accepted writes take effect, in their order (R413, R420 step 10). -/
def applySlotWrites (m : Mach) : Mach :=
  let ws := m.slots.writes
  forAll ws (fun w m => applySlotWrite w.1 w.2 m) { m with slots := { m.slots with writes := [] } }

/-! ### The slot tick (R412, R420) -/

/-- A slot's samples at a tick: those given, or for a slot that is not named those of the tick before. -/
def sampleOf (m : Mach) (env : TickEnv) (t : Nat) : SlotSample :=
  match env.slots.find? fun s => s.slot == t with
  | some s => s
  | none => ⟨t, m.rd (Slot.VIN_MV t), m.rd (Slot.VOUT_MV t), toSigned 32 (m.rd (Slot.SENSE_UV t)), slotIn m t inFull,
      (slotInput m t 0).level, (slotInput m t 1).level, (slotInput m t 2).level, false⟩

/-- The results of a tick's measurements (R412). -/
def measure (s : SlotSample) (m : Mach) : Mach :=
  let t := s.slot
  let m := (m.wr (Slot.VIN_MV t) (s.vin % 65536)).wr (Slot.VOUT_MV t) (s.vout % 65536)
  let m := m.wrS (Slot.SENSE_UV t) s.senseUv
  let m := m.wr (Slot.CURRENT_MA t) (s.senseUv.toNat * 1000 / m.rd (Slot.SHUNT_UOHM t) % 2 ^ 32)
  putIn t inLimit (s.senseUv > (m.rd (Slot.ILIM_UV t) : Int)) (putIn t inFull (s.gateFull && (m.slot t).gate) m)

/-- One sample of input i, and whether its filtered level changes with it (R422). -/
def sampleInput (t i : Nat) (level : Bool) (m : Mach) : Bool × Mach :=
  let x := slotInput m t i
  let n := m.rd (Slot.CHATTER_N t)
  let run := if level != slotIn m t i then x.run + 1 else 0
  let due := run ≥ m.rd (Slot.DEB_TICKS t) && !slotIn m t (inMask i)
  let m := updInput t i (fun x => { x with
    level := level
    changes := if level != x.level then (m.now.tick :: x.changes).take (n + 1) else x.changes
    run := if due then 0 else min run 1000
    active := if slotIn m t i then min (x.active + 1) (1000 * m.rd (Slot.STUCK_MS t)) else 0 }) m
  (due, m)

/-- Steps 1 to 6 of R420 for slot t. -/
def slotTickFirst (s : SlotSample) (m : Mach) : Mach :=
  let t := s.slot
  let m := measure s m
  -- 1
  let excess := powered m t && s.senseUv > (m.rd (Slot.SC_UV t) : Int)
  let m := if (m.slot t).shorted || excess then slotTrip t 6 m else m
  -- 2
  let (due, m) := sampleInput t 0 s.prsnt m
  let m := if slotIn m t inPresent then m else m.updSlot t fun x => { x with absent := min (x.absent + 1) 50000 }
  let m := if due then presenceFilter t s.prsnt m else m
  let m := if !slotIn m t inPresent && (m.slot t).absent ≥ 5000 then removalDeclared t m else m
  -- 3, 4
  let m := m.updSlot t fun x => { x with ramp := if slotState m t = 3 then x.ramp + 1 else 0 }
  let m :=
    if powered m t && (m.slot t).fault ≥ m.rd (Slot.FAULT_TICKS t) then slotTrip t 5 m
    else if slotState m t = 3 && (m.slot t).ramp ≥ 4000 * m.rd (Slot.RAMP_MS t) && !slotIn m t inFull then slotTrip t 7 m
    else m
  let was := (m.slot t).fault
  let m := m.updSlot t fun x => { x with fault := if powered m t && slotIn m t inLimit then x.fault + 1 else 0 }
  -- 5
  let before := slotIn m t inGood
  let clean := was = 0 && cleanTick m t
  let m := m.updSlot t fun x => { x with clean := if clean then min 2 (x.clean + 1) else 0 }
  let m := if (m.slot t).clean ≥ 2 then slotPowerGood t m else m
  let good := slotIn m t inGood
  let m := m.updSlot t fun x => { x with
    low := if good && !voutAt m t 88 then x.low + 1 else 0
    pgFor := if good && before then min (x.pgFor + 1) 1000000 else 0 }
  let m := if (m.slot t).low ≥ 2 then slotTrip t 8 m else m
  let m := if (m.slot t).pgFor ≥ 1000000 then retryCountReset t m else m
  -- 6
  let vin := m.rd (Slot.VIN_MV t)
  let uv := m.rd (Slot.UV_MV t)
  let m := m.updSlot t fun x => { x with
    uv := if powered m t && vin < uv then x.uv + 1 else 0
    up := if slotState m t = 7 && vin ≥ uv + 500 then x.up + 1 else 0 }
  let m := if (m.slot t).uv ≥ 100 then uvHold t m else m
  if (m.slot t).up ≥ 10001 then uvRecovery t m else m

/-- Step 7 of R420 without the admissions: timers run out. -/
def slotTimers (t : Nat) (m : Mach) : Mach :=
  let m := if (m.slot t).running && (m.slot t).retry = 0 then retryExpiry t m else m
  let m := if (m.slot t).debounce.any (· ≥ 100000) then debounceEnd t m else m
  refreshRetry t (m.updSlot t fun x => { x with
    retry := if x.running then x.retry - 1 else x.retry
    debounce := x.debounce.map (· + 1) })

/-- Steps 8 and 9 of R420 for slot t. -/
def slotTickLast (s : SlotSample) (m : Mach) : Mach :=
  let t := s.slot
  let off := !(m.slot t).gate
  let m := m.updSlot t fun x => { x with
    offFor := if off then min (x.offFor + 1) 100001 else 0
    short := if off && shortCondition m t then min (x.short + 1) 1000 else 0
    opened := if slotState m t = 4 && openCondition m t then x.opened + 1 else 0
    recheck := x.recheck.map (· + 1)
    rebad := x.rebad && (x.recheck.isNone || shortCondition m t) }
  let m := if ((m.slot t).short ≥ 1000 && (m.slot t).offFor ≥ 100001 && slotIn m t inPresent) || (m.slot t).opened ≥ 1000 then fetFail t m else m
  let m := if (m.slot t).recheck.any (· ≥ 1000) then fetRecheckDone t (!(m.slot t).rebad) m else m
  let m := m.updSlot t fun x => { x with aux := if slotIn m t inAux && s.auxOver then x.aux + 1 else 0 }
  let m := if (m.slot t).aux ≥ 100 then auxFault t m else m
  let (b, m) := sampleInput t 1 s.btn m
  let m := if !b then m else if s.btn then buttonOn t m else putIn t 1 false m
  let (a, m) := sampleInput t 2 s.alert m
  let m := if !a then m else if s.alert then alertOn t m else putIn t 2 false m
  let m := forAll [0, 1, 2] (fun i m => if inputChatters m t i then inputChatter t i m else m) m
  forAll [1, 2] (fun i m =>
    if slotIn m t i && (slotInput m t i).active ≥ 1000 * m.rd (Slot.STUCK_MS t) then inputStuck t i m else m) m

/-- LED_BLINK_TOGGLE: every blinking indicator toggles, 250,000 ticks after it last did (R430). -/
def blinkToggle (m : Mach) : Mach :=
  if !slotsOn m || m.now.tick < m.slots.blinkAt + 250000 then m
  else { m with slots := { m.slots with blink := !m.slots.blink, blinkAt := m.now.tick } }

/-- A slot tick of the die (R412, R415, R420). -/
def slotsTick (env : TickEnv) (m : Mach) : Mach :=
  if !slotsOn m then m
  else
    let all := List.range 32
    let m := forAll all (fun t m => slotTickFirst (sampleOf m env t) m) m
    let m := forAll all slotTimers m
    let m := forAll all rampAdmit m
    let m := forAll all (fun t m => slotTickLast (sampleOf m env t) m) m
    applySlotWrites (blinkToggle m)

/-! ### What the next tick finds due -/

/-- R422: one more sample changes the filtered level of input i. -/
def filterDue (t i : Nat) (m : Mach) : Bool := m.rd (Slot.DEB_TICKS t) ≤ (slotInput m t i).run + 1
/-- R422. -/
def debounceDue (t : Nat) (m : Mach) : Bool := (m.slot t).debounce.any (100000 ≤ ·)
/-- R422. -/
def removalDue (t : Nat) (m : Mach) : Bool := 5000 ≤ (m.slot t).absent + 1
/-- R416. -/
def rampDue (t : Nat) (m : Mach) : Bool := 4000 * m.rd (Slot.RAMP_MS t) ≤ (m.slot t).ramp + 1
/-- R417. -/
def faultDue (t : Nat) (m : Mach) : Bool := m.rd (Slot.FAULT_TICKS t) ≤ (m.slot t).fault
/-- R419. -/
def goodDue (t : Nat) (m : Mach) : Bool := 1 ≤ (m.slot t).clean
/-- R419. -/
def pgLostDue (t : Nat) (m : Mach) : Bool := 1 ≤ (m.slot t).low && !voutAt m t 88
/-- R421, R423. -/
def retryDue (t : Nat) (m : Mach) : Bool := (m.slot t).running && (m.slot t).retry == 0
/-- R421. -/
def goodHeld (t : Nat) (m : Mach) : Bool := 1000000 ≤ (m.slot t).pgFor + 1
/-- R426. -/
def uvDue (t : Nat) (m : Mach) : Bool := 100 ≤ (m.slot t).uv + 1 && m.rd (Slot.VIN_MV t) < m.rd (Slot.UV_MV t)
/-- R414. -/
def uvGone (t : Nat) (m : Mach) : Bool := 10001 ≤ (m.slot t).up + 1 && m.rd (Slot.UV_MV t) + 500 ≤ m.rd (Slot.VIN_MV t)
/-- R427. -/
def fetDue (t : Nat) (m : Mach) : Bool :=
  let x := m.slot t
  (1000 ≤ x.short + 1 && 100001 ≤ x.offFor + 1 && !x.gate && slotIn m t inPresent && shortCondition m t) ||
  (1000 ≤ x.opened + 1 && slotState m t == 4 && openCondition m t)
/-- R427. -/
def recheckDue (t : Nat) (m : Mach) : Bool := (m.slot t).recheck.any (1000 ≤ · + 1)
/-- R427: the recheck passes where the last tick says so, or one before it has. -/
def recheckDone (t : Nat) (pass : Bool) (m : Mach) : Mach := fetRecheckDone t (pass || !(m.slot t).rebad) m
/-- R429. -/
def auxDue (t : Nat) (m : Mach) : Bool := 100 ≤ (m.slot t).aux + 1
/-- R424. -/
def stuckDue (t i : Nat) (m : Mach) : Bool := 1000 * m.rd (Slot.STUCK_MS t) ≤ (slotInput m t i).active + 1

/-! ### Indicators (R430) -/

/-- An indicator in a mode: 0 off, 1 on, 2 blink; 3 takes what `auto` says. -/
def ledLit (m : Mach) (mode auto : Nat) : Bool :=
  match (if mode = 3 then auto else mode) with
  | 0 => false
  | 1 => true
  | _ => m.slots.blink

/-- SLt_PWRLED_N and SLt_ATTNLED_N are driven low. -/
def powerLed (m : Mach) (t : Nat) : Bool :=
  let s := slotState m t
  ledLit m (m.rd (Slot.PWR_LED t)) (if s = 4 then 1 else if s = 1 || s = 3 || s = 5 || s = 7 then 2 else 0)
def attnLed (m : Mach) (t : Nat) : Bool :=
  let s := slotState m t
  ledLit m (m.rd (Slot.ATTN_LED t)) (if s = 6 || s = 8 then 1 else if (m.slot t).auxOff then 2 else 0)

end Sys2Proof.Machine
end

