-- ==== Sys2Proof/Machine/Blocks.lean ====
section
/-! DEFINITION. Lane blocks (R101 to R104): reference clocks and PLLs. -/

namespace Sys2Proof.Machine

def Mach.blk (m : Mach) (b : Nat) : BlkSt := Tab.get BlkSt.reset m.lanes.blocks b

def Mach.updBlk (m : Mach) (b : Nat) (f : BlkSt → BlkSt) : Mach :=
  { m with lanes := { m.lanes with blocks := Tab.upd BlkSt.reset m.lanes.blocks b f } }

/-- The enabled ports with lanes in block b. -/
def blockPorts (m : Mach) (b : Nat) : List Nat :=
  if 32 ≤ b then []
  else ([lanePort m (8 * b), lanePort m (8 * b + 4)].eraseDups).filter fun p => m.on (Port.ENABLE p)

/-- Every lane of block b stops (R104): those that were active drive electrical idle, its ports lose their links, a seam loses the
block, and lanes that are waking wait for relock. -/
def blockStop (b : Nat) (m : Mach) : Mach :=
  let m := forAll ((List.range 8).map (8 * b + ·)) (fun n m =>
    let m := if (m.lane n).wake then m.updLane n fun x => { x with pllRan := false } else m
    if m.rd (Lane.LANE_STATE n) ≥ 4 then m.wr (Lane.LANE_STATE n) 3 else m) m
  let m := forAll (blockPorts m b) linkLost m
  match seamOfBlock m b with
  | some (s, i) => seamBlockLost s i m
  | none => m

/-- A reference fault that is declared in the stitch of a PLL unlock comes before it (R120), and the unlock that it causes is not
raised (R103). -/
def lossOfReference (b : Nat) (m : Mach) : Mach :=
  if (m.blk b).unlockAt = some m.now.stitch then
    let m := match m.now.raised.find? (·.source == 1024 + 4 * b) with
      | some r => { m with now := { m.now with raised := m.now.raised.erase r } }
      | none => m
    (m.wr (Blk.PLL_UNLOCKS b) (m.rd (Blk.PLL_UNLOCKS b) - 1)).updBlk b fun x => { x with unlockAt := none }
  else m

/-- A reference fault is declared (R103). -/
def refFault (b : Nat) (m : Mach) : Mach :=
  let m := lossOfReference b (m.updBlk b fun x => { x with fault := true, good := 0 })
  blockStop b (blockEvent b 1 (m.wr (Blk.PLL_STATE b) 3))

/-- A 10 µs window of the reference ends at an offset of `ppm` (R103). -/
def refWindow (b : Nat) (ppm : Int) (m : Mach) : Mach :=
  if !m.domOn (blockDomain b) then m
  else
    let m := m.wr (Blk.REFCLK_PPM b) (ofSigned 32 ppm)
    if ppm < -5600 || 600 < ppm then
      if (m.blk b).fault then m.updBlk b fun x => { x with good := 0 } else refFault b m
    else if (m.blk b).fault then
      if 10 ≤ (m.blk b).good + 1 then refreshPll b (m.updBlk b fun _ => BlkSt.reset)
      else m.updBlk b fun x => { x with good := x.good + 1 }
    else m

/-- No reference edge has arrived for 1 µs (R103). -/
def refEdgeLoss (b : Nat) (m : Mach) : Mach :=
  if !m.domOn (blockDomain b) then m
  else if (m.blk b).fault then m.updBlk b fun x => { x with good := 0 }
  else refFault b m

/-- The PLL of block b loses lock while its reference is good (R104). -/
def pllUnlock (b : Nat) (m : Mach) : Mach :=
  if m.domOn (blockDomain b) && m.rd (Blk.PLL_STATE b) = 2 then
    let m := m.updBlk b fun x => { x with unlockAt := some m.now.stitch }
    blockStop b (blockEvent b 0 ((m.wr (Blk.PLL_STATE b) 1).bump (Blk.PLL_UNLOCKS b) 1))
  else m

/-- The PLL of block b locks: enabled ports train from Detect, and lanes in raw test mode run again (R104). -/
def pllRelock (b : Nat) (m : Mach) : Mach :=
  if m.domOn (blockDomain b) && m.rd (Blk.PLL_STATE b) = 1 then
    forAll (blockPorts m b) (fun p m =>
      if !m.linkUp p && m.rd (PortStat.LTSSM p) != 0 then m.wr (PortStat.LTSSM p) 1 else m)
      (forAll ((List.range 8).map (8 * b + ·)) (fun n m =>
        if rawLane m n && m.rd (Lane.LANE_STATE n) = 3 then m.wr (Lane.LANE_STATE n) 5 else m) (m.wr (Blk.PLL_STATE b) 2))
  else m

/-! ### Settings of blocks and lanes -/

/-- Why a write of CLK_MODE fails (R102). -/
def clkModeCheck (b : Nat) (m : Mach) : Option Status :=
  if !(blockPorts m b).isEmpty then some .state
  else if 32 ≤ b && (List.range 8).any fun i => !rawLane m (8 * b + i) then some .state
  else none

/-- Why a write of TX_FIR fails (R105, R106). -/
def firCheck (n v : Nat) (m : Mach) : Option Status :=
  if !firOk v then some .range
  else if n < 256 && m.on (Port.ENABLE (lanePort m n)) then some .state
  else none

/-- Why a write to an entry of raw test mode fails (R111, R113): subindices LOOP, PRBS_GEN, PRBS_CHK, DOZE and TEST_RATE. -/
def rawCheck (n : Nat) (m : Mach) : Option Status := if rawLane m n then none else some .state

end Sys2Proof.Machine
end

