-- ==== Sys2Proof/Machine/Domains.lean ====
section
/-! DEFINITION. Power domains and the stager (R39, R471 to R476, R521, R522, R524): which domain an entry lies in, what a
domain's switch-off and return do to its block, and the order of the ramps. -/

namespace Sys2Proof.Machine

/-! ### Entries and their domains -/

/-- The power domain whose block holds the entry at key k, 0 for a block that never goes off (R39, R522). -/
def keyDomain (k : Nat) : Nat :=
  let i := k / 256
  if i < 0x2000 then 0
  else if i < 0x2400 then portDomain ((i - 0x2000) / 16)
  else if i < 0x2580 then blockDomain ((i - 0x2400) / 8)
  else if i < 0x2600 then blockDomain (i - 0x2580)
  else if i < 0x2800 then 63
  else if i < 0x2808 then 54
  else if i < 0x2810 then 64 + (i - 0x2808)
  else if i < 0x2820 then 54 + (i - 0x2810)
  else if i < 0x2840 then 54
  else if i < 0x3001 then 0
  else if i < 0x3005 then 58 + (i - 0x3001)
  else if i < 0x3110 then 0
  else if i < 0x3114 then 58 + (i - 0x3110)
  else if i < 0x3810 then 0
  else if i < 0x3850 then portDomain (i - 0x3810)
  else if i < 0x6000 then 0
  else if i < 0x6040 then portDomain (i - 0x6000)
  else if i < 0x6100 then 0
  else if i < 0x6140 then portDomain (i - 0x6100)
  else if i < 0x6180 then portDomain (i - 0x6140)
  else if i < 0x6200 then 54
  else if i < 0x6204 then 58 + (i - 0x6200)
  else if i < 0x6206 then 54
  else if i = 0x6206 then 0
  else if i < 0x6209 then 63
  else if i < 0x6880 then 62
  else if i < 0x7200 then 0
  else if i < 0x7220 then 76
  else 0

/-- The entry at key k keeps its last written value through a loss of its block's power (R37, R473). TX_FIR is saved for seam lanes only. -/
def isSaved (k : Nat) : Bool :=
  match findEntry k with
  | some (e, _) => e.saved && !(0x2400 ≤ k / 256 && k / 256 < 0x2500 && k % 256 == 3)
  | none => false

/-- Volatile entries of domain d take their defaults (R473 step 2). RETIRED of a die stays with its slots (R165). -/
def dropVolatile (d : Nat) (m : Mach) : Mach :=
  let gone := fun k => keyDomain k == d && !isSaved k && !(k / 256 < 0x2810 && 0x2808 ≤ k / 256 && k % 256 == 5)
  { m with pb := Tab.drop gone m.pb, ram := Tab.drop (fun k => gone (k / 2 ^ 24)) m.ram }

/-! ### States of a domain -/

def pdState (m : Mach) (d : Nat) : Nat := m.rd (Pd.PD_STATE d)
def putPd (d v : Nat) (m : Mach) : Mach := m.wr (Pd.PD_STATE d) v

/-- The domains whose parent is d. -/
def children (d : Nat) : List Nat := (List.range 77).filter fun c => domainParent c == d

/-- Domain d and everything below it. -/
def family (d : Nat) : List Nat :=
  let c := children d
  d :: c ++ (c.map children).flatten ++ ((c.map children).flatten.map children).flatten

/-- Ports of port engine k. -/
def enginePorts (k : Nat) : List Nat := (List.range 4).map (4 * k + ·)

/-- STAGE_STATE, STAGE_PENDING and PREWARN_N follow the batches (R476). -/
def refreshStager (m : Mach) : Mach :=
  let p := m.power
  let m := m.wr PdAll.STAGE_PENDING p.batch.length
  let m := m.wr PdAll.STAGE_STATE (if !p.running.isEmpty then 2 else if !p.batch.isEmpty then 1 else 0)
  if p.batch.isEmpty && p.running.isEmpty then { m with power := { m.power with prewarn := false } } else m

/-- PREWARN_N asserts at the start of the stitch after a batch opens (R476). A command of this stitch finds the stitch number one on. -/
def stagerStitch (m : Mach) : Mach :=
  if m.power.batch.isEmpty || m.begun waitWarn != 0 then m
  else
    let m := { m with power := { m.power with prewarn := true } }
    { m with now := { m.now with waits := Tab.put 0 m.now.waits waitWarn (m.now.stitch + 1) } }

/-! ### Switching off (R474, R521, R524) -/

/-- Step 1 of R474 for domain d: its block takes nothing new, and PD_STATE reads 4. -/
def quiesce (d : Nat) (m : Mach) : Mach :=
  let m :=
    if 2 ≤ d && d < 38 then
      let m := forAll (blockPorts m (d - 2)) portDomainOff m
      match seamOfBlock m (d - 2) with
      | some (s, b) => seamBlockLost s b m
      | none => m
    else if 38 ≤ d && d < 54 then forAll (enginePorts (d - 38)) portDomainOff m
    else if d = 63 then seamsOff m
    else m
  let m := putPd d 4 m
  if 64 ≤ d && d < 72 then refreshSlots m else m

/-- What the block of domain d held beside its entries. -/
def blockState (d : Nat) (m : Mach) : Mach :=
  if 2 ≤ d && d < 38 then
    let ns := (List.range 8).map (8 * (d - 2) + ·)
    let m := forAll ns (fun n m => m.updLane n fun _ => LaneSt.reset) m
    m.updBlk (d - 2) fun _ => BlkSt.reset
  else if 38 ≤ d && d < 54 then
    forAll (enginePorts (d - 38)) (fun p m =>
      let m := m.updPort p fun x => { x with
        busMaster := false, full := 0, holding := 0, heldIo := [], heldMem := [], heldCache := [], heldOut := []
        loaded := [], inUse := [], txDue := [] }
      let mine := fun k => k / 64 == p
      let c := m.core
      { m with
        core := { c with
          tags := Tab.drop mine c.tags, cbkt := Tab.drop mine c.cbkt
          pbkt := Tab.drop mine c.pbkt, figures := Tab.drop mine c.figures }
        traffic := { m.traffic with gates := Tab.put GateSt.reset m.traffic.gates p GateSt.reset }
        protect := { m.protect with sites := Tab.put SiteSt.reset m.protect.sites (1 + p) SiteSt.reset } }) m
  else if d = 62 then
    let m := inputLost 64 (outputLost 64 m)
    let m := forAll m.chans (fun e m =>
      forAll (e.2.run :: e.2.ahead :: e.2.before.map (·.2)) (closeRun e.1) m) m
    { m with chans := [], answers := [], core := { m.core with rings := [] } }
  else if 64 ≤ d && d < 72 then refreshSlots (m.wr (Die.DIE_STATE (d - 64)) 0)
  else if d = 76 then { m with slots := Slots.reset }
  else m

/-- What the block of domain d held is gone once nothing more is to be delivered to it (R474 step 2); its volatile entries read
their defaults (R39). -/
def blockGone (d : Nat) (m : Mach) : Mach := nocGone d (dropVolatile d (blockState d m))

/-- Bolt store die d - 64 still holds swatches (R524). -/
def holdsSwatches (m : Mach) (d : Nat) : Bool := 64 ≤ d && d < 72 && dieUsed m (d - 64) != 0

/-- Everything that the power-down of domain d waits for is done (R205, R474 step 1, R524): a bolt store die holds no swatch, no
message of the network needs it, and no child is still on its way off. -/
def quiet (m : Mach) (d : Nat) : Bool :=
  !nocBusy m d && !holdsSwatches m d &&
  (children d).all fun c => pdState m c == 0 || pdState m c == 6 || m.power.batch.contains ⟨c, false⟩ || m.power.running.contains ⟨c, false⟩

/-! ### Coming back (R473) -/

/-- The block of domain d leaves reset (R473 step 3, R218, R521, R524). -/
def blockReleased (d : Nat) (m : Mach) : Mach :=
  if 2 ≤ d && d < 38 then
    let m := startPll (d - 2) m
    forAll (blockPorts m (d - 2)) portDomainOn m
  else if 38 ≤ d && d < 54 then
    forAll (enginePorts (d - 38)) (fun p m => portDomainOn p (siteLoaded (1 + p) m)) m
  else if 58 ≤ d && d < 62 then (if m.domOn (d + 14) then ceInitStart (d - 58) m else m)
  else if 72 ≤ d && d < 76 then (if m.domOn (d - 14) then ceInitStart (d - 72) m else m)
  else if d = 63 then seamsBack m
  else if 64 ≤ d && d < 72 then refreshSlots (m.wr (Die.DIE_STATE (d - 64)) 1)
  else m

/-- Domain d restores its entries and reads PD_STATE 3 once its parent does. `wake` tells a wake from a reset. -/
def release (wake : Bool) (d : Nat) (m : Mach) : Mach :=
  if m.domOn (domainParent d) then
    let m := putPd d 3 (dropVolatile d m)
    let m := (if wake then m.bump (Pd.PD_WAKES d) 1 else m).wr (Pd.PD_ON_STITCH d) m.now.stitch
    blockReleased d m
  else putPd d (if wake then 2 else 5) m

/-- Domain d is released, and the children that waited for it follow. -/
def releaseAll : Nat → Bool → Nat → Mach → Mach
  | 0, _, _, m => m
  | n + 1, wake, d, m =>
    let m := release wake d m
    if pdState m d = 3 then
      forAll (children d) (fun c m =>
        if pdState m c = 2 then releaseAll n true c m
        else if pdState m c = 5 then releaseAll n false c m
        else m) m
    else m

/-! ### Writes of PD_REQ and PD_RESET (R472, R475) -/

/-- R191, R218 or R413 forbids that domain d goes off or is reset. -/
def pdForbidden (m : Mach) (d : Nat) : Bool :=
  let tracked := (windowsInState m 1 ++ windowsInState m 2).any (winTracked m)
  d == 1 ||
  (tracked && ((58 ≤ d && d < 62) || (72 ≤ d && d < 76))) ||
  (d == 76 && (List.range 32).any fun t => m.on (Slot.PWR_EN t) || (m.slot t).gate)

/-- The write fails with STATE and counts in PD_REFUSED. -/
def pdRefuse (d : Nat) (m : Mach) : Mach := (m.bump (Pd.PD_REFUSED d) 1).emit (.answer .state 0)

/-- Why PD_REQ 1 of domain d is refused under R472; `also` are domains that the same atomic request asks on. -/
def pdOnRefused (d : Nat) (also : List Nat) (m : Mach) : Bool :=
  d == 0 || (pdState m d == 0 &&
    !([1, 2, 3].contains (pdState m (domainParent d)) || m.domOn (domainParent d) || also.contains (domainParent d)))

/-- A write of PD_REQ in the stitch of a thermal trip is refused (R488). -/
def tripNow (m : Mach) : Bool := m.power.tripStitch == some m.now.stitch

/-- The domain is on its way, and a write of its entries finds it busy (R472). -/
def pdBusy (m : Mach) (d : Nat) : Bool := [1, 2, 4].contains (pdState m d)

/-- The ramp of domain d joins the stager's batch; the slot-power die is not staged (R471). -/
def stage (d : Nat) (up : Bool) (m : Mach) : Mach :=
  if d = 76 then (if up then releaseAll 3 true d m else putPd d 0 m)
  else joinBatch ⟨d, up⟩ m

/-- An accepted PD_REQ 1 (R473). -/
def pdOn (d : Nat) (m : Mach) : Mach :=
  let m := m.wr (Pd.PD_REQ d) 1
  if pdState m d = 0 then stage d true (putPd d 1 m) else m

/-- Why PD_REQ 0 of domain d is refused (R472, R524). -/
def pdOffRefused (d : Nat) (m : Mach) : Bool :=
  d == 0 || d == 1 ||
  (pdState m d != 0 && pdState m d != 6 &&
    ((children d).any (fun c => [1, 2, 3, 5].contains (pdState m c)) || pdForbidden m d ||
     (64 ≤ d && d < 72 && (wantedSteps m (d - 64) != 0 || m.rd Fab.CARVE_STATUS != 0))))

/-- An accepted PD_REQ 0 (R473, R474). -/
def pdOff (d : Nat) (m : Mach) : Mach :=
  let m := m.wr (Pd.PD_REQ d) 0
  let st := pdState m d
  if st = 3 || st = 5 then quiesce d m
  else if st = 6 then putPd d 0 m
  else m

/-- Why PD_RESET 1 of domain d fails (R475). -/
def pdResetCheck (d : Nat) (m : Mach) : Option Status :=
  let below := (family d).filter fun c => pdState m c == 3
  if d = 0 || d = 1 || [0, 5, 6].contains (pdState m d) || below.any (pdForbidden m) then some .state
  else if pdBusy m d then some .busy
  else none

/-- PD_RESET 1: the domain quiesces with its children, the deepest first. -/
def pdReset (d : Nat) (m : Mach) : Mach :=
  let on := (family d).filter fun c => pdState m c == 3
  forAll ([3, 2, 1].flatMap fun k => on.filter fun c => domainDepth c == k) quiesce m

/-! ### The stager's events (R474 to R476) -/

/-- Nothing more is on its way to a quiescing domain: it ramps down, or, where PD_RESET asked, is restored without a ramp once its
children are ready to be (R474, R475). -/
def quiesceDone (d : Nat) (m : Mach) : Mach :=
  if pdState m d != 4 || m.power.batch.contains ⟨d, false⟩ || m.power.running.contains ⟨d, false⟩ then m
  else if m.on (Pd.PD_REQ d) then
    if nocBusy m d || holdsSwatches m d || (children d).any (fun c => pdState m c == 4) then m
    else releaseAll 3 false d ((putPd d 5 (blockGone d m)).beginWait (waitDomain d))
  else if quiet m d then stage d false (blockGone d m)
  else m

/-- The ramps of a batch in their order: power-downs in descending depth, then wakes in ascending depth (R476). -/
def rampOrder (b : List Ramp) : List Ramp :=
  let of := fun (k : Nat) (up : Bool) => ((List.range 77).filter fun d => domainDepth d == k && b.contains ⟨d, up⟩).map fun d => (⟨d, up⟩ : Ramp)
  [3, 2, 1].flatMap (of · false) ++ [1, 2, 3].flatMap (of · true)

/-- Stitches that a ramp of domain d takes (R471, R476). -/
def rampLength (d : Nat) : Nat :=
  if d = 1 then 10
  else if 54 ≤ d && d < 58 then 30
  else if 58 ≤ d && d < 62 then 20
  else if 64 ≤ d && d < 76 then 30
  else 15

/-- Stitches from PREWARN_N to the grant (R476). -/
def grantWait : Nat := 250

/-- The grant, 250 stitches after PREWARN_N: the batch's ramps follow those that still run, and lane-block PLLs restart in ascending order
(R110, R476). -/
def stagerGrant (m : Mach) : Mach :=
  let b := m.power.batch
  if b.isEmpty || !m.power.prewarn || m.begun waitWarn = 0 || !m.waited waitWarn grantWait then m
  else
    let at_ := m.begun waitWarn + grantWait
    let m := forAll ((List.range 36).filter fun k => b.contains (pllRamp k)) (fun k m =>
      startPll k m) m
    let m := if m.power.running.isEmpty then { m with now := { m.now with waits := Tab.put 0 m.now.waits waitRamp at_ } } else m
    refreshStager { m with power := { m.power with batch := [], running := m.power.running ++ rampOrder b } }

/-- The first of the running ramps has ended, and the next begins (R476). -/
def nextRamp (d : Nat) (rs : List Ramp) (m : Mach) : Mach :=
  let m := { m with power := { m.power with running := rs } }
  { m with now := { m.now with waits := Tab.put 0 m.now.waits waitRamp (m.begun waitRamp + rampLength d) } }

/-- The ramp of domain d, the first of those that run, has lasted its time. -/
def rampDone (d : Nat) (m : Mach) : Mach :=
  match m.power.running with
  | [] => m
  | r :: rs =>
    if r.domain != d || !m.waited waitRamp (rampLength d) then m
    else
      let m := nextRamp d rs m
      refreshStager (if r.up then releaseAll 3 true d (m.beginWait (waitDomain d)) else putPd d 0 m)

/-- POWER with a cause (R489). -/
def powerEvent (cause : Nat) (m : Mach) : Mach := raiseEv 1524 { noCtx with cause := cause } m

/-- Stitches that restoring a domain may take (R473). -/
def restoreTime : Nat := 1000

/-- A domain has not come on within 1,000 stitches of its ramp (R473). -/
def domainFail (d : Nat) (m : Mach) : Mach :=
  let fail := fun (m : Mach) => powerEvent 0 (putPd d 6 m)
  if pdState m d = 2 || pdState m d = 5 then (if m.waited (waitDomain d) restoreTime then fail m else m)
  else match m.power.running with
    | [] => m
    | r :: rs =>
      if r.domain = d && r.up && m.waited waitRamp (rampLength d + restoreTime) then refreshStager (fail (nextRamp d rs m)) else m

/-- A thermal trip ramps PD2 to PD75 down at once, in descending depth (R484). -/
def tripDomains (m : Mach) : Mach :=
  let on := ((List.range 76).filter fun d => 2 ≤ d && pdState m d != 0)
  let downs := on.filter fun d => pdState m d != 1
  let m := forAll (on.filter fun d => pdState m d == 1) (putPd · 0) m
  let order := [3, 2].flatMap fun k => downs.filter fun d => domainDepth d == k
  let m := forAll order (fun d m => blockGone d (quiesce d m)) m
  let m := m.beginWait waitRamp
  refreshStager { m with power := { m.power with
    batch := [], running := order.map fun d => ⟨d, false⟩, prewarn := true, tripped := true, tripStitch := some m.now.stitch } }

end Sys2Proof.Machine
end

