-- ==== Sys2Proof/Machine/Power.lean ====
section
/-! DEFINITION. Clocks and stretch (R477 to R479), AVS and margin plans (R480 to R482), temperature and voltage (R483 to
R485). -/

namespace Sys2Proof.Machine

def Mach.updPower (m : Mach) (f : Power → Power) : Mach := { m with power := f m.power }

/-- A written chip reset follows 1 ms later (R487, R497). -/
def askReset (m : Mach) : Mach := (m.beginWait waitReset).updPower fun x => { x with resetDue := true }

/-- The written chip reset is due. -/
def resetIsDue (m : Mach) : Bool := m.power.resetDue && m.waited waitReset (msStitches 1)

/-! ### Clocks and stretch -/

/-- MCLK25 stops or strays: the core PLL enters holdover (R478). -/
def clockFault (ppm : Int) (m : Mach) : Mach :=
  let m := m.wr Clk.MCLK_PPM (ofSigned 32 ppm)
  if m.rd Clk.CLK_STATE = 1 then powerEvent 2 (m.wr Clk.CLK_STATE 2) else m

/-- Ten consecutive windows are within range again. -/
def clockRecover (m : Mach) : Mach := if m.rd Clk.CLK_STATE = 2 then m.wr Clk.CLK_STATE 1 else m

/-- A monitor demands a stretch level: the core clock takes the highest (R479). -/
def droop (level : Nat) (m : Mach) : Mach :=
  let now := m.rd Clk.STRETCH_NOW
  let l := min level 5
  if l ≤ now then m
  else
    let m := m.wr Clk.STRETCH_NOW l
    if now < 3 && 3 ≤ l then raiseEv 1526 noCtx m else m

/-- Every monitor has been clear of its threshold for 64 cycles: the level falls by one. -/
def stretchRelax (m : Mach) : Mach := m.wr Clk.STRETCH_NOW (m.rd Clk.STRETCH_NOW - 1)

/-- A stitch spent at a level above 0 counts (R479). -/
def stretchStitch (m : Mach) : Mach :=
  let l := m.rd Clk.STRETCH_NOW
  if l = 0 then m else (m.bumpField Clk.STRETCH_STITCHES 64 (l - 1) 1).count (0xA00 + l) 65535 1

/-! ### Margin plans -/

/-- Threshold i of DROOP_MV. -/
def droopMv (m : Mach) (i : Nat) : Nat := getBits (m.rd Clk.DROOP_MV) (16 * i) 16

/-- Write the thresholds that satisfy a test of old and new value. -/
def putDroops (ds : List Nat) (test : Nat → Nat → Bool) (m : Mach) : Mach :=
  m.wr Clk.DROOP_MV (packFields 16 ((List.range 5).map fun i =>
    let new := ds.getD i 0
    if test (droopMv m i) new then new else droopMv m i))

/-- The DATA of a log record of KIND 4 (ageing plan record). -/
def planData (m : Mach) (p : Plan) : Nat :=
  p.vddOld % 2 ^ 16 + p.vddNew % 2 ^ 16 * 2 ^ 16 + ofSigned 32 p.slack * 2 ^ 32 + p.monitor % 2 ^ 8 * 2 ^ 64 +
  p.flags % 2 ^ 8 * 2 ^ 72 + ofSigned 16 (p.temp / 100) * 2 ^ 80 + packFields 16 p.droop * 2 ^ 96 + m.flash.hours % 2 ^ 32 * 2 ^ 176

/-- The settings image keeps a plan: VDD and the five thresholds (R482). -/
def keepPlan (vdd droops : Nat) (m : Mach) : Mach :=
  let f := m.flash
  { m with flash := { f with copyA := { f.copyA with plan := some (vdd, droops) }, copyB := { f.copyB with plan := some (vdd, droops) } } }

/-- VDD has arrived: the thresholds that fall are written, and the plan is recorded, unless it was start-up that applied it (R482). -/
def planEnd (p : Plan) (m : Mach) : Mach :=
  let m := putDroops p.droop (fun old new => new < old) m
  let m := (m.wr Avs.PLAN_STATE 0).updPower fun x => { x with plan := none, avsRetries := 0 }
  if !p.record then m else
  let m := keepPlan p.vddNew (m.rd Clk.DROOP_MV) m
  raiseEv 1530 noCtx (logRecord 1530 4 4 (planData m p) m)

/-- Where a plan moves VDD: within VDD_MIN_MV to VDD_MAX_MV as they now stand (R480). -/
def avsGoal (p : Plan) (m : Mach) : Nat := min (max p.vddNew (m.rd Avs.VDD_MIN_MV)) (m.rd Avs.VDD_MAX_MV)

/-- Apply a plan: the thresholds that rise, then VDD, then those that fall (R482). -/
def planApply (p : Plan) (m : Mach) : Mach :=
  let m := putDroops p.droop (fun old new => old < new) m
  let m := ((m.wr Avs.PLAN_STATE 2).beginWait waitAvs).updPower fun x => { x with plan := some p, avsRetries := 0 }
  if m.rd Avs.VDD_SET_MV = avsGoal p m then planEnd p m else m

/-- Why PLAN_NOW fails (R482). -/
def planCheck (m : Mach) : Option Status := if m.rd Avs.PLAN_STATE != 0 then some .busy else none

/-- A plan begins to measure (R481). -/
def planStart (commanded : Bool) (m : Mach) : Mach :=
  if m.rd Avs.PLAN_STATE = 0 then
    let m := { m with flash := { m.flash with planned := m.flash.hours } }
    ((m.wr Avs.PLAN_STATE 1).beginWait waitPlan).updPower fun x => { x with commanded := commanded }
  else m

/-- PLAN_PERIOD_H powered hours have passed since the last plan (R481). -/
def planPeriod (m : Mach) : Mach := if m.flash.planned + m.rd Avs.PLAN_PERIOD_H ≤ m.flash.hours then planStart false m else m

/-- POWER_HOURS counts powered hours, in stitches since chip reset. -/
def hourStitches : Nat := 450000000000
def hourStitch (m : Mach) : Mach :=
  if (m.now.stitch + 1) % hourStitches = 0 then planPeriod { m with flash := { m.flash with hours := m.flash.hours + 1 } } else m

/-- Ceiling of a quotient of integers by a positive number. -/
def ceilInt (a k : Int) : Int := -((-a) / k)

/-- An integer as a free value, for a result that the manual does not state. -/
def freeInt (m : Mach) : Int × Mach :=
  let (f, m) := m.fresh
  (f, m)

/-- The least slack over the enabled monitors and the monitor it is at; a free value where none is enabled. -/
def leastSlack (slacks : List Int) (m : Mach) : Int × Nat × Mach :=
  match (List.range 96).filter fun n => m.on (Selv.M_ENABLE n) && n < slacks.length with
  | [] =>
    let (s, m) := freeInt m
    let (n, m) := m.fresh
    (s, n % 96, m)
  | n :: ns =>
    let best := ns.foldl (fun b k => if slacks.getD k 0 < slacks.getD b 0 then k else b) n
    (slacks.getD best 0, best, m)

/-- A quotient by K_SENS_FS: a free value while the part gives no K_SENS_FS. -/
def perMv (up : Bool) (a : Int) (m : Mach) : Int × Mach :=
  let k : Int := m.rd Avs.K_SENS_FS
  if k = 0 then freeInt m else (if up then ceilInt a k else a / k, m)

/-- The five thresholds of a plan (R481); one that does not fit U16 is a free value. -/
def planDroops (s : Int) : List Nat → Mach → List Nat × Mach
  | [], m => ([], m)
  | i :: is, m =>
    let (q, m) := perMv false (s + (i * 15625 : Nat) - (m.rd Avs.GUARD_FS : Nat)) m
    let v : Int := (m.rd Avs.VDD_SET_MV : Nat) - q
    let (d, m) := if 0 ≤ v && v < 65536 then (v.toNat, m) else (let (f, m) := m.fresh; (f % 65536, m))
    let (ds, m) := planDroops s is m
    (d :: ds, m)

/-- The 10 ms measurement ends: the slack of each monitor in fs, and the hottest sensor in the window in m°C (R481). -/
def planMeasured (slacks : List Int) (temp : Int) (m : Mach) : Mach :=
  if m.rd Avs.PLAN_STATE != 1 || !m.waited waitPlan (msStitches 10) then m
  else
    let m := forAll (List.range (min 96 slacks.length)) (fun n m =>
      let v := ofSigned 32 (slacks.getD n 0)
      (m.wr (Selv.M_SLACK_FS n) v).wr (Selv.M_MIN_FS n) v) m
    let (s, monitor, m) := leastSlack slacks m
    let s := s - ((m.rd Avs.K_TEMP_FS : Nat) : Int) * (105000 - temp) / 1000
    let m := m.wr Avs.WORST_SLACK_FS (ofSigned 32 s)
    let old := m.rd Avs.VDD_SET_MV
    let (q, m) := perMv true ((m.rd Avs.TARGET_FS : Nat) - s) m
    let v := ceilInt ((old : Int) + q) 5 * 5
    let v := max v ((old : Int) - 20)
    let capped := v > (m.rd Avs.VDD_MAX_MV : Nat)
    let v := min (max v (m.rd Avs.VDD_MIN_MV : Nat)) (m.rd Avs.VDD_MAX_MV : Nat)
    let (ds, m) := planDroops s (List.range 5) m
    let flags := (if capped then 1 else 0) + (if m.power.commanded then 2 else 0)
    let m := planApply ⟨old, v.toNat, s, monitor, flags, temp, ds, true⟩ m
    if capped then raiseEv 1531 noCtx m else m

/-- VDD after the next step, of at most 5 mV (R480). -/
def avsNext (p : Plan) (m : Mach) : Nat :=
  let now := m.rd Avs.VDD_SET_MV
  if now < avsGoal p m then min (now + 5) (avsGoal p m) else max (now - 5) (avsGoal p m)

/-- One AVS step towards the plan's VDD ends, at 1 mV/µs, acknowledged or not, with its read-back (R480). -/
def avsStep (ack : Bool) (readback : Nat) (m : Mach) : Mach :=
  match m.power.plan with
  | none => m
  | some p =>
    let now := m.rd Avs.VDD_SET_MV
    let next := avsNext p m
    if !m.waited waitAvs (usStitches (max next now - min next now)) then m else
    let m := if ack then m.wr Avs.VDD_NOW (readback % 65536) else m
    if ack && readback ≤ next + 5 && next ≤ readback + 5 then
      let m := ((m.wr Avs.VDD_SET_MV next).beginWait waitAvs).updPower fun x => { x with avsRetries := 0 }
      if next = avsGoal p m then planEnd { p with vddNew := next } m else m
    else if m.power.avsRetries < 3 then m.updPower fun x => { x with avsRetries := x.avsRetries + 1 }
    else
      let m := (m.bump Avs.AVS_ERRORS 1).updPower fun x => { x with plan := none, avsRetries := 0 }
      powerEvent 1 (m.wr Avs.PLAN_STATE 0)

/-! ### Temperature (R483, R484) -/

/-- Temperature of sensor i in m°C, as last sampled. -/
def tempOf (m : Mach) (i : Nat) : Int := toSigned 32 (m.rd (Temp.T_NOW i))

/-- A sensor's sample: T_NOW and the extremes since they were cleared. -/
def putTemp (i : Nat) (t : Int) (m : Mach) : Mach :=
  let v := ofSigned 32 t
  let m := m.wr (Temp.T_NOW i) v
  if !m.power.tempSeen then (m.wr (Temp.T_MAX i) v).wr (Temp.T_MIN i) v
  else
    let m := if toSigned 32 (m.rd (Temp.T_MAX i)) < t then m.wr (Temp.T_MAX i) v else m
    if t < toSigned 32 (m.rd (Temp.T_MIN i)) then m.wr (Temp.T_MIN i) v else m

/-- The hottest sensor: the lowest-numbered one at the highest temperature. -/
def hottest (m : Mach) : Nat := (List.range 48).foldl (fun b i => if tempOf m b < tempOf m i then i else b) 0

/-- T_CLEAR. -/
def tempClear (i : Nat) (m : Mach) : Mach :=
  (m.wr (Temp.T_MAX i) (m.rd (Temp.T_NOW i))).wr (Temp.T_MIN i) (m.rd (Temp.T_NOW i))

/-- The thermal trip (R484). -/
def thermTrip (m : Mach) : Mach := raiseEv 1528 noCtx (tripDomains (m.wr Strap.TRIP_PIN 1))

/-- The sensors sample: temperatures of T0, T1 and so on in m°C. -/
def tempSample (temps : List Int) (m : Mach) : Mach :=
  let n := min 48 temps.length
  let m := forAll (List.range n) (fun i m => putTemp i (temps.getD i 0) m) m
  let h := hottest m
  let top := tempOf m h
  let m := (m.wr Therm.T_HOTTEST (ofSigned 32 top)).wr Therm.T_HOTTEST_ID h
  let m := m.updPower fun x => { x with tempSeen := true }
  let warn : Int := (1000 * m.rd Therm.TEMP_WARN_C : Nat)
  let m :=
    if warn ≤ top then
      if m.power.warned then m else raiseEv 1527 noCtx (m.updPower fun x => { x with warned := true })
    else if top ≤ warn - 5000 then m.updPower fun x => { x with warned := false }
    else m
  let trip : Int := (1000 * m.rd Therm.TRIP_C : Nat)
  let hot := (List.range n).filter fun i => trip ≤ temps.getD i 0
  let again := hot.any m.power.tripHot.contains
  let m := m.updPower fun x => { x with tripHot := hot }
  if !m.power.tripped && (again || (temps.take n).any (125000 ≤ ·)) then thermTrip m else m

/-! ### Voltage (R485) -/

/-- The window of monitor v: a limit that still holds its default follows VDD_SET_MV where the monitor watches VDD. -/
def watchesVdd (v : Nat) : Bool := v < 32 || v == 39
def voltLow (m : Mach) (v : Nat) : Nat :=
  let k := Volt.V_LOW v
  if watchesVdd v && m.rd k = dflt k then m.rd Avs.VDD_SET_MV * 95 / 100 else m.rd k
def voltHigh (m : Mach) (v : Nat) : Nat :=
  let k := Volt.V_HIGH v
  if watchesVdd v && m.rd k = dflt k then m.rd Avs.VDD_SET_MV * 105 / 100 else m.rd k

/-- Slot ticks inside the window after which a monitor can raise again: 1 ms. -/
def voltBack : Nat := 1000

/-- A sample of monitor v in mV. -/
def voltSample (v mv : Nat) (m : Mach) : Mach :=
  let mv := mv % 65536
  let seen := Tab.get false m.power.voltSeen v
  let m := m.wr (Volt.V_NOW v) mv
  let m := (m.wr (Volt.V_MIN v) (if seen then min mv (m.rd (Volt.V_MIN v)) else mv)).wr
    (Volt.V_MAX v) (if seen then max mv (m.rd (Volt.V_MAX v)) else mv)
  let left := Tab.get 0 m.power.voltInside v
  let out := mv < voltLow m v || voltHigh m v < mv
  let m := m.updPower fun x => { x with
    voltSeen := Tab.put false x.voltSeen v true
    voltInside := Tab.put 0 x.voltInside v (if out then voltBack else left - 1) }
  if out && left = 0 then raiseEv 1529 noCtx m else m

/-- V_CLEAR. -/
def voltClear (v : Nat) (m : Mach) : Mach :=
  (m.wr (Volt.V_MIN v) (m.rd (Volt.V_NOW v))).wr (Volt.V_MAX v) (m.rd (Volt.V_NOW v))

/-- The voltage samples of a slot tick. -/
def voltsTick (volts : List (Nat × Nat)) (m : Mach) : Mach :=
  forAll (volts.filter fun x => x.1 < 40) (fun x m => voltSample x.1 x.2 m) m

end Sys2Proof.Machine
end

