-- ==== Sys2Proof/Machine/FaultStop.lean ====
section
/-! DEFINITION. Fault stop (R447), and what every command ends with. -/

namespace Sys2Proof.Machine

/-- The steps of a fault stop that a raise of source j has brought. -/
def enterStop (j : Nat) (m : Mach) : Mach :=
  let m := raiseEv 1509 noCtx ((m.wr Col.FATAL_STATE 1).wr Col.STOP_SOURCE j)
  let m := forAll (List.range 64) linkDisable m
  flushPage true (allSeamsDown m)

/-- A raise whose class actions include STOP brings fault stop once every raise has been handled (R447, R453). -/
def settle (m : Mach) : Mach :=
  match m.col.stopDue with
  | none => m
  | some j =>
    let m := if m.rd Col.FATAL_STATE = 0 then enterStop j m else m
    { m with col := { m.col with stopDue := none } }

end Sys2Proof.Machine
end

