-- ==== Sys2Proof/Machine/LifeCycle.lean ====
section
/-! DEFINITION. The OTP macro, the life cycle and return tokens (chapter 19), and chip reset (R486, R487, R504, R508). Fuses
change by burning alone: every change of them is a bitwise or. -/

namespace Sys2Proof.Machine

/-- Do something to the switch beside its fuses. -/
def Dev.on (d : Dev) (f : Mach → Mach) : Dev := { d with m := f d.m }

/-- Do something to the OTP macro. -/
def Dev.onOtp (d : Dev) (f : Otp → Otp) : Dev := { d with otp := f d.otp }

/-! ### The control region (R490, R491) -/

/-- At least `need` of the w bits from bit lo on are burnt. -/
def majority (v lo w need : Nat) : Bool := need ≤ popCount w (getBits v lo w)

/-- Number of burnt life-cycle groups: the life-cycle state that the fuses hold. -/
def lcCode (ctrl : Nat) : Nat := ((List.range 5).filter fun g => majority ctrl (8 * g) 8 5).length

def sealBurnt (ctrl n : Nat) : Bool := majority ctrl (72 + 4 * n) 4 3
def zeroMark (ctrl : Nat) : Bool := majority ctrl 88 8 5

/-- SVN_MIN: burnt bits of the security version thermometer. -/
def svnMin (ctrl : Nat) : Nat := popCount 32 (getBits ctrl 40 32)

/-- A mask of w bits from bit lo on. -/
def maskBits (lo w : Nat) : Nat := (2 ^ w - 1) * 2 ^ lo

/-- Burn bits of the control region. -/
def Otp.burnCtrl (o : Otp) (mask : Nat) : Otp := { o with ctrl := Nat.lor o.ctrl mask }

/-- Burn bits of generation n. -/
def Otp.burnGen (o : Otp) (n image : Nat) : Otp := { o with gens := o.gens.modify n (Nat.lor · image) }

/-! ### Generations (R492 to R495) -/

/-- Generation n as a 2,048-bit number. -/
def Otp.gen (o : Otp) (n : Nat) : Nat := o.gens.getD n 0

/-- A field of a settings block: `size` bytes at an offset. -/
def blockField (image off size : Nat) : Nat := getBits image (8 * off) (8 * size)

/-- The CRC of a settings block: over offsets 0 to 79 and 160 to 251. -/
def blockCrc (image : Nat) : Nat := crc32c (toBytes 80 image ++ toBytes 92 (image / 2 ^ 1280))

/-- The image as the switch burns it into generation n: GEN and CRC are its own. -/
def blockFor (n image : Nat) : Nat :=
  let i := setBits (image % 2 ^ 2048) 16 16 n
  setBits i 2016 32 (blockCrc i)

/-- Generation n can be in force. -/
def Otp.qualifies (o : Otp) (n : Nat) : Bool :=
  let g := o.gen n
  sealBurnt o.ctrl n && blockField g 0 2 == 1 && blockField g 2 2 == n && blockField g 252 4 == blockCrc g

/-- The highest-numbered generation that qualifies, or 255. -/
def Otp.choose (o : Otp) : Nat := ([3, 2, 1, 0].find? o.qualifies).getD 255

/-- A field of the generation in force; 0 where there is none. -/
def Otp.field (o : Otp) (off size : Nat) : Nat := if o.inForce < 4 then blockField (o.gen o.inForce) off size else 0

def Otp.serial (o : Otp) : Nat := o.field 4 16
def Otp.vendorDigest (o : Otp) : Nat := o.field 32 48
def Otp.ownerRoot (o : Otp) : Nat := o.field 112 48
def Otp.policy (o : Otp) : Nat := o.field 240 4

/-- A customer field of `size` bytes is present. -/
def fieldPresent (v size : Nat) : Bool := v != 0 && v != 2 ^ (8 * size) - 1

/-- Generation n is neither sealed nor spent. -/
def Otp.usable (o : Otp) (n : Nat) : Bool := !sealBurnt o.ctrl n && !bitAt o.spent n

/-- The generation that a burn writes. -/
def Otp.target (o : Otp) : Option Nat :=
  firstBelow 4 fun n => (o.inForce ≥ 4 || o.inForce < n) && o.usable n

/-- OTP_IMAGE: the generation in force, with OWNER_SEED as zeros (R493). -/
def Otp.image (o : Otp) : Nat := if o.inForce < 4 then setBits (o.gen o.inForce) 640 256 0 else 0

/-- A burn runs (R496). -/
def Otp.busy (o : Otp) : Bool := o.burning.isSome || o.lcBusy

/-- OTP_FAIL (R502): its detail is the bit cell, which is the macro's to name (a free value, log entry 156). -/
def otpFail (m : Mach) : Mach :=
  let (f, m) := m.fresh
  raiseEv 1533 { noCtx with level := 1, detail := f % 2 ^ 128 } m

/-- What no write in PROVISIONED may change, of a settings block. -/
def fixedFields (image : Nat) : Nat :=
  setBits (setBits (setBits (setBits (image % 2 ^ 2048) 16 16 0) 640 640 0) 1920 32 0) 2016 32 0

/-- Why OTP_BURN fails (R494 to R496). -/
def otpBurnCheck (d : Dev) : Option Status :=
  let o := d.otp
  if o.lcState = 0 || 3 ≤ o.lcState then some .lifecycle
  else if o.target.isNone then some .state
  else if o.lcState = 2 && (o.inForce ≥ 4 || fixedFields (d.m.rd Otp.OTP_STAGE) != fixedFields (o.gen o.inForce)) then some .state
  else if o.busy then some .busy
  else none

/-- A burn of an image into generation n begins. -/
def burnStart (n image : Nat) (d : Dev) : Dev :=
  let d := d.onOtp fun o => { o.burnGen n (blockFor n image) with burning := some n, spent := Nat.lor o.spent (2 ^ n) }
  d.on fun m => m.wr Otp.OTP_STATUS 1

/-- OTP_BURN 1 (R495). -/
def otpBurn (d : Dev) : Dev :=
  match d.otp.target with
  | some n => burnStart n (d.m.rd Otp.OTP_STAGE) d
  | none => d

/-- The burnt generation has been read back: it is sealed, or spent (R495). -/
def otpBurnDone (verified : Bool) (d : Dev) : Dev :=
  match d.otp.burning with
  | none => d
  | some n =>
    let g := d.otp.gen n
    let d := d.onOtp fun o => { o with burning := none }
    if verified && blockField g 252 4 = blockCrc g then
      (d.onOtp fun o => o.burnCtrl (maskBits (72 + 4 * n) 4)).on fun m => m.wr Otp.OTP_STATUS 2
    else d.on fun m => otpFail (m.wr Otp.OTP_STATUS 3)

/-- SVN_COMMIT burns bits from the lowest unburnt one upwards until SVN_MIN is the running image's (R60, R491). -/
def svnBurn : Nat → Nat → Otp → Otp
  | 0, _, o => o
  | n + 1, svn, o =>
    if svn ≤ svnMin o.ctrl then o
    else match firstBelow 32 fun i => !bitAt o.ctrl (40 + i) with
      | some i => svnBurn n svn (o.burnCtrl (2 ^ (40 + i)))
      | none => o

/-! ### What each state opens (R499) -/

/-- FACTORY privilege is open. -/
def Dev.factoryOpen (d : Dev) : Bool :=
  d.otp.lcState < 2 || (d.otp.lcState == 4 && d.m.bit Lc.TOKEN_SCOPE 0)

/-- All JTAG instructions are open. -/
def Dev.jtagOpen (d : Dev) : Bool := d.otp.lcState < 2 || (d.otp.lcState == 4 && d.m.bit Lc.TOKEN_SCOPE 1)

/-- Test modes are open. -/
def Dev.testOpen (d : Dev) : Bool := d.otp.lcState < 2 || (d.otp.lcState == 4 && d.m.bit Lc.TOKEN_SCOPE 2)

/-- Fault injection is open. -/
def Dev.injectOpen (d : Dev) : Bool := d.otp.lcState == 1

/-- DEBUG_NOW. -/
def Dev.debugNow (d : Dev) : Nat :=
  (if d.otp.jtag then 1 else 0) + (if d.factoryOpen then 2 else 0) + (if d.testOpen then 4 else 0) + (if d.injectOpen then 8 else 0)

/-- The fabric's domains PD2 to PD75 may be on (R492, R499). -/
def Dev.fabricOpen (d : Dev) : Bool := d.otp.lcState != 0 && d.otp.lcState != 5 && d.otp.inForce < 4

/-! ### Transitions (R497, R498) -/

/-- Who asks for a transition. -/
inductive Asker | slice | fm | factory | jtag
  deriving DecidableEq, Repr

/-- The transition stands in the table, and what it requires holds. -/
def lcListed (d : Dev) (by_ : Asker) (target : Nat) : Bool :=
  let o := d.otp
  let manager := by_ == .fm || by_ == .factory
  match o.lcState, target with
  | 0, 1 => by_ == .jtag && sealBurnt o.ctrl 0
  | 1, 2 => by_ == .factory && o.vendorDigest != 0
  | 2, 3 => manager && fieldPresent o.ownerRoot 48 && d.m.rd Spdm.FM_ROOT_HASH == o.ownerRoot
  | 2, 4 => manager
  | 3, 4 => manager
  | 5, _ => false
  | s, 5 => manager || (by_ == .jtag && s < 2)
  | _, _ => false

/-- CRC-32C of SERIAL. -/
def serialCrc (o : Otp) : Nat := crc32c (toBytes 16 o.serial)

/-- Why LC_REQ fails (R496, R497), in the order of R517. -/
def lcCheck (by_ : Asker) (target crc : Nat) (d : Dev) : Option Status :=
  if target > 5 || crc != serialCrc d.otp then some .range
  else if !lcListed d by_ target then some .state
  else if d.otp.busy then some .busy
  else none

/-- Steps 2 to 4 of R498: the customer fields of every generation, the settings copies, the log and management SRAM go, and
ZERO_MARK is burnt. -/
def zeroise (d : Dev) : Dev :=
  let owner := maskBits 640 640
  let d := d.onOtp fun o => { o with gens := o.gens.map (Nat.lor · owner) }
  let d := d.on fun m => { m with
    flash := { m.flash with copyA := FlashCopy.reset, copyB := FlashCopy.reset, ring := [], count := 0 }
    mgmt := { m.mgmt with page := ⟨[], 0⟩ }
    col := { m.col with records := [] } }
  (d.onOtp fun o => o.burnCtrl (maskBits 88 8)).on fun m => m.wr Otp.ZEROISED 1

/-- The groups from the current count up to the target. -/
def lcMask (from_ target : Nat) : Nat := maskBits (8 * from_) (8 * (target - from_))

/-- A transition that passes its checks: the groups burn, the record of KIND 5 is written, and a chip reset follows. -/
def lcBurn (target : Nat) (d : Dev) : Dev :=
  let d := d.onOtp fun o => { o.burnCtrl (lcMask o.lcState target) with lcBusy := true }
  let d := d.on fun m =>
    let m := m.wr Lc.LC_STATUS 1
    let (f, m) := m.fresh
    askReset (raiseEv 1532 noCtx (flushPage true (logRecord 1532 4 5 (f % 2 ^ 256) m)))
  if 4 ≤ target then zeroise (d.on fun m => m.wr Lc.LC_STATUS 2) else d

/-- A write of LC_REQ, or a tester's request (R497). -/
def lcRequest (by_ : Asker) (target crc : Nat) (d : Dev) : Dev :=
  match lcCheck by_ target crc d with
  | some st => d.on (·.emit (.answer st 0))
  | none => (lcBurn target d).on (·.emit (.answer .ok 0))

/-! ### Return tokens (R500, R501) -/

/-- LC_NONCE is drawn afresh. -/
def newNonce (d : Dev) : Dev :=
  let (f, m) := d.m.fresh
  { d with m := m, otp := { d.otp with nonce := f % 2 ^ 256 } }

/-- The token is one for this part, this nonce and this key. -/
def tokenGood (d : Dev) (token : Nat) : Bool :=
  d.otp.lcState == 4 && zeroMark d.otp.ctrl && getBits token 0 128 == d.otp.serial && getBits token 128 256 == d.otp.nonce &&
  getBits token 384 32 < 8 && getBits token 416 32 == 0 &&
  Config.signatureOk d.otp.vendorDigest (getBits token 0 448) (getBits token 448 768)

/-- Why a write of LC_TOKEN is not judged at all. -/
def tokenCheck (d : Dev) : Option Status := if 8 ≤ d.m.rd Lc.TOKEN_FAILS then some .state else none

/-- A token is judged: it opens its scope, or is refused. Its nonce is replaced. -/
def tokenWrite (token : Nat) (d : Dev) : Dev :=
  match tokenCheck d with
  | some st => d.on (·.emit (.answer st 0))
  | none =>
    let good := tokenGood d token
    let d := newNonce d
    d.on fun m =>
      if good then
        let scope := getBits token 384 32
        let m := m.wr Lc.TOKEN_SCOPE scope
        (if scope = 0 then m else raiseEv 1535 noCtx m).emit (.answer .ok 0)
      else (raiseEv 1534 noCtx (m.bump Lc.TOKEN_FAILS 1)).emit (.answer .state 0)

/-! ### JTAG (R499) -/

/-- A JTAG session has access beyond IDCODE and BYPASS. -/
def jtagEnter (d : Dev) : Dev :=
  if d.otp.jtag then d
  else (d.onOtp fun o => { o with jtag := true }).on (raiseEv 1535 noCtx)

/-- A JTAG instruction or tester access is taken; one that the state does not open does nothing. -/
def jtag (j : JtagInstr) (d : Dev) : Dev :=
  match j with
  | .idcode => d
  | .bypass => d
  | .boundaryScan => if d.jtagOpen || (d.otp.lcState == 2 && bitAt d.otp.policy 0) then jtagEnter d else d
  | .debug => if d.jtagOpen then jtagEnter d else d
  | .testMode => if d.testOpen then jtagEnter d else d
  | .writeG0 image =>
    if d.otp.lcState = 0 && d.otp.usable 0 && !d.otp.busy then burnStart 0 image (jtagEnter d) else d
  | .transition target crc => if d.otp.lcState < 2 then lcRequest .jtag target crc (jtagEnter d) else d

/-! ### Chip reset and start-up (R486, R487, R492, R504) -/

/-- A settings save that is cut short leaves its copy invalid: the copy of the older generation (R38). -/
def cutSave (m : Mach) : Flash :=
  let f := m.flash
  if !m.mgmt.saving then f
  else if !f.copyA.valid || (f.copyB.valid && f.copyA.gen < f.copyB.gen) then { f with copyA := { f.copyA with valid := false } }
  else { f with copyB := { f.copyB with valid := false } }

/-- Chip reset asserts: everything takes its state after reset but fuses, flash and what the model records. -/
def chipReset (d : Dev) : Dev where
  m := { Mach.reset with flash := cutSave d.m, out := d.m.out, free := d.m.free, held := true }
  otp := { d.otp with lcBusy := false, jtag := false }

/-- Chip reset is released: the straps are sampled and the OTP load begins (R486, R504). -/
def chipRelease (straps : Nat) (d : Dev) : Dev :=
  if !d.m.held then d
  else
    let d := newNonce d
    d.on fun m => ({ m with held := false, power := { m.power with straps := straps % 8 } }).wr Ident.ROLE (straps / 4 % 2)

/-- BOOT_MODE: the BOOT_SRC value in effect after the life-cycle test. -/
def bootMode (straps lc : Nat) : Nat :=
  if straps % 4 = 1 then 1 else if straps % 4 = 2 && lc < 2 then 2 else 0

/-- What the loaded generation sets: serial, addresses, constants and the factory plan's thresholds. -/
def publishOtp (d : Dev) : Dev :=
  let o := d.otp
  d.on fun m =>
    let m := (m.wr Ident.SERIAL o.serial).wr Ident.LC_STATE o.lcState
    let m := (m.wr (Eth.MAC 0) (o.field 20 6)).wr (Eth.MAC 1) (o.field 26 6)
    let m := (m.wr Avs.K_SENS_FS (o.field 172 2)).wr Avs.K_TEMP_FS (o.field 174 2)
    let m := m.wr Clk.DROOP_MV (o.field 162 10)
    (m.wr Otp.ZEROISED (if zeroMark o.ctrl then 1 else 0)).wr Strap.BOOT_MODE (bootMode m.power.straps o.lcState)

/-- The OTP is loaded (R486, R492): the state and the generation are latched, what a power loss cut short is completed or
reported, and PD1 is staged. -/
def otpLoaded (d : Dev) : Dev :=
  if d.m.held || pdState d.m 1 != 0 then d
  else
    let d := d.onOtp fun o => { o with inForce := o.choose, lcState := lcCode o.ctrl }
    let d := if 4 ≤ d.otp.lcState && !zeroMark d.otp.ctrl then zeroise d else d
    let d := match d.otp.burning with
      | none => d
      | some _ => (d.onOtp fun o => { o with burning := none }).on fun m => otpFail (m.wr Otp.OTP_STATUS 3)
    let d := if d.otp.lcState != 0 && d.otp.inForce = 255 then d.on otpFail else d
    (publishOtp d).on (pdOn 1)

end Sys2Proof.Machine
end

