-- ==== Sys2Proof/Machine/Firmware.lean ====
section
/-! DEFINITION. The management subsystem's boot, firmware slots, settings image and event log actions (R32, R38, R59 to R63). -/

namespace Sys2Proof.Machine

def Mach.updMgmt (m : Mach) (f : Mgmt → Mgmt) : Mach := { m with mgmt := f m.mgmt }
def Mach.updFlash (m : Mach) (f : Flash → Flash) : Mach := { m with flash := f m.flash }

/-- An action that the management subsystem takes. -/
def mgAct (check : Mach → Option Status) (effect : Mach → Mach) (m : Mach) : Mach := act check effect m

/-! ### MCTP transports (R54, R56) -/

/-- The transmission unit of an MCTP transport: 64 B on SMBus, up to 256 B on I3C and PCIe VDM. -/
def mctpUnit (m : Mach) : Medium → Nat
  | .bus => if m.rd Mctp.BUS = 1 then 64 else 256
  | .vdm _ => 256

/-- An answer returns on the transport of its request, in packets of its unit. -/
def mctpReply (on : Medium) (m : Mach) : Reply := .mctp on (mctpUnit m on)

/-- A VDM from a port: any but FMH_PORT's is discarded and counted. -/
def vdmDrop (port : Nat) (m : Mach) : Mach := if m.mgmt.up && m.rd Mctp.FMH_PORT != port then m.bump Mctp.VDM_DROP 1 else m

/-- An MCTP message arrives on a transport: none while the subsystem is down (R32), and VDMs of FMH_PORT alone (R56). -/
def mctpIn (on : Medium) (effect : Mach → Mach) (m : Mach) : Mach :=
  if !m.mgmt.up then m
  else match on with
    | .bus => effect m
    | .vdm port => if m.rd Mctp.FMH_PORT = port then effect m else vdmDrop port m

/-- An action of the management subsystem that reads or burns fuses. -/
def devAct (check : Dev → Option Status) (effect : Dev → Dev) (d : Dev) : Dev :=
  match check d with
  | some st => d.on (·.emit (.answer st 0))
  | none => (effect d).on (·.emit (.answer .ok 0))

/-! ### Boot (R59) -/

def Flash.slot (f : Flash) (n : Nat) : FwSlot := if n = 0 then f.slotA else f.slotB
def Flash.putSlot (f : Flash) (n : Nat) (x : FwSlot) : Flash := if n = 0 then { f with slotA := x } else { f with slotB := x }

/-- The image of a slot is valid (R59 step 1). Its signature is one under the key whose digest OTP holds. -/
def imageValid (d : Dev) (n : Nat) : Bool :=
  let x := d.m.flash.slot n
  x.valid && svnMin d.otp.ctrl ≤ x.svn && d.otp.vendorDigest != 0

/-- The slot that the boot ROM boots (R59 steps 2 and 3). -/
def bootSlot (d : Dev) : Option Nat :=
  let n := d.m.flash.next
  if d.m.rd Strap.BOOT_MODE = 1 then none
  else if imageValid d n && (d.m.flash.slot n).unconfirmed < 3 then some n
  else if imageValid d (1 - n) then some (1 - n)
  else none

/-- The boot ROM selects an image, enters recovery, or boots nothing (R59, R492, R504). -/
def bootRom (d : Dev) : Dev :=
  if d.m.rd Strap.BOOT_MODE = 2 || (d.otp.lcState != 0 && d.otp.inForce = 255) then d
  else match bootSlot d with
    | none => d.on fun m => m.updMgmt fun x => { x with recovery := true }
    | some n => d.on fun m =>
      (m.beginWait waitBoot |>.updMgmt fun x => { x with booting := true, active := n, runSvn := (m.flash.slot n).svn }).updFlash fun f =>
        { f with boots := f.boots + 1 }

/-- An entry of PD1 that a management reset returns to its default: what OTP and the straps give stays. -/
def pd1Entry (k : Nat) : Bool :=
  0x100000 ≤ k && k < 0x200000 && k != Ident.SERIAL && k != Ident.ROLE && k != Ident.LC_STATE && k != Eth.MAC 0 && k != Eth.MAC 1 &&
  k != Strap.BOOT_MODE

/-- A management reset (R32): PD1 restarts alone, sessions close, and the boot ROM runs. -/
def managementReset (d : Dev) : Dev :=
  if !d.m.domOn 1 then d
  else bootRom (d.on fun m => { m with
    flash := cutSave m
    pb := Tab.drop pd1Entry m.pb
    col := { m.col with malert := false }
    mgmt := { Mgmt.reset with applied := m.mgmt.applied, page := m.mgmt.page, bootWin := m.mgmt.bootWin } })

/-- A boot has not been confirmed within 60 s (R59). -/
def watchdog (d : Dev) : Dev :=
  if !(d.m.mgmt.up || d.m.mgmt.booting) || d.m.mgmt.confirmed || !d.m.waited waitBoot (msStitches 60000) then d
  else
    let n := d.m.mgmt.active
    managementReset (d.on fun m =>
      raiseEv 1510 { noCtx with cause := 3, kind := 9, level := 4 }
        (m.updFlash fun f => f.putSlot n { f.slot n with unconfirmed := (f.slot n).unconfirmed + 1 }))

/-- FW_CONFIRM 1. -/
def fwConfirm (m : Mach) : Mach :=
  let n := m.mgmt.active
  (m.updMgmt fun x => { x with confirmed := true }).updFlash fun f => f.putSlot n { f.slot n with unconfirmed := 0 }

/-! ### Firmware slots (R60, R61) -/

/-- The slot that is not running. -/
def spareSlot (m : Mach) : Nat := 1 - m.mgmt.active

/-- A block write of FW_IMAGE has an offset and a length that R518 allows. -/
def fwLength (offset len : Nat) : Bool :=
  offset % 4 = 0 && len % 4 = 0 && 4 ≤ len && len ≤ 1024 && offset + len ≤ 2 ^ 24

/-- Why a write of the spare slot fails (R60, R61). -/
def fwWriteCheck (pldm : Bool) (offset len : Nat) (m : Mach) : Option Status :=
  if !pldm && !fwLength offset len || 2 ^ 24 < offset + len then some .length
  else if offset != 0 && offset != (m.flash.slot (spareSlot m)).written then some .range
  else if (if pldm then m.mgmt.preocFw else m.mgmt.pldm) || m.rd Fw.FW_VERIFY = 1 then some .busy
  else none

/-- Word 0 of a slot in `Flash.image`. -/
def slotBase (n : Nat) : Nat := n * 2 ^ 22

/-- Write consecutive words of a table. -/
def putRun (at_ v : Nat) : Nat → Tab Nat → Tab Nat
  | 0, t => t
  | n + 1, t => putRun (at_ + 1) (v / 2 ^ 32) n (Tab.put 0 t at_ (v % 2 ^ 32))

/-- The write fills the spare slot; at offset 0 it erases the slot first. What was verified is verified no more. -/
def fwWrite (pldm : Bool) (offset len data : Nat) (m : Mach) : Mach :=
  let n := spareSlot m
  let m := m.updFlash fun f =>
    let old := if offset = 0 then f.image.filter fun e => !(slotBase n ≤ e.1 && e.1 < slotBase n + 2 ^ 22) else f.image
    { f.putSlot n { FwSlot.reset with written := offset + len } with
      image := putRun (slotBase n + offset / 4) data (ceilDiv len 4) old }
  (m.wr Fw.FW_VERIFY 0).updMgmt fun x => { x with preocFw := x.preocFw || !pldm }

/-- FW_VERIFY 1: the spare slot's image is verified. -/
def fwVerifyCheck (m : Mach) : Option Status := if m.rd Fw.FW_VERIFY = 1 then some .busy else none
def fwVerify (m : Mach) : Mach := (m.wr Fw.FW_VERIFY 1).updMgmt fun x => { x with preocFw := false }

/-- Verification ends: `good` tells that the signature verifies, under R59 step 1, over an image with these header fields. In
recovery the boot ROM verifies what was written without being told (log entry 61). -/
def fwVerifyDone (good : Bool) (version svn : Nat) (d : Dev) : Dev :=
  if d.m.rd Fw.FW_VERIFY != 1 && !(d.m.mgmt.recovery && (d.m.flash.slot (spareSlot d.m)).written != 0) then d
  else
    let ok := good && svn ≤ 32 && svnMin d.otp.ctrl ≤ svn && d.otp.vendorDigest != 0
    d.on fun m =>
      let n := spareSlot m
      (m.wr Fw.FW_VERIFY (if ok then 2 else 3)).updFlash fun f =>
        f.putSlot n { f.slot n with valid := ok, version := version % 2 ^ 32, svn := svn % 256, unconfirmed := 0 }

/-- Why FW_ACTIVATE fails (R60). -/
def fwActivateCheck (m : Mach) : Option Status := if m.rd Fw.FW_VERIFY = 2 then none else some .state

/-- FW_ACTIVATE 1: the new slot boots next. The activation is logged with a record of KIND 3. -/
def fwActivate (m : Mach) : Mach :=
  let (f, m) := m.fresh
  logRecord 65535 4 3 (f % 2 ^ 256) (m.updFlash fun x => { x with next := spareSlot m })

/-- FW_ACTIVATE 2 begins a management reset at once. -/
def fwActivateNow (d : Dev) : Dev :=
  match fwActivateCheck d.m with
  | some st => d.on (·.emit (.answer st 0))
  | none => managementReset (d.on fun m => (fwActivate m).emit (.answer .ok 0))

/-- Why SVN_COMMIT fails (R496). -/
def svnCheck (d : Dev) : Option Status := if d.otp.busy then some .busy else none

/-- SVN_COMMIT 1 raises SVN_MIN to the running image's security version (R60, R491). -/
def svnCommit (d : Dev) : Dev := d.onOtp (svnBurn 32 d.m.mgmt.runSvn)

/-! ### PLDM for Firmware Update (R61). Completion codes follow DSP0267 (log entry 60). -/

def pldmOk : Nat := 0
def pldmNotReady : Nat := 4
def pldmNotInUpdate : Nat := 0x80
def pldmAlready : Nat := 0x81
def pldmRange : Nat := 0x82
def pldmState : Nat := 0x84

/-- A message of a PLDM update. -/
def pldmStep (x : PldmMsg) (m : Mach) : Nat × Mach :=
  match x with
  | .start =>
    if m.mgmt.preocFw then (pldmNotReady, m)
    else if m.mgmt.pldm then (pldmAlready, m)
    else (pldmOk, m.updMgmt fun x => { x with pldm := true })
  | .component offset len data =>
    if !m.mgmt.pldm then (pldmNotInUpdate, m)
    else match fwWriteCheck true offset len m with
      | some .busy => (pldmNotReady, m)
      | some _ => (pldmRange, m)
      | none => (pldmOk, fwWrite true offset len (data % 2 ^ (8 * len)) m)
  | .finish =>
    if !m.mgmt.pldm then (pldmNotInUpdate, m)
    else match fwVerifyCheck m with
      | some _ => (pldmNotReady, m)
      | none => (pldmOk, fwVerify m)
  | .cancel =>
    if !m.mgmt.pldm then (pldmNotInUpdate, m)
    else (pldmOk, m.updMgmt fun x => { x with pldm := false })

/-- A message of a PLDM update arrives, and is answered with its completion code. -/
def pldmUpdate (on : Medium) (x : PldmMsg) (m : Mach) : Mach :=
  mctpIn on (fun m => let y := pldmStep x m; y.2.emit (.pldm (mctpReply on m) y.1)) m

/-- ActivateFirmware ends the update and performs FW_ACTIVATE (R61). -/
def pldmActivate (on : Medium) (now : Bool) (d : Dev) : Dev :=
  let answer := fun (code : Nat) (m : Mach) => m.emit (.pldm (mctpReply on m) code)
  let heard := d.m.mgmt.up && (on == .bus || on == .vdm (d.m.rd Mctp.FMH_PORT))
  if !heard then d.on (mctpIn on id)
  else if !d.m.mgmt.pldm then d.on (answer pldmNotInUpdate)
  else match fwActivateCheck d.m with
    | some _ => d.on (answer pldmState)
    | none =>
      let d := d.on fun m => answer pldmOk (fwActivate (m.updMgmt fun x => { x with pldm := false }))
      if now then managementReset d else d

/-! ### The settings image (R37, R38, R96) -/

/-- Why SETTINGS_SAVE fails. -/
def settingsCheck (m : Mach) : Option Status := if m.mgmt.saving then some .busy else none
def settingsSave (m : Mach) : Mach := m.updMgmt fun x => { x with saving := true }

/-- The large saved entries: an XLATE entry with SYS set is saved as zeros (R96). -/
def savedRam (m : Mach) : Tab Nat :=
  let base := wordKey Xlate.XLATE 0
  m.ram.filter fun e => isSaved (e.1 / 2 ^ 24) &&
    !(base ≤ e.1 && e.1 < base + 8192 && xSys (xlate m ((e.1 - base) / 2)))

/-- The valid copy with the higher generation. -/
def newestCopy (f : Flash) : Option FlashCopy :=
  if f.copyA.valid && (!f.copyB.valid || f.copyB.gen ≤ f.copyA.gen) then some f.copyA
  else if f.copyB.valid then some f.copyB
  else none

/-- SETTINGS_GEN. -/
def settingsGen (f : Flash) : Nat := ((newestCopy f).map FlashCopy.gen).getD 0

/-- A save ends: the older copy holds the saved entries under the next generation. -/
def settingsDone (m : Mach) : Mach :=
  if !m.mgmt.saving then m
  else
    let f := m.flash
    let c : FlashCopy := ⟨true, (settingsGen f + 1) % 2 ^ 32, m.pb.filter (fun e => isSaved e.1), savedRam m, f.copyA.plan⟩
    let m := m.updMgmt fun x => { x with saving := false }
    if !f.copyA.valid || (f.copyB.valid && f.copyA.gen < f.copyB.gen) then { m with flash := { f with copyA := c } }
    else { m with flash := { f with copyB := c } }

end Sys2Proof.Machine
end

