-- ==== Sys2Proof/Machine/Sessions.lean ====
section
/-! DEFINITION. Preoc sessions, SPDM, the MCTP endpoint and the management Ethernet ports (R45 to R51, R54, R56, R58). The codes
of SPDM and of MCTP control are those of DSP0274 and DSP0236 (log entry 60). -/

namespace Sys2Proof.Machine

/-! ### Datagrams on management Ethernet (R47, R48) -/

/-- The datagram is one that the switch takes: it names the Preoc port, carries the VLAN tag that the port is set to and no other, and its
frame keeps the MTU. -/
def udpFits (m : Mach) (u : Udp) : Bool :=
  let vlan := m.rd (Eth.VLAN u.sender.eth)
  u.port == m.rd Preoc.UDP_PORT && u.tags == (if vlan = 0 then [] else [vlan]) && u.size ≤ 1518 + 4 * u.tags.length

/-- Where a datagram is answered: its sender, from UDP_PORT. -/
def udpReply (u : Udp) (m : Mach) : Reply := .udp u.sender (m.rd Preoc.UDP_PORT)

/-- The port is on, and the datagram is one that the switch takes. -/
def udpHeard (u : Udp) (m : Mach) : Bool := m.on (Eth.ENABLE u.sender.eth) && udpFits m u && !u.fragmented

/-- A fragmented datagram is discarded and counted. -/
def udpDrop (u : Udp) (m : Mach) : Mach :=
  if m.on (Eth.ENABLE u.sender.eth) && u.fragmented then m.bump (Eth.RX_DROP u.sender.eth) 1 else m

/-- Session k is open: a Preoc session, or 8 for the MCTP secured session. -/
def sessionOpen (k : Nat) (m : Mach) : Bool := if k = 8 then m.mgmt.secured else m.rd (Sess.STATE k) == 2

/-- STATUS SESSION and no payload. -/
def answerSession (u : Udp) (seq : Nat) (m : Mach) : Mach := m.emit (.preoc (udpReply u m) 255 seq .session [])

/-- A datagram that needs a session arrives: SESSION_ID sid names session sid - 1 (R48). -/
def preocIn (u : Udp) (tag : SessionTag) (effect : Nat → Mach → Mach) (m : Mach) : Mach :=
  if !m.mgmt.up then m
  else if !udpHeard u m then udpDrop u m
  else if tag.sid = 0 || 9 ≤ tag.sid || !sessionOpen (tag.sid - 1) m then answerSession u 0 m
  else if !tag.authentic then m.updSess (tag.sid - 1) fun x => { x with authFails := x.authFails + 1 }
  else effect (tag.sid - 1) (m.updSess (tag.sid - 1) fun x => { x with heard := m.now.stitch })

/-! ### Sessions (R46, R48, R50) -/

/-- Where an SPDM request is answered. -/
def carrierReply (via : Carrier) (m : Mach) : Reply :=
  match via with
  | .preoc u => udpReply u m
  | .mctp x => mctpReply x m

/-- The switch answers an SPDM request. -/
def spdm (via : Carrier) (code payload : Nat) (m : Mach) : Mach := m.emit (.spdm (carrierReply via m) code payload)

/-- An SPDM error. -/
def spdmFails (via : Carrier) (error : Nat) (m : Mach) : Mach := m.emit (.spdmError (carrierReply via m) error)
def spdmInvalid : Nat := 1
def spdmBusy : Nat := 3
def spdmUnexpected : Nat := 4
def spdmDecrypt : Nat := 6

/-- An SPDM message outside a session reaches the responder. -/
def spdmAnswer (via : Carrier) (effect : Mach → Mach) (m : Mach) : Mach :=
  match via with
  | .preoc u => if !m.mgmt.up then m else if udpHeard u m then effect m else udpDrop u m
  | .mctp x => mctpIn x effect m

/-- Session k ends: its keys, its queue and its subscriptions are gone. -/
def closeSession (k : Nat) (m : Mach) : Mach :=
  let m := ((m.wr (Sess.STATE k) 0).wr (Sess.PRIV k) 0).wr (Sess.SUBSCRIBE k) 0
  let m := (m.wr (Sess.PEER_ADDR k) 0).wr (Sess.PEER_PORT k) 0
  m.updSess k fun _ => SessSt.reset

/-- CERT_SLOTS: slot 0 always, slot 1 when an owner root is provisioned. -/
def certSlots (o : Otp) : Nat := if fieldPresent o.ownerRoot 48 then 3 else 1

/-- A certificate slot is provisioned. -/
def hasCert (d : Dev) (slot : Nat) : Bool := bitAt (certSlots d.otp) slot

/-- KEY_EXCHANGE (R50) for a provisioned certificate slot: the lowest closed session enters its handshake, or the requester hears
Busy. -/
def keyExchange (via : Carrier) (slot : Nat) (d : Dev) : Dev :=
  d.on (spdmAnswer via fun m =>
    if !hasCert d slot then spdmFails via spdmInvalid m else
    let (f, m) := m.fresh
    match via with
    | .mctp _ => spdm via 0x64 f (m.updMgmt fun x => { x with mctpHs := true })
    | .preoc u =>
      match firstBelow 8 fun k => m.rd (Sess.STATE k) == 0 with
      | none => spdmFails via spdmBusy m
      | some k =>
        let m := ((m.wr (Sess.STATE k) 1).wr (Sess.PEER_ADDR k) u.sender.addr).wr (Sess.PEER_PORT k) u.sender.port
        let m := (m.wr (Sess.NOTIFY_LOST k) 0).updSess k fun _ => { SessSt.reset with eth := u.sender.eth, heard := m.now.stitch }
        spdm via 0x64 (k + 1 + 2 ^ 32 * f) m)

/-- Session k opens with a privilege. -/
def openSession (via : Carrier) (k priv : Nat) (m : Mach) : Mach := spdm via 0x65 0 ((m.wr (Sess.STATE k) 2).wr (Sess.PRIV k) priv)

/-- The privilege that a chain's root gives a Preoc session (R45, R46, R499): 1 FM, 2 FACTORY. -/
def rootPrivilege (root : Nat) (d : Dev) : Option Nat :=
  let fm := d.m.rd Spdm.FM_ROOT_HASH
  if root = Config.factoryRoot then (if d.factoryOpen || d.otp.lcState = 4 then some 2 else none)
  else if fm = 0 then (if d.otp.lcState = 2 && root != 0 then some 1 else none)
  else if root = fm then some 1
  else none

/-- FINISH of Preoc session k: mutual authentication succeeded or not, and the requester's chain has the root with this digest. A root
that gives no privilege is refused with SESSION. -/
def finishPreoc (u : Udp) (k : Nat) (chain : RootChain) (d : Dev) : Dev :=
  let via := Carrier.preoc u
  if d.m.rd (Sess.STATE k) != 1 then d.on (spdmFails via spdmUnexpected)
  else if !chain.ok then d.on fun m => spdmFails via spdmDecrypt (closeSession k m)
  else match rootPrivilege chain.root d with
    | none => d.on fun m => answerSession u 0 (closeSession k m)
    | some priv => d.on fun m =>
      openSession via k priv (if priv = 1 && m.rd Spdm.FM_ROOT_HASH = 0 then m.wr Spdm.FM_ROOT_HASH chain.root else m)

/-- FINISH on MCTP opens the secured session. -/
def finishMctp (via : Carrier) (chainOk : Bool) (m : Mach) : Mach :=
  if !m.mgmt.mctpHs then spdmFails via spdmUnexpected m
  else
    let m := m.updMgmt fun x => { x with mctpHs := false }
    if chainOk then spdm via 0x65 0 (m.updMgmt fun x => { x with secured := true }) else spdmFails via spdmDecrypt m

def finish (via : Carrier) (k : Nat) (chain : RootChain) (d : Dev) : Dev :=
  match via with
  | .preoc u => if d.m.mgmt.up && udpHeard u d.m then finishPreoc u k chain d else d.on (spdmAnswer via id)
  | .mctp _ => d.on (spdmAnswer via (finishMctp via chain.ok))

/-- An SPDM message within a session: of SESSION_ID sid on Preoc, or of the secured session on MCTP (R48). A secured MCTP message
without its session, or one that fails authentication, is discarded (log entry 60). -/
def inSession (x : SpdmIn) (effect : Nat → Mach → Mach) (m : Mach) : Mach :=
  match x.via with
  | .preoc u => preocIn u x.tag effect m
  | .mctp on => mctpIn on (fun m => if m.mgmt.secured && x.tag.authentic then effect 8 m else m) m

def keyUpdate (x : SpdmIn) (m : Mach) : Mach := inSession x (fun _ => spdm x.via 0x69 0) m
def spdmHeartbeat (x : SpdmIn) (m : Mach) : Mach := inSession x (fun _ => spdm x.via 0x68 0) m
def endSession (x : SpdmIn) (m : Mach) : Mach :=
  inSession x (fun k m =>
    let m := spdm x.via 0x6C 0 m
    if k = 8 then m.updMgmt fun x => { x with secured := false } else closeSession k m) m

/-- A KEEPALIVE datagram (R48, R50). -/
def keepalive (u : Udp) (tag : SessionTag) (m : Mach) : Mach :=
  preocIn u tag (fun k m => m.emit (.preoc (udpReply u m) k 0 .ok [])) m

/-- No datagram of session k has arrived for three times KEEPALIVE_MS (R50). -/
def sessionTimeout (k : Nat) (m : Mach) : Mach :=
  if m.mgmt.up && m.rd (Sess.STATE k) != 0 && (m.sess k).heard + msStitches (3 * m.rd Preoc.KEEPALIVE_MS) ≤ m.now.stitch then
    closeSession k m
  else m

/-! ### The SPDM responder (R58) -/

/-- The answer to an SPDM request whose content the manual does not state: certificates, signatures and digests of them. -/
def spdmFree (via : Carrier) (code : Nat) (m : Mach) : Mach :=
  let (f, m) := m.fresh
  spdm via code f m

/-- SPDM 1.2. -/
def spdmVersion : Nat := 0x12

/-- Certificates, challenge, signed measurements, encryption, authentication, mutual authentication, key exchange, heartbeat and key
update. -/
def spdmCapabilities : Nat := 0x63D6

/-- The answer to NEGOTIATE_ALGORITHMS, in the selections of DSP0274 (log entry 60): ECDSA with NIST P-384, SHA-384, ECDHE on secp384r1
and AES-256-GCM. -/
def spdmAlgorithms : Nat := packFields 32 [0x80, 2, 0x10, 2]

def getCertificate (via : Carrier) (slot len : Nat) (d : Dev) : Dev :=
  d.on (spdmAnswer via fun m =>
    if !hasCert d slot then spdmFails via spdmInvalid m
    else
      let (f, m) := m.fresh
      spdm via 2 (f % 2 ^ (8 * len)) m)

def challenge (via : Carrier) (slot : Nat) (d : Dev) : Dev :=
  d.on (spdmAnswer via fun m => if hasCert d slot then spdmFree via 3 m else spdmFails via spdmInvalid m)

/-- The bytes of a firmware slot as far as they are written. -/
def slotBytes (f : Flash) (n : Nat) : List Nat :=
  (List.range (f.slot n).written).map fun i => byteAt (Tab.get 0 f.image (slotBase n + i / 4)) (i % 4)

/-- SPDM measurement i, 1 to 6. -/
def measurement (d : Dev) (i : Nat) : Nat :=
  let f := d.m.flash
  match i with
  | 1 => Config.romDigest
  | 2 => Config.sha384 (slotBytes f d.m.mgmt.active) % 2 ^ 384 + d.m.mgmt.active * 2 ^ 384
  | 3 => d.m.mgmt.runSvn + svnMin d.otp.ctrl * 2 ^ 8
  | 4 => Config.sha384 (if d.otp.inForce < 4 then toBytes 256 (d.otp.gen d.otp.inForce) else [])
  | 5 => d.otp.lcState
  | 6 => (match newestCopy f with
    | some c => Config.settingsDigest c.regs c.ram % 2 ^ 384 + c.gen * 2 ^ 384
    | none => 0)
  | _ => 0

/-- GET_MEASUREMENTS: 0 asks for their number, 255 for all. -/
def getMeasurements (via : Carrier) (which : Nat) (d : Dev) : Dev :=
  d.on (spdmAnswer via fun m =>
    if which = 0 then spdm via 0x60 6 m
    else if which = 255 then spdm via 0x60 (packFields 512 ((List.range 6).map fun i => measurement d (i + 1))) m
    else if which ≤ 6 then spdm via 0x60 (measurement d which) m
    else spdmFails via spdmInvalid m)

/-! ### The MCTP endpoint (R54, R56) -/

/-- EID: the one assigned, or STATIC_EID until one is. -/
def currentEid (m : Mach) : Nat := if m.rd Mctp.EID = 0 then m.rd Mctp.STATIC_EID else m.rd Mctp.EID

/-- The switch answers an MCTP control message. -/
def mctpControl (on : Medium) (command payload : Nat) (m : Mach) : Mach :=
  mctpIn on (fun m => m.emit (.mctp (mctpReply on m) command payload)) m

/-- Set Endpoint ID: 8 to 254 can be assigned. -/
def setEid (on : Medium) (eid : Nat) (m : Mach) : Mach :=
  mctpIn on (fun m =>
    if 8 ≤ eid && eid < 255 then mctpControl on 1 (eid * 2 ^ 8) (m.wr Mctp.EID eid) else mctpControl on 1 2 m) m

/-- The message types: control, PLDM, SPDM, secured messages and CXL FM API. -/
def messageTypes : Nat := packFields 8 [5, 0x00, 0x01, 0x05, 0x06, 0x07]

/-- Get MCTP Version Support: the manual names no version number. -/
def mctpVersions (on : Medium) (m : Mach) : Mach :=
  mctpIn on (fun m =>
    let (f, m) := m.fresh
    mctpControl on 4 f m) m

/-! ### Management Ethernet (R47) -/

/-- The 1000BASE-X link of port i goes up or down. -/
def ethLink (i : Nat) (up : Bool) (m : Mach) : Mach :=
  if m.domOn 1 && m.on (Eth.ENABLE i) then m.wr (Eth.LINK_UP i) (if up then 1 else 0) else m

/-- Port i obtains its address by DHCPv4, which IPV4_ADDR 0 selects. -/
def dhcp (i addr mask gw : Nat) (m : Mach) : Mach :=
  if m.domOn 1 && m.on (Eth.ENABLE i) && m.rd (Eth.IPV4_ADDR i) = 0 && m.on (Eth.LINK_UP i) then
    m.updMgmt fun x => { x with dhcp := Tab.put (0, 0, 0) x.dhcp i (addr, mask, gw) }
  else m

end Sys2Proof.Machine
end

