-- ==== Sys2Proof/Machine/MgmtWindows.lean ====
section
/-! DEFINITION. Management fabric windows (R64 to R66, R285): an access is mapped to bytes, checked whole, and issued line by
line as the switch's own requests. -/

namespace Sys2Proof.Machine

/-- Accesses of the switch's own carry tags from here on. -/
def ownTagBase : Nat := 2 ^ 32

/-- Where byte o of window k lies in the fabric under the window's swap mode (R65). -/
def swapped (m : Mach) (k o : Nat) : Nat :=
  let e := m.rd (Mw.MW_ELEM k)
  m.rd (Mw.MW_BASE k) + (if m.rd (Mw.MW_SWAP k) = 0 then o else o / e * e + (e - 1 - o % e))

/-- DATA_INV covers whole aligned elements only (R65). -/
def wholeElements (m : Mach) (k o len : Nat) : Bool :=
  m.rd (Mw.MW_SWAP k) != 2 || (o % m.rd (Mw.MW_ELEM k) = 0 && len % m.rd (Mw.MW_ELEM k) = 0)

/-- A line that an access touches: its address, and the pairs of a byte's place in the access and in the line. -/
structure MwLine where
  addr : Nat
  at_  : List (Nat × Nat)
  deriving DecidableEq, Repr

/-- The lines of an access, ascending. -/
def mwLines (m : Mach) (k o len : Nat) : List MwLine :=
  let bytes := (List.range len).map fun i => (i, swapped m k (o + i))
  let first := bytes.foldl (fun b x => min b (x.2 / 64)) (2 ^ 52)
  let last := bytes.foldl (fun b x => max b (x.2 / 64)) 0
  ((List.range (last + 1 - first)).map fun i =>
    (⟨64 * (first + i), (bytes.filter fun x => x.2 / 64 == first + i).map fun x => (x.1, x.2 % 64)⟩ : MwLine)).filter
      fun l => !l.at_.isEmpty

/-- The byte enables of a line, and its 64 B for data given as the core has it. -/
def MwLine.be (l : MwLine) : Nat := l.at_.foldl (fun v x => setBit v x.2 true) 0
def MwLine.bytes (l : MwLine) (data : Nat) : Nat := l.at_.foldl (fun v x => setBits v (8 * x.2) 8 (byteAt data x.1)) 0

/-- The lowest byte of a line that the access touches, and how far the touched bytes reach. -/
def MwLine.low (l : MwLine) : Nat := l.at_.foldl (fun b x => min b x.2) 63
def MwLine.span (l : MwLine) : Nat := l.at_.foldl (fun b x => max b x.2) 0 + 1 - l.low

/-- The window's byte order accepts management window k (R285). -/
def swapFits (m : Mach) (w k : Nat) : Bool :=
  let z := m.rd (Win.W_SWAP w)
  z = 0 || (m.rd (Mw.MW_SWAP k) + 1 = z && (z = 1 || m.rd (Mw.MW_ELEM k) = m.rd (Win.W_ELEM w)))

/-- The verdict on a line: its check site and the cause that refuses it (R281, R285, R287, R290). -/
def mwVerdict (m : Mach) (k need : Nat) (l : MwLine) : Nat × Option Nat :=
  match findWindow m l.addr with
  | none => (0, some 0)
  | some w =>
    let t := pieceSite m w l.addr
    if !swapFits m w k then (t, some 5)
    else (t, checkAccess m t (m.rd (Mw.MW_SLICE k)) need (l.addr + l.low) l.span)

/-- The cause that refuses an access, with the line at fault: a line refused by rule behind an allowed one is STRADDLE (R294). -/
def mwCause (m : Mach) (k need : Nat) : Bool → List MwLine → Option (MwLine × Nat)
  | _, [] => none
  | behind, l :: ls =>
    match (mwVerdict m k need l).2 with
    | none => mwCause m k need true ls
    | some c => some (l, if behind && (c = 1 || c = 2) then 3 else c)

/-- A refused access is counted in MW_ERRORS, and raises MW_REFUSED with the cause in its detail (R64). -/
def mwTell (k cause addr : Nat) (m : Mach) : Mach :=
  let s := m.rd (Mw.MW_SLICE k)
  raiseEv 1510 { noCtx with
      cause := 1, slice := s, gen := genOf m s, addr := addr, initKind := 4, initId := k, kind := 9, level := 4, detail := cause, flags := 1 }
    (m.bump (Mw.MW_ERRORS k) 1)

/-- An access that is refused before any of it is issued: it is counted, and the core receives a bus error (R64). -/
def mwRefuse (k cause addr : Nat) (m : Mach) : Mach := mwTell k cause addr (m.emit (.busError k))

/-- The access of a line that is refused where it would be issued is counted once. -/
def mwTold (k tag addr : Nat) (m : Mach) : Mach :=
  let here := fun (a : MwAccess) => a.pieces.any (·.tag == tag)
  let m := if m.mgmt.accesses.any fun a => here a && !a.told then mwTell k 0 addr m else m
  { m with mgmt := { m.mgmt with accesses := m.mgmt.accesses.map fun a => if here a then { a with told := true } else a } }

/-- A line is refused where it would be issued (R14, R402): its access is counted once, and ends with a bus error. -/
def mwFail (k tag addr : Nat) (m : Mach) : Mach := windowAnswer tag true 0 (retire ownPort tag (mwTold k tag addr m))

/-- Why an access is refused before it is mapped: the window is off, its bytes lie beyond PAGES, its slice is not active, or its
elements are not whole. -/
def mwShut (m : Mach) (k o len : Nat) : Bool :=
  !m.on (Mw.MW_ENABLE k) || m.mgmt.closing.contains k || len = 0 || m.rd (Mw.MW_PAGES k) * 4096 < o + len ||
  sliceState m (m.rd (Mw.MW_SLICE k)) != 1 || !wholeElements m k o len

/-- The needle engine issues a read or write of one line into the fabric core, for a management window or a channel (R26, R27, R284,
R367, R525): the slice takes it on a tracked window, the member otherwise. It answers false where the access cannot be issued. -/
def engineIssue (who : Requester) (port s need tag a d be : Nat) (write poison : Bool) (m : Mach) : Bool × Mach :=
  let whole := be = 2 ^ 64 - 1
  let txn := fun (e : Nat) (ld : Option Nat) => (⟨port, tag, false, !write, e, ld, 0, s, genOf m s, a, 64, need, 0, 1, none, 0⟩ : Txn)
  let forward := fun (e : Nat) (ld : Option Nat) (a : Nat) =>
    (true, openTxn (txn e ld) (sendOn e 1 (.forward port tag e ld (if !write then 0 else if whole then 6 else 7) a 64 d be poison) m))
  let toPeer := fun (c : Nat) =>
    if peerRefused m then (false, if fenced m then m.bump Hb.FENCED 1 else m)
    else match peerSeam m c with
      | some z => forward (65 + z) none a
      | none => (false, m)
  match findWindow m a with
  | none => (false, m)
  | some w =>
    if winTracked m w then
      let c := (placeOfAddr m a).c
      if !actsHome m w then toPeer c
      else if !sliceRuns m c then (false, m)
      else
        (true, sendLine (if write then 5 else 2) ⟨a, who, port, tag, s, 0, .noOp, !whole, d, be, poison, none, 0, 0, 0, 0, 0⟩
          (openTxn (txn 255 none) m))
    else
      let t := winTarget m w (memberOf m w a)
      if memberOff m w a then (false, m)
      else match resolve m t with
        | .port p ld => if takesMem m p then forward p ld (deviceAddr m w a) else (false, m)
        | .seam z => forward (65 + z) none a
        | .peer => toPeer 0
        | .none => (false, m)

/-- A line of an access through management window k (R64, R196). -/
def mwIssue (k : Nat) (write : Bool) (need tag a d be : Nat) (m : Mach) : Mach :=
  match engineIssue (.mgmt k) ownPort (m.rd (Mw.MW_SLICE k)) need tag a d be write false m with
  | (true, m) => m
  | (false, m) => mwFail k tag a m

/-- The management bridge sends a line of an access to the needle engine (R196); where that has no power it answers for it (R205). -/
def mwSend (k : Nat) (write : Bool) (need data : Nat) (x : MwLine × Nat) (m : Mach) : Mach :=
  let l := x.1
  let s := m.rd (Mw.MW_SLICE k)
  let d := l.bytes data
  if !nocReach m needleEnd then mwDone x.2 true 0 (retire ownPort x.2 (mwTold k x.2 l.addr m))
  else
    nocPut 4 bridgeEnd needleEnd s x.2 (if write then some d else none) (.window k write need x.2 l.addr d l.be) m

/-- A management core accesses window k at an offset from the window's start (R64). -/
def mwAccess (k : Nat) (write : Bool) (o len data : Nat) (m : Mach) : Mach :=
  if !m.mgmt.up then m
  else if mwShut m k o len then mwRefuse k 0 (m.rd (Mw.MW_BASE k) + o) m
  else
    let need := if write then needWrite else needRead
    let ls := mwLines m k o len
    match mwCause m k need false ls with
    | some (l, cause) =>
      let m := match findWindow m l.addr with
        | some w => countRefused (pieceSite m w l.addr) (some w) m
        | none => m
      mwRefuse k cause l.addr m
    | none =>
      let tagged := (List.range ls.length).map fun i => (ls.getD i ⟨0, []⟩, ownTagBase + m.free + i)
      let m := { m with free := m.free + ls.length }
      let m := forAll tagged (fun x m => stamp (mwVerdict m k need x.1).1 ownPort x.2 x.1.addr m) m
      let m := { m with mgmt := { m.mgmt with
        accesses := m.mgmt.accesses ++ [⟨k, write, tagged.map fun x => ⟨x.2, x.1.at_⟩, 0, false, false⟩] } }
      forAll tagged (mwSend k write need data) m

/-- MW_ENABLE 0: it clears once every access made through the window has completed (R66). -/
def mwDisable (k : Nat) (m : Mach) : Mach :=
  if m.on (Mw.MW_ENABLE k) then
    mwSettle k { m with mgmt := { m.mgmt with closing := k :: m.mgmt.closing.erase k } }
  else m

/-- Why MW_ENABLE 1 fails: the window is still closing. -/
def mwEnableCheck (k : Nat) (m : Mach) : Option Status := if m.mgmt.closing.contains k then some .busy else none

/-- Why a write of a window's shape fails (R66). -/
def mwWriteCheck (k : Nat) (m : Mach) : Option Status := if m.on (Mw.MW_ENABLE k) then some .state else none

end Sys2Proof.Machine
end

