-- ==== Sys2Proof/Machine/Access.lean ====
section
/-! DEFINITION. Who reaches the Pattern Book, and what a read of an entry returns (R32 to R39, R45, R48, R56, R59, R74, R403,
R499, R516). -/

namespace Sys2Proof.Machine

/-! ### Requesters -/

/-- A requester as the dictionary engine sees it. -/
structure Who where
  rank    : Nat          -- 0 SLICE, 1 FM, 2 FACTORY (R36)
  usp     : Option Nat   -- upstream port of the mailbox of a SLICE requester (R45)
  writeOk : Bool         -- the secured-session rule allows writes (R45)
  keysOk  : Bool         -- a path of R74
  witness : Bool         -- a path of R403
  limited : Bool         -- a factory session in RETURN before a token is accepted (R499)
  deriving DecidableEq, Repr

/-- The fabric manager on a path that carries no further right. -/
def fmWho : Who := ⟨1, none, true, false, false, false⟩

/-- How a request of a path is taken. -/
inductive Entrance
  | drop                  -- discarded without a response
  | discard (port : Nat)  -- a VDM from a port that is not FMH_PORT (R56)
  | fail (st : Status)    -- the request fails as a whole
  | go (w : Who)
  deriving DecidableEq, Repr

/-- An operation that an unauthenticated datagram may carry: a READ of index 0x1000 (R45). -/
def openRead (o : DictOp) : Bool := o.kind == .read && o.index == 0x1000

/-- An operation that recovery accepts (R59 step 4). -/
def recoveryOp (o : DictOp) : Bool :=
  (o.kind == .blockWrite && o.index == 0x10A0 && o.sub == 7) || (o.kind == .write && o.index == 0x10A0 && o.sub == 9)

/-- The requester of an MCTP path (R45): `secure` tells that the message came in the secured session. One that says so while no secured
session is open fails with SESSION: the specification names no answer (DESIGN CHOICE, log entry 147). -/
def mctpWho (secure : Bool) (m : Mach) : Entrance :=
  if secure && !m.mgmt.secured then .fail .session
  else .go { fmWho with writeOk := secure || !m.on Mctp.REQUIRE_SECURE, keysOk := secure }

/-- How a request with these operations is taken on a path (R32, R45, R48, R56, R59, R499, R516). -/
def entrance (path : Path) (ops : List DictOp) (d : Dev) : Entrance :=
  let m := d.m
  if m.mgmt.recovery then
    match path with
    | .preocNone => if ops.all recoveryOp then .go fmWho else .fail .session
    | _ => .drop
  else if !m.mgmt.up then .drop
  else match path with
    | .preocNone => if m.on Preoc.UNAUTH_READ && ops.all openRead then .go fmWho else .fail .session
    | .preoc k =>
      if k < 8 && sessionOpen k m then
        let rank := m.rd (Sess.PRIV k)
        .go ⟨rank, none, true, true, true, rank == 2 && !d.factoryOpen⟩
      else .fail .session
    | .mctpBus secure => mctpWho secure m
    | .mctpVdm port secure => if m.rd Mctp.FMH_PORT = port then mctpWho secure m else .discard port
    | .cci v =>
      if !m.on (Vcs.VCS_ENABLE v) then .drop
      else if m.rd (Vcs.USP v) = m.rd Mctp.FMH_PORT then .go fmWho
      else .go ⟨0, some (m.rd (Vcs.USP v)), true, false, false, false⟩

/-! ### Privilege (R36) -/

/-- Slice s belongs to a SLICE requester: its owner port is the mailbox's upstream port (R45, R310). -/
def ownSlice (w : Who) (m : Mach) (s : Nat) : Bool := w.usp.any (· == m.rd (Slc.SLC_PORT s))

/-- The instance of an index group that starts at `base`. -/
def within (base count i : Nat) : Bool := base ≤ i && i < base + count

/-- CTR_READ of a counter. -/
def ctrReadKey (k : Nat) : Option Nat :=
  if within 0x9000 1024 (k / 256) && k % 256 = 4 then some (k / 256 - 0x9000) else none

/-- Why a SLICE requester's read of CTR_READ of counter i fails (R466). -/
def sliceCtr (w : Who) (i : Nat) (d : Dev) : Option Status :=
  let o := d.m.rd (Ctr.CTR_OWNER i)
  ctrReadCheck d.otp.lcState (if o < 4096 && ownSlice w d.m o then [o] else []) i d.m

/-- The entry at key k belongs to a slice of the requester (R36, R466; the channel entries chapter of R381). -/
def ownEntry (w : Who) (k : Nat) (d : Dev) : Bool :=
  let i := k / 256
  if within 0x4000 4096 i then ownSlice w d.m (i - 0x4000)
  else if within 0x5000 4096 i then ownSlice w d.m (i - 0x5000)
  else if within 0x6800 128 i then (chanOwner d.m (i - 0x6800)).any (ownSlice w d.m)
  else match ctrReadKey k with
    | some n => sliceCtr w n d != some .privilege
    | none => false

/-- KEY_SEL, KEY, IV and KEY_GO of a port (R74). -/
def ideKeyEntry (k : Nat) : Bool :=
  let i := k / 256
  within 0x2000 0x400 i && i % 16 == 2 && 3 ≤ k % 256 && k % 256 ≤ 6

/-- The operation writes. -/
def opWrites : OpKind → Bool
  | .read => false
  | .write => true
  | .compareWrite => true
  | .blockRead => false
  | .blockWrite => true

/-- The operation is one of the two block operations. -/
def opBlock : OpKind → Bool
  | .read => false
  | .write => false
  | .compareWrite => false
  | .blockRead => true
  | .blockWrite => true

/-- PRIVILEGE of R517 step 2 (R36, R45, R74, R494). The specification names no status for a write that REQUIRE_SECURE forbids: it is
PRIVILEGE; and COMPARE_WRITE and BLOCK_WRITE count as WRITE there, BLOCK_READ as READ (DESIGN CHOICE, log entry 147). -/
def privFails (w : Who) (e : Entry) (k : Nat) (writes : Bool) (d : Dev) : Bool :=
  w.rank < e.priv.rank || (w.rank == 0 && !ownEntry w k d) || (writes && !w.writeOk) ||
  (writes && ideKeyEntry k && !w.keysOk) || (writes && k == Otp.OTP_STAGE && d.otp.lcState == 1 && w.rank < 2)

/-- A write of PD_REQ of domain n that the life-cycle state forbids (R499). -/
def pdLifecycle (n : Nat) (d : Dev) : Bool := d.otp.lcState == 5 || (d.otp.lcState == 0 && 2 ≤ n && n ≤ 75)

/-- LIFECYCLE of R517 step 3 (R452, R494, R499). -/
def lifeFails (w : Who) (k : Nat) (kind : OpKind) (d : Dev) : Bool :=
  let i := k / 256
  (w.limited && !((kind == .read && k == Lc.LC_NONCE) || (kind == .write && k == Lc.LC_TOKEN))) ||
  (opWrites kind && (
    (i == 0x8800 && 0x12 ≤ k % 256 && d.otp.lcState != 1) ||
    (within 0xA000 77 i && k % 256 == 1 && pdLifecycle (i - 0xA000) d) ||
    (k == Otp.OTP_BURN && (d.otp.lcState == 0 || 3 ≤ d.otp.lcState))))

/-! ### Reading (R35, R39) -/

/-- RX_DETECT: a signal at the receiver. The receiver of a lane that is off or dozes hears nothing; an active lane has its partner's signal
until it is lost; otherwise the signal is the board's, and open (log entry 82). -/
def rxDetect (m : Mach) (n : Nat) : Nat :=
  match m.rd (Lane.LANE_STATE n) with
  | 0 => 0
  | 1 => 0
  | 4 => m.rd (Lane.RX_DETECT n)
  | _ => if m.on (Lane.RX_DETECT n) then 1 else (m.fresh).1 % 2

/-- BOARD_PINS: the straps as sampled, the pins that the manual gives no state for, and the filtered BRD_PRSNT_N (R504, R510). -/
def boardPins (m : Mach) : Nat :=
  let f := (m.fresh).1
  setBits (setBits (m.rd Strap.BOARD_PINS) 0 3 m.power.straps) 3 3 (f % 8)

/-- Entries of the index range 0x1000 to 0x1FFF that read something else than a stored value. -/
def readMgmt (k : Nat) (d : Dev) : Option Nat :=
  let m := d.m
  let slot := fun n => let x := m.flash.slot n; if x.valid then x.version else 0
  if k = Ident.STITCH_NOW then some (m.now.stitch % 2 ^ 64)
  else if k = Ident.FTIME_NOW then some (m.now.ftime % 2 ^ 64)
  else if k = Ident.FW_VERSION then some (slot m.mgmt.active)
  else if k = Ident.DIE_REV then some (Config.dieRev % 2 ^ 16)
  else if k = Preoc.SESSIONS_OPEN then some ((List.range 8).filter fun s => m.rd (Sess.STATE s) == 2).length
  else if k = Mctp.EID then some (currentEid m)
  else if k = Spdm.CERT_SLOTS then some (certSlots d.otp)
  else if k = Log.COUNT then some m.flash.count
  else if k = Log.NEXT_SEQ then some (m.flash.nextSeq % 2 ^ 32)
  else if k = Fw.FW_ACTIVE then some m.mgmt.active
  else if k = Fw.FW_NEXT then some m.flash.next
  else if k = Fw.FW_VER_A then some (slot 0)
  else if k = Fw.FW_VER_B then some (slot 1)
  else if k = Fw.SVN_MIN then some (svnMin d.otp.ctrl)
  else if k = Fw.SETTINGS_GEN then some (settingsGen m.flash)
  else if k = Strap.BOARD_PINS then some (boardPins m)
  else none

/-- Entries of the edge, the fabric, the directory and the slices that read something else than a stored value. -/
def readFabric (k : Nat) (d : Dev) : Option Nat :=
  let m := d.m
  let i := k / 256
  let s := k % 256
  if within 0x2000 0x400 i && i % 16 = 4 && s = 2 then some (m.rd (perstKey ((i - 0x2000) / 16)))
  else if within 0x2000 0x400 i && i % 16 = 5 && k = PortMap.KEYS ((i - 0x2000) / 16) then
    some (keysNaming m ((i - 0x2000) / 16))
  else if within 0x2640 2 i && k = SeamMap.KEYS (i - 0x2640) then some (keysNaming m (65 + (i - 0x2640)))
  else if within 0x2400 256 i && s = 3 && m.on (Port.ENABLE (lanePort m (i - 0x2400))) then some (m.lane (i - 0x2400)).fir
  else if within 0x2400 288 i && s = 0x1A then some (rxDetect m (i - 0x2400))
  else if k = Bridge.VCS_COUNT then some ((List.range 64).filter fun v => m.on (Vcs.VCS_ENABLE v)).length
  else if k = Bridge.VPPB_USED then
    some (((List.range 64).filter fun v => m.on (Vcs.VCS_ENABLE v)).map fun v => m.rd (Vcs.VPPB_COUNT v)).sum
  else if k = Bridge.XLATE_FREE then some (4096 - (xlateValid m).length)
  else if k = Noc.NOC_STATE then some (nocState m)
  else if k = Coh.DIAG_ENTRY then some (diagEntry m)
  else if within 0x4000 4096 i && k = Slc.SLC_AGENT (i - 0x4000) then some ((sliceAgent m (i - 0x4000)).getD 255)
  else if within 0x6000 64 i && k = Tg.TG_ENTRY_NOW (i - 0x6000) then some (gateEntry m (i - 0x6000) (m.now.stitch - 1))
  else if within 0x6800 128 i && k = Chan.CH_STATE (i - 0x6800) then some (chanState m (i - 0x6800))
  else if k = Twin.OWN_AGENTS then some (ownAgents m)
  else if k = Twin.PAIR_DIGEST then some (pairDigest m)
  else if k = Mirror.UNCONFIRMED then some ((List.range 4).map (mirrorUsed m)).sum
  else none

/-- Entries of the counters, the sensors and the life cycle that read something else than a stored value. -/
def readChip (k : Nat) (d : Dev) : Option Nat :=
  let m := d.m
  let i := k / 256
  match ctrReadKey k with
  | some n => some (ctrReadValue m n)
  | none =>
    if k = CtrAll.CTR_SERVICE then some (serviceState d.otp.lcState m)
    else if k = PdAll.PWR_HOURS_NOW || k = Avs.POWER_HOURS then some m.flash.hours
    else if within 0xA130 40 i && k = Volt.V_LOW (i - 0xA130) then some (voltLow m (i - 0xA130))
    else if within 0xA130 40 i && k = Volt.V_HIGH (i - 0xA130) then some (voltHigh m (i - 0xA130))
    else if k = Lc.LC_STATE then some d.otp.lcState
    else if k = Lc.LC_NONCE then some d.otp.nonce
    else if k = Lc.DEBUG_NOW then some d.debugNow
    else if k = Otp.OTP_GEN then some d.otp.inForce
    else if k = Otp.OTP_GENS_LEFT then some ((List.range 4).filter d.otp.usable).length
    else if k = Otp.OTP_IMAGE then some (setBits d.otp.image 640 256 0)
    else if k = Otp.OTP_CTRL then some (d.otp.ctrl % 2 ^ 256)
    else none

/-- The value of an entry that fits a request, whatever its block's power (R35). -/
def liveValue (k : Nat) (d : Dev) : Nat :=
  let i := k / 256
  let special :=
    if i < 0x2000 then readMgmt k d
    else if i < 0x8000 then readFabric k d
    else readChip k d
  special.getD (d.m.rd k)

/-- What a READ returns: the default where the block's power is off (R39). -/
def readValue (k : Nat) (d : Dev) : Nat := if d.m.domOn (keyDomain k) then liveValue k d else dflt k

/-- A word of the entries that hold one record after another and are reached by block operations. -/
def recordWord (k n : Nat) (d : Dev) : Nat :=
  let m := d.m
  let i := k / 256
  if k = Log.LOG_DATA then Tab.get 0 m.flash.ring n
  else if within 0x6140 64 i then getBits (queueStatus m (i - 0x6140) (n / 8)) (32 * (n % 8)) 32
  else if k = CtrAll.CATALOGUE then getBits (catalogueRecord (n / 8)) (32 * (n % 8)) 32
  else m.word k n

/-- n words from word w on. -/
def recordWords (k : Nat) (d : Dev) : Nat → Nat → Nat
  | _, 0 => 0
  | w, n + 1 => recordWord k w d + 2 ^ 32 * recordWords k d (w + 1) n

/-- What a BLOCK_READ returns (R518, R63): entries up to 1,024 B are read from their value. -/
def blockValue (k size off len : Nat) (d : Dev) : Nat :=
  if size ≤ 1024 then getBits (readValue k d) (8 * off) (8 * len)
  else if !d.m.domOn (keyDomain k) then 0
  else recordWords k d (off / 4) (len / 4)

end Sys2Proof.Machine
end

