-- ==== Sys2Proof/Machine/Writes.lean ====
section
/-! DEFINITION. Why a write of an entry fails (R517 steps 6 and 7): the range of its value, and the state and busy rules of the
chapters. -/

namespace Sys2Proof.Machine

/-! ### Values (R7, R34) -/

/-- n fields of w bits, each with only the bits of a mask. -/
def maskEach (w n mask v : Nat) : Nat :=
  packFields w ((List.range n).map fun i => Nat.land (getBits v (w * i) w) mask)

/-- The value that a write leaves: writes to reserved bits are ignored (R7; queue record, gate list entry, target descriptor and
protection rule tables). -/
def keptBits (e : Entry) (k v : Nat) : Nat :=
  let i := k / 256
  let s := k % 256
  match e.rng with
  | .bits mask => Nat.land v mask
  | _ =>
    if within 0x6100 64 i && s = 1 then maskEach 128 64 (0x3FF + (2 ^ 80 - 2 ^ 16)) v
    else if within 0x6000 64 i && s = 2 then maskEach 32 256 0xFFFFFF v
    else if within 0x3400 1024 i && s = 12 then maskEach 64 16 0xFFFFFFFF0FFF1FFF v
    else if within 0x3810 64 i && (s = 8 || s = 9) then maskEach 128 64 (2 ^ 112 - 1 - 0xF0) v
    else v

/-- The value lies in the entry's type and range (R34, the tables). -/
def fits (e : Entry) (v : Nat) : Bool :=
  (e.ty != .bool || v ≤ 1) &&
  match e.rng with
  | .any => true
  | .span lo hi => lo ≤ v && v ≤ hi
  | .spanOr lo hi also => (lo ≤ v && v ≤ hi) || v == also
  | .multiple n below => v % n == 0 && v < below
  | .oneOf l => l.contains v
  | .bits _ => true

/-- What the operations of one atomic request write: keys and values, in order (R43). -/
abbrev Look := List (Nat × Nat)

/-- The value that the request leaves at a key. -/
def Look.at_ (l : Look) (k : Nat) : Option Nat := ((l.filter fun x => x.1 == k).getLast?).map (·.2)

/-- The domains that the request asks on (R472). -/
def Look.domainsOn (l : Look) : List Nat :=
  (l.filter fun x => within 0xA000 77 (x.1 / 256) && x.1 % 256 == 1 && x.2 == 1).map fun x => x.1 / 256 - 0xA000

def rangeIf (b : Bool) : Option Status := if b then some .range else none
def stateIf (b : Bool) : Option Status := if b then some .state else none

/-- RANGE of the first check, then what the second finds. -/
def thenCheck (a b : Option Status) : Option Status := match a with
  | some st => some st
  | none => b

/-! ### The management range, ports and lanes -/

def mgmtCheck (k v : Nat) (d : Dev) : Option Status :=
  let m := d.m
  let i := k / 256
  let s := k % 256
  if within 0x1060 16 i then
    (if s = 1 then (if v = 1 then mwEnableCheck (i - 0x1060) m else none) else mwWriteCheck (i - 0x1060) m)
  else if k = Fw.SVN_COMMIT then (if v = 1 then svnCheck d else none)
  else if k = Fw.FW_VERIFY then fwVerifyCheck m
  else if k = Fw.FW_ACTIVATE then fwActivateCheck m
  else if k = Fw.SETTINGS_SAVE then (if v = 1 then settingsCheck m else none)
  else none

/-- Writes of a port's configuration (R67, R68, R72, the port configuration table). -/
def portCfgCheck (p s v : Nat) (m : Mach) : Option Status :=
  let up := m.on (Port.ENABLE p)
  match s with
  | 1 => if v = 1 then portEnableCheck p m else none
  | 2 =>
    let n := 2 ^ v
    thenCheck (rangeIf (p % n != 0)) (stateIf ((List.range n).any fun i => m.on (Port.ENABLE (p + i))))
  | 4 => thenCheck (rangeIf (v == 1 && m.rd (Port.FLIT_MODE p) == 3)) (stateIf up)
  | 5 => rangeIf (v == 3 && m.rd (Port.ROLE p) == 1)
  | 6 => stateIf up
  | 10 => stateIf up
  | _ => none

/-- Writes of a port's entries, by the last digit of their index. -/
def portCheck (i s v : Nat) (m : Mach) : Option Status :=
  let p := (i - 0x2000) / 16
  match i % 16 with
  | 0 => portCfgCheck p s v m
  | 4 => if s = 1 then linkCtrlCheck p v m else none
  | _ => none

/-- Writes of a lane's entries (R105, R106, R111, R113, R118). -/
def laneCheck (n s v : Nat) (m : Mach) : Option Status :=
  let rate := m.rd (Lane.TEST_RATE n)
  match s with
  | 1 => laneModeCheck n (v == 1) m
  | 2 => rawCheck n m
  | 3 => firCheck n v m
  | 7 => rawCheck n m
  | 8 => thenCheck (rangeIf !(patternOk rate v true)) (rawCheck n m)
  | 9 => thenCheck (rangeIf !(patternOk rate v false)) (rawCheck n m)
  | 0x15 => thenCheck (if rawLane m n || manualLane m n then none else some .state) (if v = 1 then slipCheck n m else none)
  | 0x18 => rawCheck n m
  | _ => none

/-- Writes of a seam's configuration (R147, R152). -/
def seamCheck (s sub v : Nat) (m : Mach) : Option Status :=
  if sub = 1 then (if v = 1 then seamEnableCheck s m else none)
  else if 2 ≤ sub && sub ≤ 7 then seamFixedCheck s m
  else if sub = 0x0F then linkCmdCheck s v m
  else none

/-! ### The fabric core, the NoC, coherence and windows -/

/-- Thresholds of a virtual network as a write of sub leaves them (R209). -/
def agesCheck (n s v : Nat) (m : Mach) : Option Status :=
  let at_ := fun i k => if s = i then v else m.rd k
  rangeIf !(agesFit (at_ 1 (NocAge.AGE1 n)) (at_ 2 (NocAge.AGE2 n)) (at_ 3 (NocAge.AGE3 n)))

def fabricCheck (k v : Nat) (m : Mach) : Option Status :=
  let i := k / 256
  let s := k % 256
  if k = Fab.HLC_STEPS then hlcStepsCheck v m
  else if k = Fab.RESP_CLASSES then rangeIf !(bitAt v 63)
  else if k = Adm.ALPHA then rangeIf ((List.range 64).any fun c => byteAt v c > 9)
  else if within 0x2820 8 i then (if 2 ≤ s && s ≤ 6 then stateIf (m.on (Mir.MIR_ENABLE (i - 0x2820))) else none)
  else if k = MirRing.MIR_CONS then mirConsCheck v m
  else if within 0x2901 6 i then agesCheck (i - 0x2901) s v m
  else if k = Hlc.HLC_ENABLE then hlcEnableCheck v m
  else if k = Hlc.HLC_FLUSH then (if v = 1 then hlcFlushCheck m else none)
  else if k = LostLog.LL_CONS then llConsCheck v m
  else if k = Agents.REVIVE then reviveCheck v m
  else none

/-- A port has a member of a window that is not disabled (R291). -/
def portInWindow (p : Nat) (m : Mach) : Bool :=
  (windowsInState m 1 ++ windowsInState m 2).any fun w =>
    (List.range (winWays m w)).any fun j => tgtKind (winTarget m w j) == 1 && tgtPort (winTarget m w j) == p

/-- Some rule among n from the lowest has LAST below FIRST (R288). -/
def rulesBackwards (v n : Nat) : Bool := (List.range n).any fun j => let x := getBits v (128 * j) 128; ruleLast x < ruleFirst x

/-- Writes of a gate's entries (R288, R291, R295, R297). -/
def gateCheck (p s v : Nat) (m : Mach) : Option Status :=
  match s with
  | 1 => stateIf (portInWindow p m)
  | 4 => if v = 1 then swapCheck (p + 1) m else none
  | 7 => if v = 1 then ruleCopyCheck (p + 1) m else none
  | 8 => thenCheck (rangeIf (rulesBackwards v 64)) (ruleWriteCheck (p + 1) 0 m)
  | 9 => thenCheck (rangeIf (rulesBackwards v 64)) (ruleWriteCheck (p + 1) 1 m)
  | _ => none

def protectCheck (k v : Nat) (m : Mach) : Option Status :=
  let i := k / 256
  let s := k % 256
  if within 0x3400 1024 i then
    (if s = 1 then (if v = 1 then windowEnableCheck (i - 0x3400) m else none) else windowWriteCheck (i - 0x3400) m)
  else if k = Ct.SWAP then (if v = 1 then swapCheck 0 m else none)
  else if k = Ct.RULE_COPY then (if v = 1 then ruleCopyCheck 0 m else none)
  else if within 0x3810 64 i then gateCheck (i - 0x3810) s v m
  else if k = Bridge.BIND_REQ then bindReqCheck (getBits v 0 8) (getBits v 16 10) (getBits v 43 2) m
  else if within 0x3C40 64 i then
    (if s = 1 then (if v = 1 then vcsEnableCheck (i - 0x3C40) m else none)
     else stateIf (m.on (Vcs.VCS_ENABLE (i - 0x3C40))))
  else none

/-! ### Slices, policing, queues and needle channels -/

def sliceCheck (n s v : Nat) (m : Mach) : Option Status :=
  match s with
  | 2 => sliceCtrlCheck n v m
  | 3 => slcPortCheck n m
  | 4 => keysWriteCheck n v m
  | 0x0B => classesCheck n v m
  | 0x0C => slcNeedleCheck n v m
  | 0x0E => vecMapCheck v
  | 0x0F => vectorsCheck v
  | _ => none

/-- Writes of a rate or a size of a slice's policer or shaper (R332). -/
def bucketCheck (n s v : Nat) (m : Mach) : Option Status :=
  match s with
  | 4 => rateCheck v (m.rd (Pol.POL_CBS n))
  | 5 => rateCheck (m.rd (Pol.POL_CIR n)) v
  | 6 => rateCheck v (m.rd (Pol.POL_PBS n))
  | 7 => rateCheck (m.rd (Pol.POL_PIR n)) v
  | 0x0E => rateCheck v (m.rd (Pol.SHP_CBS n))
  | 0x0F => rateCheck (m.rd (Pol.SHP_CIR n)) v
  | 0x10 => rateCheck v (m.rd (Pol.SHP_PBS n))
  | 0x11 => rateCheck (m.rd (Pol.SHP_PIR n)) v
  | _ => none

/-- A queue record keeps its ranges (the queue record table, R332). -/
def queueFits (x : Nat) : Bool :=
  getBits x 0 8 != 0 && 64 ≤ getBits x 48 16 && 64 ≤ getBits x 64 16 &&
  getBits x 16 16 ≤ getBits x 48 16 && getBits x 32 16 ≤ getBits x 64 16

/-- Writes of a gate list (R349, the gate list entry table). -/
def listCheck (p s v : Nat) (m : Mach) : Option Status :=
  let busy := if m.rd (Tg.TG_STATE p) = 2 then some Status.busy else none
  match s with
  | 2 => thenCheck (rangeIf ((List.range 256).any fun e => listInterval v e == 0)) busy
  | 3 => busy
  | 4 => busy
  | 5 => if v = 1 then tgCommitCheck p m else none
  | _ => none

/-- Writes of a needle channel's entries (R358, R361, R363, R381). -/
def channelCheck (c s v : Nat) (m : Mach) : Option Status :=
  match s with
  | 1 => if v = 1 then chStartCheck c m else chStopCheck c m
  | 3 => ringPlaceCheck c m
  | 4 => ringPlaceCheck c m
  | 5 => ringPlaceCheck c m
  | 7 => tailCheck c v m
  | 0x0B => rangeIf (v + m.rd (Chan.HOST_SIZE c) > 2 ^ 64)
  | 0x0C => rangeIf (m.rd (Chan.HOST_BASE c) + v > 2 ^ 64)
  | _ => none

def trafficCheck (k v : Nat) (m : Mach) : Option Status :=
  let i := k / 256
  let s := k % 256
  if within 0x4000 4096 i then sliceCheck (i - 0x4000) s v m
  else if within 0x5000 4096 i then bucketCheck (i - 0x5000) s v m
  else if within 0x6000 64 i then listCheck (i - 0x6000) s v m
  else if within 0x6100 64 i then rangeIf ((List.range 64).any fun c => !queueFits (getBits v (128 * c) 128))
  else if within 0x6200 10 i && s = 2 then rangeIf (v / 2 ^ (8 * arbiterRequesters (i - 0x6200)) != 0)
  else if within 0x6800 128 i then channelCheck (i - 0x6800) s v m
  else none

/-! ### The pair, slots, faults, counters and the chip -/

/-- Writes of the counters' selections and owners (R458, R467). A SLICE filter that the same atomic request names counts for an
owner. -/
def counterCheck (look : Look) (i s v : Nat) (m : Mach) : Option Status :=
  let owner := m.rd (Ctr.CTR_OWNER i)
  match s with
  | 1 => if owner < 4096 && v ≤ 2815 && !sliceCapable v then some .state else ctrSelectCheck i v (m.rd (Ctr.CTR_FILTER i)) owner
  | 2 => ctrSelectCheck i (m.rd (Ctr.CTR_EVENT i)) v owner
  | 3 => stateIf (v < 4096 && m.rd (Ctr.CTR_FILTER i) != v && look.at_ (Ctr.CTR_FILTER i) != some v)
  | _ => none

/-- A write of PD_REQ (R472, R488). -/
def pdCheck (look : Look) (n v : Nat) (m : Mach) : Option Status :=
  thenCheck (stateIf (tripNow m || (if v = 1 then pdOnRefused n look.domainsOn m else pdOffRefused n m)))
    (if pdBusy m n then some .busy else none)

def pairCheck (k v : Nat) (m : Mach) : Option Status :=
  let i := k / 256
  let s := k % 256
  if k = Twin.TWIN_ENABLE then
    (if v = 1 then twinEnableCheck m else twinDisableCheck m)
  else if k = Twin.WITNESS then
    thenCheck (rangeIf (getBits v 32 8 != 1 && getBits v 32 8 != 2)) (stateIf !(witnessOk m (getBits v 0 32)))
  else if k = Twin.HANDBACK then (if v = 1 then handbackCheck m else none)
  else if within 0x7200 32 i && s = 3 then rangeIf (slotValue m (Slot.SC_UV (i - 0x7200)) ≤ v)
  else if within 0x7200 32 i && s = 4 then rangeIf (v ≤ slotValue m (Slot.ILIM_UV (i - 0x7200)))
  else none

/-- LC_REQ as a requester of the Pattern Book. -/
def whoAsks (w : Who) : Asker := if w.rank = 0 then .slice else if w.rank = 1 then .fm else .factory

def chipCheck (w : Who) (look : Look) (k v : Nat) (d : Dev) : Option Status :=
  let m := d.m
  let i := k / 256
  let s := k % 256
  if i = 0x8800 && 6 ≤ s && s ≤ 10 && s != 9 then rangeIf (bitAt v 4)
  else if within 0x9000 1024 i && s ≤ 3 then counterCheck look (i - 0x9000) s v m
  else if within 0xA000 77 i && s = 1 then pdCheck look (i - 0xA000) v m
  else if within 0xA000 77 i && s = 3 then (if v = 1 then pdResetCheck (i - 0xA000) m else none)
  else if k = Avs.VDD_MAX_MV then rangeIf (v < m.rd Avs.VDD_MIN_MV)
  else if k = Avs.PLAN_NOW then (if v = 1 then planCheck m else none)
  else if k = Lc.LC_REQ then
    thenCheck (rangeIf (getBits v 8 24 != 0)) (lcCheck (whoAsks w) (getBits v 0 8) (getBits v 32 32) d)
  else if k = Lc.LC_TOKEN then thenCheck (tokenCheck d) (stateIf !(tokenGood d v))
  else if k = Otp.OTP_BURN then (if v = 1 then otpBurnCheck d else none)
  else none

/-- Why a write that leaves value v at key k fails (R517 steps 6 and 7), but for the block's power. -/
def writeCheck (w : Who) (look : Look) (k v : Nat) (d : Dev) : Option Status :=
  let m := d.m
  let i := k / 256
  let s := k % 256
  if i < 0x2000 then mgmtCheck k v d
  else if i < 0x2400 then portCheck i s v m
  else if i < 0x2520 then laneCheck (i - 0x2400) s v m
  else if within 0x2580 36 i then clkModeCheck (i - 0x2580) m
  else if k = Seam.SEAM_MODE then seamModeCheck m
  else if within 0x2610 2 i then seamCheck (i - 0x2610) s v m
  else if i < 0x3400 then fabricCheck k v m
  else if i < 0x4000 then protectCheck k v m
  else if i < 0x7000 then trafficCheck k v m
  else if i < 0x8000 then pairCheck k v m
  else chipCheck w look k v d

end Sys2Proof.Machine
end

