-- ==== Sys2Proof/Machine/Effects.lean ====
section
/-! DEFINITION. What an accepted write of an entry does (R22, R35, R37): the value it leaves, or the action of its row in the
entry tables. -/

namespace Sys2Proof.Machine

/-- A write of 1 to a BOOL action performs it; a write of 0 does nothing. -/
def whenOne (v : Nat) (f : Mach → Mach) (m : Mach) : Mach := if v = 1 then f m else m

/-- Each 1 written clears its bit (R35). -/
def clearBits (k v : Nat) (m : Mach) : Mach := m.wr k (m.rd k - Nat.land (m.rd k) v)

/-- Take back the answer that an effect gave last: a request answers for it. -/
def dropAnswer (m : Mach) : Mach := { m with out := m.out.tail }

/-! ### The management range, ports and lanes -/

def ethEffect (i k v : Nat) (m : Mach) : Mach :=
  if k = Eth.ENABLE i && v = 0 then (m.wr k 0).wr (Eth.LINK_UP i) 0 else m.wr k v

def mgmtEffect (k v : Nat) (d : Dev) : Dev :=
  let i := k / 256
  if within 0x1010 2 i then d.on (ethEffect (i - 0x1010) k v)
  else if within 0x1030 8 i && k % 256 = 7 then d.on (whenOne v (closeSession (i - 0x1030)))
  else if within 0x1060 16 i && k % 256 = 1 && v = 0 then d.on (mwDisable (i - 0x1060))
  else if k = Log.CLEAR then d.on (whenOne v logClear)
  else if k = Fw.FW_NEXT then d.on fun m => m.updFlash fun f => { f with next := v }
  else if k = Fw.SVN_COMMIT then (if v = 1 then svnCommit d else d)
  else if k = Fw.FW_VERIFY then d.on fwVerify
  else if k = Fw.FW_ACTIVATE then (if v = 1 then d.on fwActivate else managementReset (d.on fwActivate))
  else if k = Fw.FW_CONFIRM then d.on (whenOne v fwConfirm)
  else if k = Fw.SETTINGS_SAVE then d.on (whenOne v settingsSave)
  else d.on (·.wr k v)

/-- LINK_CTRL (R520). -/
def linkCtrl (p v : Nat) (m : Mach) : Mach :=
  match v with
  | 1 => linkRetrain p m
  | 2 => linkHotReset p m
  | 3 => linkDisable p m
  | _ => linkEnable p m

def portEffect (k v : Nat) (m : Mach) : Mach :=
  let p := (k / 256 - 0x2000) / 16
  if k = Port.ENABLE p then (if v = 1 then portEnable p m else portDisable p m)
  else if k = PortIde.KEY_GO p then whenOne v (keyGo p) m
  else if k = PortCtl.LINK_CTRL p then linkCtrl p v m
  else if k = PortCtl.PERST p then perstRequest p (v == 1) m
  else if k = Port.ROLE p || k = PortCtl.SLOT p then perstChange (p / 4) (·.wr k v) m
  else m.wr k v

def laneEffect (n s v : Nat) (m : Mach) : Mach :=
  match s with
  | 1 => laneModeSet n (v == 1) m
  | 8 => generatorSet n v m
  | 9 => checkerSet n v m
  | 0x0E => whenOne v (prbsClear n) m
  | 0x0F => whenOne v (prbsSnap n) m
  | 0x13 => whenOne v (prbsInject n) m
  | 0x14 => alignPending n (m.wr (Lane.ALIGN_PATTERN n) v)
  | 0x15 => whenOne v (slip n) m
  | 0x18 => dozeSet n (v == 1) m
  | _ => m.wr ((0x2400 + n) * 256 + s) v

/-- The default of VC_BUF in a seam mode (seam configuration table): halved in mode 2. -/
def vcBufDefault (mode : Nat) : Nat :=
  packFields 16 ([2048, 1024, 2048, 8192, 2048, 1024, 0, 0].map fun n => if mode = 2 then n / 2 else n)

/-- A write of SEAM_MODE: a VC_BUF that still has its default follows it. -/
def seamModeWrite (v : Nat) (m : Mach) : Mach :=
  let was := m.rd Seam.SEAM_MODE
  forAll [0, 1] (fun s m =>
    if m.rd (SeamCfg.VC_BUF s) = vcBufDefault was then m.wr (SeamCfg.VC_BUF s) (vcBufDefault v) else m) (m.wr Seam.SEAM_MODE v)

def seamEffect (k v : Nat) (m : Mach) : Mach :=
  let i := k / 256
  if k = Seam.SEAM_MODE then seamModeWrite v m
  else if within 0x2610 2 i then
    let s := i - 0x2610
    match k % 256 with
    | 1 => if v = 1 then seamEnable s m else seamDisable s m
    | 0x0E => whenOne v (manualGo s) m
    | 0x0F => linkCmd s v m
    | _ => m.wr k v
  else if within 0x2620 2 i && k % 256 = 5 then clearBits k v m
  else m.wr k v

/-! ### The fabric core, the NoC, coherence and protection -/

def fabricEffect (k v : Nat) (m : Mach) : Mach :=
  let i := k / 256
  if k = Fab.HLC_STEPS then hlcStepsWrite v m
  else if k = Fab.FREE_MIN_CLEAR then whenOne v freeMinClear m
  else if within 0x2820 8 i && k % 256 = 1 then mirrorEnable (i - 0x2820) v m
  else if k = Noc.STAT_SNAP then whenOne v statSnap m
  else if within 0x2910 32 i && k % 256 = 0x0A then whenOne v (latMaxClear (i - 0x2910)) m
  else if k = Hlc.HLC_ENABLE then (if v = 1 then hlcEnable m else hlcDisable m)
  else if k = Hlc.HLC_FLUSH then whenOne v hlcFlush m
  else if k = LostLog.LL_CLEAR then whenOne v llClear m
  else if k = Agents.DECLARE_DEAD then declareDead m.now.stitch v m
  else if k = Agents.REVIVE then reviveAgent v m
  else if k = Spec.SPEC_CLEAR then whenOne v specClear m
  else m.wr k v

def gateEffect (p k v : Nat) (m : Mach) : Mach :=
  match k % 256 with
  | 4 => whenOne v (swap (p + 1)) m
  | 7 => whenOne v (ruleCopy (p + 1)) m
  | 8 => ruleWritten (p + 1) 0 0 64 (m.wr k v)
  | 9 => ruleWritten (p + 1) 1 0 64 (m.wr k v)
  | _ => m.wr k v

/-- VCS_ENABLE goes to 0: the USP presents no function, and its Bus Master Enable is gone with it (R516). -/
def vcsOff (v : Nat) (m : Mach) : Mach :=
  vcsDisable v (m.updPort (m.rd (Vcs.USP v)) fun x => { x with busMaster := false })

def protectEffect (k v : Nat) (m : Mach) : Mach :=
  let i := k / 256
  if within 0x3400 1024 i && k % 256 = 1 then (if v = 1 then windowEnable (i - 0x3400) m else windowDisable (i - 0x3400) m)
  else if k = Ct.SWAP then whenOne v (swap 0) m
  else if k = Ct.RULE_COPY then whenOne v (ruleCopy 0) m
  else if within 0x3810 64 i then gateEffect (i - 0x3810) k v m
  else if k = Bridge.BIND_REQ then bindReq v m
  else if within 0x3C40 64 i && k % 256 = 1 then (if v = 1 then vcsEnable (i - 0x3C40) m else vcsOff (i - 0x3C40) m)
  else m.wr k v

/-! ### Slices, queues and needle channels -/

def sliceEffect (n k v : Nat) (m : Mach) : Mach :=
  match k % 256 with
  | 2 => sliceCtrl n v m
  | 4 => keysWrite n v m
  | 7 => setCause n 9 (m.wr k v)
  | 9 => setCause n 9 (m.wr k v)
  | 0x0B => classesWrite n v m
  | 0x0C => slcNeedleWrite n v m
  | 0x0D => setCause n 9 (m.wr k v)
  | 0x0E => notifySlice n (m.wr k v)
  | 0x0F => vectorsWrite n v m
  | 0x10 => causeWrite n v m
  | _ => m.wr k v

def channelEffect (c k v : Nat) (m : Mach) : Mach :=
  match k % 256 with
  | 1 => if v = 1 then chStart c m else stopChan c m
  | 3 => ringMoved c (m.wr k v)
  | 4 => ringMoved c (m.wr k v)
  | _ => m.wr k v

/-- An entry whose former value is in force until the next refill (R333). -/
def delayedKey (k : Nat) : Bool :=
  let i := k / 256
  let s := k % 256
  (within 0x5000 4096 i && ((4 ≤ s && s ≤ 7) || (0x0E ≤ s && s ≤ 0x11))) ||
  (within 0x6100 64 i && s == 1) || (within 0x6200 10 i && 2 ≤ s && s ≤ 3)

def trafficEffect (k v : Nat) (m : Mach) : Mach :=
  let i := k / 256
  if delayedKey k then wrDelayed k v m
  else if within 0x4000 4096 i then sliceEffect (i - 0x4000) k v m
  else if within 0x6000 64 i && k % 256 = 5 then whenOne v (tgCommit (i - 0x6000)) m
  else if within 0x6800 128 i then channelEffect (i - 0x6800) k v m
  else m.wr k v

/-! ### The pair, slots, faults, counters and the chip -/

/-- The sense input has toggled too early more than 8 times in the last 10 ms (R400). -/
def senseChatters (m : Mach) : Bool := 8 < (m.twin.fast.filter fun t => m.now.tick < t + 10000).length

def pairEffect (k v : Nat) (m : Mach) : Mach :=
  if k = Twin.TWIN_ENABLE then (if v = 1 then twinEnable m else twinDisable m)
  else if k = Twin.WITNESS then (if getBits v 32 8 = 1 then survive m else yieldTwin m)
  else if k = Twin.HANDBACK then whenOne v handback m
  else if k = Hb.SENSE_REARM then whenOne v (senseRearm (senseChatters m)) m
  else if within 0x7200 32 (k / 256) then slotWrite k v m
  else m.wr k v

/-- The context of an injected raise (R452). -/
def injectCtx (m : Mach) : Ctx := { noCtx with flags := 6, detail := m.rd Col.INJ_DETAIL }

/-- INJ_GO with a mode, on source INJ_SOURCE (R452). -/
def inject (mode : Nat) (m : Mach) : Mach :=
  let j := m.rd Col.INJ_SOURCE
  let m := match mode with
    | 0 => occur j 1 (sourceCause j) (injectCtx m) m
    | 1 => wireFault j m
    | 2 =>
      if (m.src j).held then m
      else occur j 1 (sourceCause j) { noCtx with flags := 2 } (m.updSrc j fun x => { x with held := true, roseAt := some m.now.ftime })
    | _ => m.updSrc j fun x => { x with held := false, roseAt := none }
  raiseEv 1511 { noCtx with kind := 10, unit := j, level := 4 } m

/-- A write of THRESH is in force from the next threshold window on (R439). -/
def threshWrite (j v : Nat) (m : Mach) : Mach :=
  let old := m.threshOf j
  (m.updSrc j fun x => { x with thresh := some old }).wr (Src.THRESH j) v

def sourceEffect (k v : Nat) (m : Mach) : Mach :=
  let j := k / 256 - 0x8000
  if k = Src.SRC_STATUS j then srcStatusWrite j v m
  else if k = Src.THRESH j then threshWrite j v m
  else m.wr k v

def counterEffect (i s v : Nat) (m : Mach) : Mach :=
  match s with
  | 1 => ctrClear i (m.wr (Ctr.CTR_EVENT i) v)
  | 2 => ctrClear i (m.wr (Ctr.CTR_FILTER i) v)
  | 5 => clearBits (Ctr.CTR_STATUS i) v m
  | 6 => whenOne v (ctrClear i) m
  | _ => m.wr (0x900000 + 256 * i + s) v

def powerEffect (k v : Nat) (m : Mach) : Mach :=
  let i := k / 256
  let s := k % 256
  if k = PdAll.CHIP_RESET then whenOne v askReset m
  else if within 0xA000 77 i && s = 1 then (if v = 1 then pdOn (i - 0xA000) m else pdOff (i - 0xA000) m)
  else if within 0xA000 77 i && s = 3 then whenOne v (pdReset (i - 0xA000)) m
  else if within 0xA100 48 i && s = 4 then whenOne v (tempClear (i - 0xA100)) m
  else if within 0xA130 40 i && s = 6 then whenOne v (voltClear (i - 0xA130)) m
  else if k = Avs.PLAN_NOW then whenOne v (planStart true) m
  else m.wr k v

def chipEffect (k v : Nat) (d : Dev) : Dev :=
  let i := k / 256
  if within 0x8000 1536 i then d.on (sourceEffect k v)
  else if k = Col.CAP_VALID then d.on (capFree v)
  else if k = Col.INJ_GO then d.on (whenOne v fun m => inject (m.rd Col.INJ_MODE) m)
  else if k = CtrAll.SERVICE_SET then d.on (serviceSet v)
  else if within 0x9000 1024 i then d.on (counterEffect (i - 0x9000) (k % 256) v)
  else if i < 0xB000 then d.on (powerEffect k v)
  else if k = Lc.LC_REQ then lcBurn (getBits v 0 8) d
  else if k = Lc.LC_TOKEN then (tokenWrite v d).on dropAnswer
  else if k = Otp.OTP_BURN then (if v = 1 then otpBurn d else d)
  else d.on (·.wr k v)

/-! ### One write -/

/-- What an accepted write of value v to key k does. -/
def entryEffect (k v : Nat) (d : Dev) : Dev :=
  let i := k / 256
  if i < 0x2000 then mgmtEffect k v d
  else if i < 0x2400 then d.on (portEffect k v)
  else if i < 0x2520 then d.on (laneEffect (i - 0x2400) (k % 256) v)
  else if 0x2600 ≤ i && i < 0x2640 then d.on (seamEffect k v)
  else if 0x2640 ≤ i && i < 0x3400 then d.on (fabricEffect k v)
  else if 0x3400 ≤ i && i < 0x4000 then d.on (protectEffect k v)
  else if 0x4000 ≤ i && i < 0x7000 then d.on (trafficEffect k v)
  else if 0x7000 ≤ i && i < 0x8000 then d.on (pairEffect k v)
  else if 0x8000 ≤ i then chipEffect k v d
  else d.on (·.wr k v)

/-- A configuration change is recorded in the log (chapter 2, "The persistent event log"): a record of KIND 1. The manual does not
lay out its DATA. -/
def logChange (m : Mach) : Mach :=
  let (f, m) := m.fresh
  logRecord 65535 4 1 (f % 2 ^ 256) m

/-- An accepted write, with its record where the entry is saved. -/
def writeEffect (k v : Nat) (d : Dev) : Dev :=
  let d := entryEffect k v d
  if isSaved k then d.on logChange else d

/-- What a write that fails leaves: a PD_REQ refused is counted (R472), a refused witness (R403) and a refused swap (R297) raise their
events, and a return token that is refused counts (R501). -/
def refuseEffect (k v : Nat) (st : Status) (d : Dev) : Dev :=
  let i := k / 256
  if within 0xA000 77 i && k % 256 = 1 && st = .state && !tripNow d.m then d.on (·.bump (Pd.PD_REFUSED (i - 0xA000)) 1)
  else if k = Twin.WITNESS && st = .state then d.on (twinEvent 11)
  else if k = Ct.SWAP && st = .state then d.on fun m => dropAnswer (swapCommand 0 m)
  else if within 0x3810 64 i && k % 256 = 4 && st = .state then d.on fun m => dropAnswer (swapCommand (i - 0x3810 + 1) m)
  else if k = Lc.LC_TOKEN && st = .state then (tokenWrite v d).on dropAnswer
  else d

end Sys2Proof.Machine
end

