-- ==== Sys2Proof/Machine/Dictionary.lean ====
section
/-! DEFINITION. The dictionary engine (R42 to R44, R49, R517, R518): the checks of an operation in their order, its effect, and
requests of several operations. -/

namespace Sys2Proof.Machine

/-- The key that an operation names. -/
def opKey (o : DictOp) : Nat := o.index * 256 + o.sub

/-- The entry is OCTETS. -/
def isOctets (e : Entry) : Bool := match e.ty with
  | .octets _ => true
  | _ => false

/-! ### Access and length (R35, R49, R518) -/

/-- ACCESS of R517 step 4. A COMPARE_WRITE reads as well as it writes. -/
def accessFails (e : Entry) (kind : OpKind) : Bool :=
  match e.acc, kind with
  | .wo, .read => true
  | .wo, .blockRead => true
  | .wo, .compareWrite => true
  | .ro, k => opWrites k
  | .const, k => opWrites k
  | _, _ => false

/-- The unit that a block write of an entry must keep to: an XLATE entry (R89) or a rule (R295). -/
def blockUnit (k : Nat) : Nat :=
  if k = Xlate.XLATE then 8
  else if k = CtBank.CT_BANK0 || k = CtBank.CT_BANK1 || (within 0x3810 64 (k / 256) && 8 ≤ k % 256) then 16
  else 4

/-- LENGTH of R517 step 5. -/
def lengthFails (e : Entry) (k : Nat) (o : DictOp) : Bool :=
  let n := e.ty.size
  if opBlock o.kind then
    !isOctets e || o.offset % 4 != 0 || o.len % 4 != 0 || o.len < 4 || 1024 < o.len || n < o.offset + o.len ||
    (o.kind == .blockWrite && (o.offset % blockUnit k != 0 || o.len % blockUnit k != 0))
  else o.len != n || 1024 < n

/-! ### Values -/

/-- The value that a write to an entry of at most 1,024 B would leave, before reserved bits are dropped (R518). -/
def newValue (e : Entry) (k : Nat) (o : DictOp) (d : Dev) : Nat :=
  match o.kind with
  | .blockWrite =>
    let old := if e.acc = .wo then d.m.rd k else readValue k d
    setBits old (8 * o.offset) (8 * o.len) o.value
  | _ => o.value % 2 ^ (8 * e.ty.size)

/-! ### Entries above 1,024 B -/

/-- The bits of a rule and of a translation entry that exist. -/
def ruleMask112 : Nat := 2 ^ 112 - 1 - 0xF0

/-- XLATE after a write of n entries from entry e on: SYS bits are the bind engine's (R82). -/
def xlateAfter (e v : Nat) : Nat → Mach → Mach
  | 0, m => m
  | n + 1, m =>
    let x := Nat.land (getBits v 0 64) 0x07FF0FFFFFFF3F0D + (if xSys (xlate m e) then 2 else 0)
    xlateAfter (e + 1) (v / 2 ^ 64) n (putXlate e x m)

/-- Two valid entries share a key (R89). -/
def xlateClash (m : Mach) : Bool :=
  let keys := (xlateValid m).map fun e => let x := xlate m e; (xDir x, xVcs x, xKey x)
  !keys.Nodup

/-- Why a write of XLATE entries fails (R89). -/
def xlateCheck (off len v : Nat) (m : Mach) : Option Status :=
  let n := len / 8
  let e := off / 8
  let after := xlateAfter e v n m
  if (List.range n).any fun j => 2 ≤ xDir (getBits v (64 * j) 64) then some .range
  else if (List.range n).any (fun j => xSys (xlate m (e + j)) && xlate m (e + j) != xlate after (e + j)) then some .state
  else if xlateClash after then some .state
  else none

/-- Why a block write of an entry above 1,024 B fails (R60, R89, R288, R295, R361). -/
def largeCheck (k off len v : Nat) (m : Mach) : Option Status :=
  if k = CtBank.CT_BANK0 || k = CtBank.CT_BANK1 then
    thenCheck (rangeIf (rulesBackwards v (len / 16))) (ruleWriteCheck 0 (k - CtBank.CT_BANK0) m)
  else if k = Xlate.XLATE then xlateCheck off len v m
  else if k = Fw.FW_IMAGE then fwWriteCheck false off len m
  else if within 0x6800 128 (k / 256) then ringWriteCheck (k / 256 - 0x6800) off (off + len) m
  else none

/-- The bits of fields given by their lowest bit and their width. -/
def fieldMask (l : List (Nat × Nat)) : Nat := (l.map fun f => (2 ^ f.2 - 1) * 2 ^ f.1).sum

/-- The fields of a needle descriptor that software writes (R359). Fields that read 0 are not written (R7), and DONE and ERR are the
engine's: a write leaves them as they are (log entry 137). -/
def descMask : Nat := fieldMask [(0, 7), (8, 6), (32, 90), (128, 58), (192, 288)]

/-- The bits of a descriptor that keep their value when software writes it: DONE and ERR. -/
def descKept : Nat := fieldMask [(480, 8)]

/-- n words of a needle ring are written from word w on. -/
def ringWrite (k w v : Nat) : Nat → Mach → Mach
  | 0, m => m
  | n + 1, m =>
    let part := fun mask => getBits mask (32 * (w % 16)) 32
    let x := Nat.land (v % 2 ^ 32) (part descMask) + Nat.land (m.word k w) (part descKept)
    ringWrite k (w + 1) (v / 2 ^ 32) n (m.putWord k w x)

/-- An accepted block write of an entry above 1,024 B. -/
def largeEffect (k off len v : Nat) (m : Mach) : Mach :=
  if k = CtBank.CT_BANK0 || k = CtBank.CT_BANK1 then
    ruleWritten 0 (k - CtBank.CT_BANK0) (off / 16) (len / 16)
      (m.putWords k (off / 4) (maskEach 128 (len / 16) ruleMask112 v) (len / 4))
  else if k = Xlate.XLATE then xlateAfter (off / 8) v (len / 8) m
  else if k = Fw.FW_IMAGE then fwWrite false off len v m
  else if within 0x6800 128 (k / 256) then ringWrite k (off / 4) v (len / 4) m
  else m.putWords k (off / 4) v (len / 4)

/-! ### The checks of one operation (R517) -/

/-- Why a read fails at steps 6 and 7 of R517 (R245, R361, R466). -/
def readFails (w : Who) (k : Nat) (o : DictOp) (d : Dev) : Option Status :=
  if k = Coh.DIAG_ENTRY then diagCheck d.m
  else if within 0x6800 128 (k / 256) && k % 256 = 8 && 64 * ringSize d.m (k / 256 - 0x6800) < o.offset + o.len then some .range
  else match ctrReadKey k with
    | some i => if w.rank = 0 then sliceCtr w i d else none
    | none => none

/-- RANGE, then STATE of a block without power, then what else the entry's rules find. -/
def withPower (k : Nat) (m : Mach) (c : Option Status) : Option Status :=
  match c with
  | some .range => some .range
  | c => if m.domOn (keyDomain k) then c else some .state

/-- The comparison of COMPARE_WRITE (R517 step 8). -/
def compareFails (k : Nat) (o : DictOp) (d : Dev) : Option Status :=
  if o.kind == .compareWrite && readValue k d != o.expect then some .compareFail else none

/-- Steps 6 to 8 of R517 for a write. -/
def writeFails (w : Who) (look : Look) (e : Entry) (k : Nat) (o : DictOp) (d : Dev) : Option Status :=
  if 1024 < e.ty.size then withPower k d.m (largeCheck k o.offset o.len (o.value % 2 ^ (8 * o.len)) d.m)
  else
    let v := newValue e k o d
    if !fits e v then some .range
    else thenCheck (withPower k d.m (writeCheck w look k (keptBits e k v) d)) (compareFails k o d)

/-- The first check that an operation fails (R517). A fault of the dictionary engine itself comes before them (R44). -/
def opFails (w : Who) (look : Look) (o : DictOp) (d : Dev) : Option Status :=
  let k := opKey o
  if d.m.mgmt.fault then some .internal
  else if !indexExists o.index then some .noEntry
  else match findEntry k with
    | none => some .noSubindex
    | some (e, _) =>
      if privFails w e k (opWrites o.kind) d then some .privilege
      else if lifeFails w k o.kind d then some .lifecycle
      else if accessFails e o.kind then some .access
      else if lengthFails e k o then some .length
      else if opWrites o.kind then writeFails w look e k o d
      else readFails w k o d

/-! ### The effect of one operation -/

/-- A read whose value the manual leaves open takes a fresh free value. -/
def openValue (k : Nat) (m : Mach) : Bool :=
  k == Strap.BOARD_PINS ||
  (within 0x2400 256 (k / 256) && k % 256 == 3 && m.on (Port.ENABLE (lanePort m (k / 256 - 0x2400))))

/-- What a read leaves behind: a SLICE requester's read of a counter is counted. -/
def readEffect (w : Who) (k : Nat) (m : Mach) : Mach :=
  let m := if w.rank = 0 && (ctrReadKey k).isSome then m.bump CtrAll.SLICE_READS 1 else m
  if openValue k m then { m with free := m.free + 1 } else m

/-- The endpoint of the block that an entry belongs to, where the network leads to it (R190). -/
def bookEnd (k : Nat) : Option Nat :=
  let d := keyDomain k
  if 38 ≤ d && d < 54 then some (d - 38)
  else if 58 ≤ d && d < 62 then some (sliceEnd (d - 58))
  else if 64 ≤ d && d < 72 then some (ctrlEnd (d - 64))
  else if d = 62 then some needleEnd
  else if d = 63 then some 31
  else none

/-- A Pattern Book access of `size` bytes travels to its block in an MF message, and is answered in an MM message; both are counted
(R196, R207). -/
def bookTraffic (k size : Nat) (m : Mach) : Mach :=
  match bookEnd k with
  | none => m
  | some e =>
    if !nocReach m e then m
    else
      let n := if size ≤ 24 then 1 else 3
      nocSend e n (nocSend bridgeEnd n m)

/-- An operation that passes its checks: the value read, and the switch after it. -/
def opApply (w : Who) (o : DictOp) (d : Dev) : Nat × Dev :=
  let k := opKey o
  match findEntry k with
  | none => (0, d)
  | some (e, _) =>
    let d := d.on (bookTraffic k e.ty.size)
    match o.kind with
    | .read => (readValue k d, d.on (readEffect w k))
    | .blockRead => (blockValue k e.ty.size o.offset o.len d, d.on (readEffect w k))
    | _ =>
      if 1024 < e.ty.size then
        let d := d.on (largeEffect k o.offset o.len (o.value % 2 ^ (8 * o.len)))
        (0, if e.saved then d.on logChange else d)
      else (0, writeEffect k (keptBits e k (newValue e k o d)) d)

/-- The dictionary engine's fault has been met: DICT_INTERNAL, cause 2 of E1510 (R44, R437). -/
def engineFault (m : Mach) : Mach :=
  if m.mgmt.fault then
    raiseEv 1510 { noCtx with cause := 2, kind := 9, level := 4 } (m.updMgmt fun x => { x with fault := false })
  else m

/-- What an operation that fails leaves behind. -/
def opRefuse (w : Who) (o : DictOp) (st : Status) (d : Dev) : Dev :=
  let k := opKey o
  if st == .internal then d.on engineFault
  else match findEntry k with
  | none => d
  | some (e, _) =>
    if opWrites o.kind then (if 1024 < e.ty.size then d else refuseEffect k (newValue e k o d) st d)
    else if w.rank = 0 && (ctrReadKey k).isSome && (st == .privilege || st == .state) then d.on (·.bump CtrAll.READ_REFUSED 1)
    else d

/-! ### Requests (R43, R44) -/

/-- The results of a request's operations: status, and the value read. -/
abbrev Results := List (Status × Nat)

/-- The operations of a request without the atomic flag. A management reset that one of them begins ends the request. -/
def runOps (w : Who) : List DictOp → Dev → Results × Dev
  | [], d => ([], d)
  | o :: os, d =>
    match opFails w [] o d with
    | some st => ((st, 0) :: os.map fun _ => (.notExecuted, 0), opRefuse w o st d)
    | none =>
      let x := opApply w o d
      if d.m.mgmt.up && !x.2.m.mgmt.up then ((.ok, x.1) :: os.map fun _ => (.notExecuted, 0), x.2)
      else
        let y := runOps w os x.2
        ((.ok, x.1) :: y.1, y.2)

/-- The operations of an atomic request. Those listed after a write of FW_ACTIVATE 2 run too, on the switch in management reset: the
specification is silent on them (DESIGN CHOICE, log entry 148). Each is checked against the entries as the earlier ones that pass would leave them. -/
def trialOps (w : Who) (look : Look) : List DictOp → Dev → Results × Dev
  | [], d => ([], d)
  | o :: os, d =>
    match opFails w look o d with
    | some st =>
      let y := trialOps w look os d
      ((st, 0) :: y.1, y.2)
    | none =>
      let x := opApply w o d
      let y := trialOps w look os x.2
      ((.ok, x.1) :: y.1, y.2)

/-- What the failing operations of an atomic request leave behind. -/
def refuseAll (w : Who) (l : List (DictOp × (Status × Nat))) (d : Dev) : Dev :=
  l.foldl (fun d x => if x.2.1 == .ok then d else opRefuse w x.1 x.2.1 d) d

/-- An atomic request: every write, or none. -/
def runAtomic (w : Who) (ops : List DictOp) (d : Dev) : Results × Dev :=
  let look := (ops.filter fun o => opWrites o.kind).map fun o => (opKey o, o.value)
  let x := trialOps w look ops d
  if x.1.all (·.1 == .ok) then x
  else (x.1.map fun r => if r.1 == .ok then (.notExecuted, 0) else r, refuseAll w (ops.zip x.1) d)

/-- The whole-request status (R44). -/
def wholeStatus (rs : Results) : Status :=
  ((rs.find? fun r => r.1 != .ok && r.1 != .notExecuted).map (·.1)).getD .ok

/-- An atomic request keeps its limits (R43). -/
def atomicFits (ops : List DictOp) : Bool := ops.length ≤ 64 && ops.all fun o => !opBlock o.kind

/-- A request of a requester: its status, its operations' results, and the switch after it. -/
def request (w : Who) (atomic : Bool) (ops : List DictOp) (d : Dev) : Status × Results × Dev :=
  if atomic && !atomicFits ops then (.length, ops.map fun _ => (.length, 0), d)
  else
    let x := if atomic then runAtomic w ops d else runOps w ops d
    (wholeStatus x.1, x.1, x.2)

/-- A request on a path, with its answer. -/
def pathRequest (path : Path) (atomic : Bool) (ops : List DictOp) (answer : Status → Results → Out) (d : Dev) : Dev :=
  match entrance path ops d with
  | .drop => d
  | .discard p => d.on (vdmDrop p)
  | .fail st => d.on (·.emit (answer st []))
  | .go w =>
    let x := request w atomic ops d
    x.2.2.on (·.emit (answer x.1 x.2.1))

/-- One operation on a path, with its answer. -/
def pathOp (path : Path) (o : DictOp) (d : Dev) : Dev :=
  pathRequest path false [o] (fun st rs => .answer st (rs.foldl (fun _ r => r.2) 0)) d

/-- The requester of a write that comes with no path of its own (log entry 62): the highest privilege that the life-cycle state
opens. -/
def plainWho (d : Dev) : Who := ⟨if d.factoryOpen then 2 else 1, none, true, true, true, false⟩

/-- A write of an entry that has no row of its own (R22). -/
def registerWrite (index sub value : Nat) (d : Dev) : Dev :=
  if !d.m.mgmt.up then d
  else
    let len := match findEntry (index * 256 + sub) with
      | some (e, _) => e.ty.size
      | none => 0
    let x := runOps (plainWho d) [⟨.write, index, sub, len, 0, 0, value % 2 ^ (8 * len)⟩] d
    x.2.on (·.emit (.answer (wholeStatus x.1) 0))

end Sys2Proof.Machine
end

