-- ==== Sys2Proof/Machine/Paths.lean ====
section
/-! DEFINITION. Requests on the access paths: Preoc datagrams (R47 to R51), PB_ACCESS (R55) and the FM API commands (R57). What an
FM API response carries beside its return code is laid out by the model (log entry 63). -/

namespace Sys2Proof.Machine

/-! ### Preoc requests (R47, R48, R51) -/

/-- Distance of a sequence number below the highest accepted. -/
def behind (x : SessSt) (seq : Nat) : Option Nat := x.highest.bind fun h => if seq ≤ h then some (h - seq) else none

/-- The sequence number has been accepted. -/
def seqTaken (x : SessSt) (seq : Nat) : Bool :=
  match behind x seq with
  | some 0 => true
  | some (n + 1) => bitAt x.window n
  | none => false

/-- Record an accepted sequence number (R51). -/
def takeSeq (seq : Nat) (x : SessSt) : SessSt :=
  match x.highest with
  | none => { x with highest := some seq, window := 0 }
  | some h =>
    if seq ≤ h then { x with window := setBit x.window (h - seq - 1) true }
    else
      let n := seq - h
      { x with highest := some seq, window := if 64 < n then 0 else (x.window * 2 ^ n + 2 ^ (n - 1)) % 2 ^ 64 }

/-- Execute an accepted request of session k, answer it, and hold the response. A response whose records exceed 1,440 B is sent whole:
the specification says nothing of one (DESIGN CHOICE, log entry 144). -/
def sessionRequest (k : Nat) (g : Datagram) (d : Dev) : Dev :=
  match entrance (.preoc k) g.ops d with
  | .go w =>
    let d := d.on fun m => m.updSess k (takeSeq g.seq)
    let x := request w g.atomic g.ops d
    let st := x.1
    let rs := x.2.1
    x.2.2.on fun m =>
      let m := m.emit (.preoc (udpReply g.udp m) k g.seq st rs)
      if sessionOpen k m then m.updSess k fun s => { s with responses := ((g.seq, st, rs) :: s.responses).take 16 } else m
  | .fail st => d.on fun m => m.emit (.preoc (udpReply g.udp m) k g.seq st [])
  | _ => d

/-- A PB_REQUEST of session k that is authentic: the first rule of R51 that fits. -/
def sequenced (k : Nat) (g : Datagram) (d : Dev) : Dev :=
  let x := d.m.sess k
  if (behind x g.seq).any (64 < ·) then d.on (·.bump Preoc.REPLAY_DROP 1)
  else if seqTaken x g.seq then
    match x.responses.find? (·.1 == g.seq) with
    | some (_, st, rs) => d.on fun m => m.emit (.preoc (udpReply g.udp m) k g.seq st rs)
    | none => d.on fun m => m.emit (.preoc (udpReply g.udp m) k g.seq .duplicate [])
  else sessionRequest k g d

/-- A Preoc PB_REQUEST datagram (R47, R48, R51, R59 step 4). -/
def pbRequest (g : Datagram) (d : Dev) : Dev :=
  let m := d.m
  if !(m.mgmt.up || m.mgmt.recovery) then d
  else if m.mgmt.recovery && (g.udp.sender.eth != 0 || g.sessionId != 0) then d
  else if !udpHeard g.udp m then d.on (udpDrop g.udp)
  else if g.sessionId = 0 then pathRequest .preocNone g.atomic g.ops (.preoc (udpReply g.udp m) 255 g.seq) d
  else
    let k := g.sessionId - 1
    if 8 ≤ k || !sessionOpen k m then d.on (answerSession g.udp g.seq)
    else if !g.authentic then d.on fun m => m.updSess k fun x => { x with authFails := x.authFails + 1 }
    else sequenced k g (d.on fun m => m.updSess k fun x => { x with heard := m.now.stitch })

/-! ### FM API commands (R55, R57) -/

/-- Return code of a status (R44). The table gives DUPLICATE and SESSION a dash; where one is a whole-request status all the same, the
model answers Internal Error and Unsupported (DESIGN CHOICE, log entry 145). NOT_EXECUTED is none. -/
def Status.cci : Status → Nat
  | .ok => 0
  | .noEntry => 2
  | .noSubindex => 2
  | .access => 3
  | .privilege => 3
  | .range => 2
  | .length => 2
  | .state => 6
  | .compareFail => 2
  | .busy => 5
  | .lifecycle => 3
  | .duplicate => 4
  | .session => 3
  | .internal => 4
  | .notExecuted => 0

/-- Return code Unsupported. -/
def cciUnsupported : Nat := 3

/-- The path carries FM API messages: MCTP or a mailbox CCI. -/
def fmPath : Path → Bool
  | .preocNone => false
  | .preoc _ => false
  | .mctpBus _ => true
  | .mctpVdm _ _ => true
  | .cci _ => true

/-- Where a request on an FM API path is answered. -/
def pathReply (path : Path) (m : Mach) : Reply :=
  match path with
  | .cci v => .cci v
  | .mctpVdm port _ => mctpReply (.vdm port) m
  | _ => mctpReply .bus m

/-- The switch answers an FM API command. -/
def fmAnswer (path : Path) (code payload : Nat) (m : Mach) : Mach := m.emit (.fmApi (pathReply path m) code payload)

/-- An FM API command: `fm` tells that it needs FM privilege, `writes` that it writes (R45, R57). -/
def fmCommand (path : Path) (fm writes : Bool) (serve : Who → Dev → Dev) (d : Dev) : Dev :=
  if !fmPath path then d
  else match entrance path [] d with
    | .drop => d
    | .discard p => d.on (vdmDrop p)
    | .fail st => d.on (fmAnswer path st.cci 0)
    | .go w => if (fm && w.rank == 0) || (writes && !w.writeOk) then d.on (fmAnswer path cciUnsupported 0) else serve w d

/-- An FM API command with an opcode that no command of its own has: PB_ACCESS (R55), or one that the switch does not support (R57). -/
def pbAccess (path : Path) (opcode : Nat) (atomic : Bool) (ops : List DictOp) (d : Dev) : Dev :=
  if !fmPath path then d
  else if opcode = 0xC000 then pathRequest path atomic ops (fun st rs => .reply (pathReply path d.m) st.cci rs) d
  else fmCommand path false false (fun _ d => d.on (fmAnswer path cciUnsupported 0)) d

/-- A command that reads answers Success and a payload. -/
def fmRead (path : Path) (fm : Bool) (payload : Who → Dev → Nat) (d : Dev) : Dev :=
  fmCommand path fm false (fun w d => d.on (fmAnswer path 0 (payload w d))) d

/-- Values one after another, each with its width in bits. -/
def packWide : List (Nat × Nat) → Nat
  | [] => 0
  | (w, v) :: l => v % 2 ^ w + 2 ^ w * packWide l

/-- Entries one after another, each in its own width. -/
def packEntries (d : Dev) (ks : List Nat) : Nat := packWide (ks.map fun k => (widthOf k, readValue k d))

/-- The command is served by operations on entries. -/
def fmServe (path : Path) (writes : Bool) (ops : List DictOp) (d : Dev) : Dev :=
  fmCommand path true writes (fun w d =>
    let x := request w false ops d
    x.2.2.on (fmAnswer path x.1.cci (x.2.1.foldl (fun _ r => r.2) 0))) d

/-- A WRITE of an entry. -/
def writeOp (k v : Nat) : DictOp := ⟨.write, k / 256, k % 256, widthOf k / 8, 0, 0, v⟩

def identityKeys : List Nat :=
  [Ident.VENDOR, Ident.PART, Ident.DIE_REV, Ident.SERIAL, Ident.ROLE, Ident.FW_VERSION, Ident.LC_STATE]

def identify (path : Path) (d : Dev) : Dev := fmRead path false (fun _ d => packEntries d identityKeys) d

/-- Posted records that a requester sees (R451). -/
def recordsFor (w : Who) (m : Mach) : List CciRec :=
  if w.rank = 0 then m.col.records.filter fun r => ownSlice w m r.slice else m.col.records

/-- A record of Get Event Records. -/
def recordBody (r : CciRec) : Nat := packWide [(16, r.source), (8, r.cls), (16, r.slice), (32, r.raises), (256, r.summary)]

def getEventRecords (path : Path) (d : Dev) : Dev :=
  fmRead path false (fun w d =>
    let l := recordsFor w d.m
    l.length % 2 ^ 16 + 2 ^ 16 * packFields 328 (l.map recordBody)) d

/-- Clear Event Records clears STICKY of the sources named, and drops their records (R451). -/
def clearEventRecords (path : Path) (sources : List Nat) (d : Dev) : Dev :=
  fmCommand path true true (fun _ d => d.on fun m =>
    let l := sources.filter (· < 1536)
    let m := forAll l (fun j m => srcStatusWrite j 1 m) m
    fmAnswer path 0 0 { m with col := { m.col with records := m.col.records.filter fun r => !l.contains r.source } }) d

def getFwInfo (path : Path) (d : Dev) : Dev :=
  fmRead path false (fun _ d => packEntries d [Fw.FW_ACTIVE, Fw.FW_NEXT, Fw.FW_VER_A, Fw.FW_VER_B]) d

def transferFw (path : Path) (offset len data : Nat) (d : Dev) : Dev :=
  fmServe path true [⟨.blockWrite, 0x10A0, 7, len, offset, 0, data⟩] d

/-- Activate FW: the action is the value of FW_ACTIVATE. -/
def activateFw (path : Path) (action : Nat) (d : Dev) : Dev := fmServe path true [writeOp Fw.FW_ACTIVATE action] d

def getTimestamp (path : Path) (d : Dev) : Dev := fmRead path false (fun _ d => readValue Ident.FTIME_NOW d) d

/-- Set Timestamp loads fabric time (R6); twin B of a synchronised pair does not (R397). -/
def setTimestamp (path : Path) (time : Nat) (d : Dev) : Dev :=
  fmCommand path true true (fun _ d => d.on fun m =>
    if m.role = 1 && [1, 2, 7].contains (twinState m) then fmAnswer path cciUnsupported 0 m
    else fmAnswer path 0 0 { m with now := { m.now with ftime := time } }) d

def getSupportedLogs (path : Path) (d : Dev) : Dev := fmRead path false (fun _ d => packEntries d [Log.COUNT, Log.NEXT_SEQ]) d

def getLog (path : Path) (offset len : Nat) (d : Dev) : Dev := fmServe path false [⟨.blockRead, 0x1080, 4, len, offset, 0, 0⟩] d

/-- The ports that a property holds for. -/
def portSet (test : Nat → Bool) : Nat := (List.range 64).foldl (fun v p => setBit v p (test p)) 0

def identifySwitchDevice (path : Path) (d : Dev) : Dev :=
  fmRead path false (fun _ d => packWide [(widthOf Ident.SERIAL, readValue Ident.SERIAL d), (8, 64),
    (64, portSet fun p => d.m.on (Port.ENABLE p)), (64, portSet fun p => d.m.linkUp p),
    (16, readValue Bridge.VCS_COUNT d), (16, readValue Bridge.VPPB_USED d)]) d

def getPhysicalPortState (path : Path) (port : Nat) (d : Dev) : Dev :=
  fmRead path false (fun _ d => packEntries d [Port.ENABLE port, Port.ROLE port, PortStat.LTSSM port, PortStat.RATE port,
    PortStat.WIDTH_NOW port, PortStat.PARTNER port, PortStat.LD_COUNT port]) d

/-- Physical Port Control: 0 asserts PERST, 1 deasserts it, 2 resets the port (log entry 63). -/
def physicalPortControl (path : Path) (port action : Nat) (d : Dev) : Dev :=
  match action with
  | 0 => fmServe path true [writeOp (PortCtl.PERST port) 1] d
  | 1 => fmServe path true [writeOp (PortCtl.PERST port) 0] d
  | 2 => fmServe path true [writeOp (PortCtl.LINK_CTRL port) 2] d
  | _ => fmCommand path true true (fun _ d => d.on (fmAnswer path Status.range.cci 0)) d

/-- A message is passed on to what lies behind a port, uninterpreted: to an LD, or to the port or its device (65535). Under REQUIRE_SECURE
it is no write of the switch (DESIGN CHOICE, log entry 146). -/
def passOn (path : Path) (port ld payload : Nat) (d : Dev) : Dev :=
  fmCommand path true false (fun _ d => d.on fun m =>
    if m.linkUp port then fmAnswer path 0 0 (m.emit (.tunnel port ld payload)) else fmAnswer path Status.state.cci 0 m) d

def getVirtualSwitchInfo (path : Path) (v : Nat) (d : Dev) : Dev :=
  fmRead path false (fun _ d =>
    let r := vppbRange d.m v
    packEntries d ([Vcs.VCS_ENABLE v, Vcs.USP v, Vcs.VPPB_FIRST v, Vcs.VPPB_COUNT v, Vcs.VCS_STATE v] ++
      ((List.range (min 1024 r.2)).filter (r.1 ≤ ·)).map Vppb.VPPB)) d

/-- Bind vPPB and Unbind vPPB write BIND_REQ (R80). -/
def bindVppb (path : Path) (v i p ld : Nat) (ldValid : Bool) (d : Dev) : Dev :=
  fmServe path true [writeOp Bridge.BIND_REQ (bindValue 1 v i p ld ldValid 0)] d
def unbindVppb (path : Path) (v i mode : Nat) (d : Dev) : Dev :=
  fmServe path true [writeOp Bridge.BIND_REQ (bindValue 2 v i 0 0 false mode)] d

/-- Generate AER Event: the vPPB holds the error, and its error message goes to the host of its virtual switch. -/
def generateAer (path : Path) (i error : Nat) (d : Dev) : Dev :=
  fmCommand path true true (fun _ d => d.on fun m =>
    match firstBelow 64 fun v => m.on (Vcs.VCS_ENABLE v) && inVcs m v i with
    | some v => fmAnswer path 0 0 ((updVppb i (fun x => { x with aer := error })
        (m.updPort (m.rd (Vcs.USP v)) fun x => { x with aer := error })).emit (.route 255 (m.rd (Vcs.USP v)) none error))
    | none => fmAnswer path Status.range.cci 0 m) d

end Sys2Proof.Machine
end

