-- ==== Sys2Proof/Machine/Boot.lean ====
section
/-! DEFINITION. Start-up from the settings image (R38, R300, R309, R482, R486, R519). -/

namespace Sys2Proof.Machine

/-- Saved entries whose write starts something: start-up performs them in its steps, and does not only load their value. -/
def bootAction (k : Nat) : Bool :=
  let i := k / 256
  let s := k % 256
  (within 0xA000 77 i && s == 1) || k == Fab.HLC_STEPS || k == Hlc.HLC_ENABLE || (within 0x2820 8 i && s == 1) ||
  k == Twin.TWIN_ENABLE || (within 0x2610 2 i && s == 1) || (within 0x3400 1024 i && s == 1) || (within 0x7200 32 i && s == 1) ||
  (within 0x2000 0x400 i && i % 16 == 0 && s == 1) || (within 0x3C40 64 i && s == 1)

/-- The saved entries of a copy take their saved values. -/
def loadEntries (test : Nat → Bool) (c : FlashCopy) (m : Mach) : Mach :=
  let m := forAll (c.regs.filter fun e => test e.1) (fun e m => m.wr e.1 e.2) m
  { m with ram := (c.ram.filter fun e => test (e.1 / 2 ^ 24)).foldl (fun t e => Tab.put 0 t e.1 e.2) m.ram }

/-- The saved value of an entry, or its default. -/
def savedValue (c : FlashCopy) (k : Nat) : Nat := Tab.get (dflt k) c.regs k

/-- Step 1: domain requests in one batch, the parents first. The fabric stays off where R492 or R499 keeps it off. -/
def bootDomains (fabric : Bool) (c : FlashCopy) (m : Mach) : Mach :=
  let ds := if fabric then (List.range 76).filter (2 ≤ ·) else []
  let ds := [2, 3].flatMap fun n => ds.filter fun d => domainDepth d == n
  let m := forAll ds (fun d m =>
    if savedValue c (Pd.PD_REQ d) = 0 then m.wr (Pd.PD_REQ d) 0
    else if pdOnRefused d [] m then m else pdOn d m) m
  if savedValue c (Pd.PD_REQ 76) = 0 && !pdOffRefused 76 m then pdOff 76 m else m

/-- The entries named in a list that the copy holds as 1. -/
def savedOnes (c : FlashCopy) (n : Nat) (key : Nat → Nat) : List Nat := (List.range n).filter fun i => savedValue c (key i) == 1

/-- Steps 2 and 3: fabric core and line cache, mirror selectors, virtual switches, protection sites and slices. -/
def bootFabric (c : FlashCopy) (m : Mach) : Mach :=
  let steps := savedValue c Fab.HLC_STEPS
  let m := if steps = 0 || (hlcStepsCheck steps m).isSome then m else hlcStepsWrite steps m
  let m := if savedValue c Hlc.HLC_ENABLE = 1 then hlcEnable m else m
  let m := forAll (savedOnes c 8 Mir.MIR_ENABLE) (fun i m => mirrorEnable i 1 m) m
  let m := forAll (savedOnes c 64 Vcs.VCS_ENABLE) (fun v m => if (vcsEnableCheck v m).isSome then m else vcsEnable v m) m
  sliceBoot (forAll (List.range 65) siteLoaded m)

/-- Steps 4 to 8: the pair, windows (which wait, R486), slots and ports. -/
def bootUnits (c : FlashCopy) (m : Mach) : Mach :=
  let m := if savedValue c Twin.TWIN_ENABLE = 1 then twinEnable m else m
  let m := forAll (savedOnes c 2 SeamCfg.SEAM_ENABLE) (fun s m => if (seamEnableCheck s m).isSome then m else seamEnable s m) m
  let m := m.updMgmt fun x => { x with bootWin := savedOnes c 1024 Win.W_ENABLE }
  let m := forAll (savedOnes c 32 Slot.PWR_EN) (fun t m => slotWrite (Slot.PWR_EN t) 1 m) m
  forAll (savedOnes c 64 Port.ENABLE) (fun p m => if (portEnableCheck p m).isSome then m else portEnable p m) m

/-- The last plan, or the factory plan while none has been applied (R482): VDD and the five thresholds. -/
def bootPlan (d : Dev) : Option (Nat × Nat) :=
  match (newestCopy d.m.flash).bind FlashCopy.plan with
  | some p => some p
  | none => if d.otp.inForce < 4 then some (d.otp.field 160 2, d.otp.field 162 10) else none

/-- Start-up applies the plan, and records nothing. -/
def bootPlanApply (d : Dev) : Dev :=
  match bootPlan d with
  | none => d
  | some (vdd, ds) => d.on fun m =>
    planApply ⟨m.rd Avs.VDD_SET_MV, vdd, 0, 0, 0, 0, (List.range 5).map fun i => getBits ds (16 * i) 16, false⟩ m

/-- The firmware applies the settings image after a chip reset (R486). -/
def bootChip (c : FlashCopy) (d : Dev) : Dev :=
  let open_ := d.fabricOpen
  (bootPlanApply (d.on (loadEntries (fun k => !bootAction k) c))).on fun m =>
    (bootUnits c (bootFabric c (bootDomains open_ c m))).updMgmt fun x => { x with applied := true }

/-- The firmware runs (R486): after a chip reset it applies the saved entries, after a management reset those of PD1. -/
def bootComplete (d : Dev) : Dev :=
  if !d.m.mgmt.booting || !d.m.domOn 1 then d
  else
    let d := match newestCopy d.m.flash with
      | some _ => d
      | none => d.on (raiseEv 1510 { noCtx with cause := 0, kind := 9, level := 4 })
    let c := (newestCopy d.m.flash).getD FlashCopy.reset
    let d := if d.m.mgmt.applied then d.on (loadEntries (fun k => 0x100000 ≤ k && k < 0x200000) c) else bootChip c d
    d.on fun m =>
      let m := m.updMgmt fun x => { x with up := true, booting := false }
      let (f, m) := m.fresh
      alertAfterReset (logRecord 65535 4 2 (f % 2 ^ 256) m)

/-- A window that start-up holds needs the pair (R486 steps 5 and 6). -/
def needsPair (m : Mach) (w : Nat) : Bool :=
  m.on Twin.TWIN_ENABLE && (winTracked m w || hasPeerMember m w || m.rd (Win.W_HOME w) != m.role)

/-- Start-up enables the windows whose turn has come. A window whose conditions do not hold stays disabled. -/
def bootWindows (m : Mach) : Mach :=
  if m.mgmt.bootWin.isEmpty || !(List.range 4).all (fun c => m.rd (Ce.CE_STATE c) == 2) then m
  else
    let due := m.mgmt.bootWin.filter fun w => !needsPair m w || twinState m == 2
    let m := m.updMgmt fun x => { x with bootWin := x.bootWin.filter fun w => !due.contains w }
    forAll due (fun w m => if (windowEnableCheck w m).isSome then m else windowEnable w m) m

end Sys2Proof.Machine
end

