-- ==== Sys2Proof/Machine/NeedleMove.lean ====
section
/-! DEFINITION. How the needle engine moves data (R364, R365, R367 to R374, R379): units and their grants, source reads, the funnel,
destination writes, what comes back, and how descriptors end. -/

namespace Sys2Proof.Machine

/-! ### Places in a transfer (R364, R365, R379) -/

/-- Address of byte `pos` of a range: linear, or round a spool (R364). -/
def rangeAt (a z pos : Nat) : Nat :=
  match spoolSize z with
  | none => a + pos
  | some n => a / n * n + (a % n + pos) % n

def srcAt (raw pos : Nat) : Nat := rangeAt (dSrc raw) (dSrcSpool raw) pos
def dstAt (raw pos : Nat) : Nat := rangeAt (dDst raw) (dDstSpool raw) pos

/-- Bytes from address a to the end of its line, or of its request in space 1: at most 512, and none across 4 KiB (R365). -/
def reach (host : Bool) (a : Nat) : Nat := if host then min 512 (4096 - a % 4096) else 64 - a % 64

/-- Length of the unit, and of the source read, that begins at byte `pos` of a transfer. -/
def unitLen (raw pos : Nat) : Nat :=
  if dOp raw = 3 then dAtomBytes raw else min (descBytes raw - pos) (reach (dDstHost raw) (dstAt raw pos))
def readLen (raw pos : Nat) : Nat := min (descBytes raw - pos) (reach (dSrcHost raw) (srcAt raw pos))

/-- Grants that the unit at `pos` takes: one for every 64 B of a space 1 request (R379). -/
def unitGrants (raw pos : Nat) : Nat := if dOp raw != 3 && dDstHost raw then ceilDiv (unitLen raw pos) 64 else 1

/-! ### Answers to the engine -/

/-- The engine answers for an access that could not be issued: an error (R374). -/
def engineRefuses (port tag : Nat) (m : Mach) : Mach := { m with answers := m.answers ++ [⟨port, tag, 2, 0⟩] }

/-- A new tag. -/
def newTag (m : Mach) : Nat × Mach := (ownTagBase + m.free, { m with free := m.free + 1 })

/-! ### Reads (R367, R372) -/

/-- Read `len` bytes of host memory at an offset of the aperture, through the USP function of the slice's port (R363). -/
def hostRead (c : Nat) (d : NDesc) (tag off len : Nat) (m : Mach) : Mach :=
  match hostPort m d.slice with
  | none => engineRefuses (256 + c) tag m
  | some p =>
    openTxn ⟨256 + c, tag, true, true, p, none, 0, d.slice, d.gen, d.base + off, len, 0, 0, 1, none, 0⟩
      (sendOn p 0 (.hostRead p tag (d.base + off) len) m)

/-- Issue the source read that begins at byte `pos`. A line that the transfer has read, as the two ends of a spool may share one, is
not read again. -/
def issueRead (c : Nat) (d : NDesc) (r : NRun) (m : Mach) : NRun × Mach :=
  let a := srcAt d.raw r.rpos
  let n := readLen d.raw r.rpos
  let go := fun (x : NRead) => { r with reads := r.reads ++ [x], rpos := r.rpos + n }
  if dSrcHost d.raw then
    let (t, m) := newTag m
    (go ⟨r.rpos, n, t, a, 0, none, 0⟩, hostRead c d t a n m)
  else
    match r.reads.find? fun x => x.addr == a / 64 * 64 with
    | some x => (go { x with pos := r.rpos, len := n, at_ := a % 64 }, m)
    | none =>
      let (t, m) := newTag m
      let x : NRead := ⟨r.rpos, n, t, a / 64 * 64, a % 64, none, 0⟩
      match engineIssue (.needle c) (256 + c) d.slice 0 t (a / 64 * 64) 0 (2 ^ 64 - 1) false false m with
      | (true, m) => (go x, m)
      | (false, m) => (go x, engineRefuses (256 + c) t m)

/-- Issue source reads up to byte `stop`. -/
def issueReads (c : Nat) (d : NDesc) (stop : Nat) : Nat → NRun → Mach → NRun × Mach
  | 0, r, m => (r, m)
  | n + 1, r, m =>
    if dOp d.raw != 1 || stop ≤ r.rpos then (r, m)
    else
      let (r, m) := issueRead c d r m
      issueReads c d stop n r m

/-! ### Grants (R369, R379) -/

/-- Units of a channel, and of the engine, between first read and write completion. -/
def chanUnits (x : Channel) : Nat := x.run.units + x.ahead.units + (x.before.map (·.2.units)).sum
def engineUnits (m : Mach) : Nat := (m.chans.map fun e => chanUnits e.2).sum

/-- The unit at `pos` of a descriptor can be held. -/
def unitFits (m : Mach) (x : Channel) (d : NDesc) (r : NRun) : Bool :=
  let n := unitGrants d.raw r.granted
  chanUnits x + n ≤ d.outMax && engineUnits m + n ≤ 8192

/-- The lines of the unit at `pos` may be read ahead: each lies in a window marked prefetchable (R369). -/
def mayReadAhead (m : Mach) (raw pos : Nat) : Bool :=
  let line := fun (k : Nat) => (findWindow m (srcAt raw k)).any fun w => m.on (Win.W_PREFETCH w)
  let n := unitLen raw pos
  (List.range (ceilDiv n 64 + 1)).all fun k => line (pos + min (64 * k) (n - 1))

/-- What a grant to channel c serves: the moving descriptor, or the next one, read ahead. -/
inductive NWork | none | moving | ahead
  deriving DecidableEq, Repr

def chanWork (m : Mach) (x : Channel) : NWork :=
  match x.moving with
  | .none => .none
  | some d =>
    if x.run.fail.isSome then .none
    else if x.run.granted < descBytes d.raw then (if unitFits m x d x.run then .moving else .none)
    else
      match x.next with
      | .none => .none
      | some e =>
        let k := e.raw
        if e.verdict = some none && dOp k = 1 && bitAt k 6 && !dFence k && !dSrcHost k && x.ahead.granted < descBytes k &&
           unitFits m x e x.ahead && mayReadAhead m k x.ahead.granted
        then .ahead else .none

/-- One grant to a run: its unit is whole with the last one, and issues the source reads that it needs. -/
def grantRun (c : Nat) (d : NDesc) (r : NRun) (m : Mach) : NRun × Mach :=
  let need := unitGrants d.raw r.granted
  if r.part + 1 < need then ({ r with part := r.part + 1 }, m)
  else
    let stop := r.granted + unitLen d.raw r.granted
    let (r, m) := issueReads c d stop 16 r m
    ({ r with part := 0, granted := stop, units := r.units + need }, m)

/-- One grant to channel c. -/
def grantChan (c : Nat) (m : Mach) : Mach :=
  let x := m.chan c
  match chanWork m x, x.moving, x.next with
  | .moving, some d, _ =>
    let (r, m) := grantRun c d x.run m
    m.updChan c fun x => { x with run := r }
  | .ahead, _, some d =>
    let (r, m) := grantRun c d x.ahead m
    m.updChan c fun x => { x with ahead := r }
  | _, _, _ => m

/-- The engine's arbiter grants n units (R351, R379). -/
def grantUnits : Nat → Mach → Mach
  | 0, m => m
  | n + 1, m =>
    let ready := (m.chans.filter fun e => chanWork m e.2 != .none).map (·.1)
    match arbitrate m 9 (ready.map fun c => (c, m.now.stitch)) with
    | none => m
    | some w => grantUnits n (debitBobbinOf 9 w.1 1 (grantChan w.1 m))

/-! ### Writes (R367, R368, R370, R374) -/

/-- The source read that serves byte `pos`. -/
def readFor (r : NRun) (pos : Nat) : Option NRead := r.reads.find? fun x => x.pos ≤ pos && pos < x.pos + x.len

/-- The data of the unit from `pos` on, `len` bytes: the funnel's, or the pattern's (R367, R368). -/
def unitData (d : NDesc) (r : NRun) (pos : Nat) : Nat → Nat
  | 0 => 0
  | n + 1 =>
    let b := if dOp d.raw = 2 then byteAt (getBits d.raw 192 64) (dstAt d.raw pos % 8)
      else match readFor r pos with
        | some x => byteAt (x.data.getD 0) (x.at_ + (pos - x.pos))
        | none => 0
    b + 256 * unitData d r (pos + 1) n

/-- The reads that serve the unit from `pos` on, `len` bytes. -/
def unitReads (r : NRun) (pos len : Nat) : List NRead := r.reads.filter fun x => x.pos < pos + len && pos < x.pos + x.len

/-- An atomic of channel c goes to its window's site (R263 to R266, R370). Both values of OPERAND lie at fixed places (log entry 151). -/
def issueAtomic (c : Nat) (d : NDesc) (tag : Nat) (m : Mach) : Bool × Mach :=
  let k := d.raw
  let a := dDst k
  let n := dAtomBytes k
  let cas := dAtomCode k = 2
  let low := getBits k 192 (8 * n)
  let op := if cas then getBits k 320 (8 * n) else low
  let cmp := if cas then low else 0
  match findWindow m a with
  | none => (false, m)
  | some w =>
    let home := m.rd (Win.W_ATOMIC_SITE w) = 0
    let txn := fun (e : Nat) (ld : Option Nat) => (⟨256 + c, tag, false, true, e, ld, 0, d.slice, d.gen, a, n, 0, 0, 1, none, 0⟩ : Txn)
    let forward := fun (e : Nat) (ld : Option Nat) (b : Nat) =>
      (true, openTxn (txn e ld) (sendOn e 0 (.forward (256 + c) tag e ld (24 + dAtomCode k) b n
        (if cas then cmp + op * 2 ^ (8 * n) else op) (2 ^ n - 1) false) m))
    if winTracked m w || home then
      if !actsHome m w then
        (match peerSeam m (placeOfAddr m a).c with
         | some z => if peerRefused m then (false, m) else forward (65 + z) none a
         | none => (false, m))
      else if !sliceRuns m (placeOfAddr m a).c || memberOff m w a then (false, m)
      else
        (true, sendLine (if home then 7 else 8)
          ⟨a, .needle c, 256 + c, tag, d.slice, 0, .noOp, true, 0, 0, false, none, 0, dAtomCode k, n, op, cmp⟩ (openTxn (txn 255 none) m))
    else if memberOff m w a then (false, m)
    else
      match resolve m (winTarget m w (memberOf m w a)) with
      | .port p ld => forward p ld (deviceAddr m w a)
      | .seam z => forward (65 + z) none a
      | .peer => (false, m)
      | .none => (false, m)

/-- The run fails (R374): the first failing byte and its ERR stand. -/
def NRun.failAt (r : NRun) (err pos : Nat) : NRun :=
  match r.fail with
  | none => { r with fail := some (err, pos) }
  | some (e, p) => if pos < p then { r with fail := some (err, pos) } else { r with fail := some (e, p) }

/-- The unit at the front of a run is written. In space 1 the write is posted, and a poisoned unit is nullified: not written. -/
def writeUnit (c : Nat) (d : NDesc) (r : NRun) (m : Mach) : NRun × Mach :=
  let pos := r.wpos
  let n := unitLen d.raw pos
  let a := dstAt d.raw pos
  let bad := (unitReads r pos n).filter (·.bad != 0)
  let first := bad.foldl (fun b x => min b (max x.pos pos)) (pos + n)
  let past := { r with wpos := pos + n, reads := r.reads.filter fun x => x.pos = 0 || pos + n < x.pos + x.len }
  if bad.any (·.bad == 2) then (r.failAt 5 first, m)
  else if dOp d.raw = 3 then
    let (t, m) := newTag m
    let past := { past with writes := past.writes ++ [⟨t, pos, a / 64 * 64⟩] }
    match issueAtomic c d t m with
    | (true, m) => (past, m)
    | (false, m) => (past, engineRefuses (256 + c) t m)
  else
    let v := unitData d r pos n
    let past := if bad.isEmpty then past else past.failAt 4 first
    if dDstHost d.raw then
      let done := { past with units := past.units - unitGrants d.raw pos }
      match hostPort m d.slice with
      | none => (r.failAt 5 pos, m)
      | some p => (done, if bad.isEmpty then sendOn p 0 (.hostWrite p (d.base + a) n v) m else m)
    else
      let (t, m) := newTag m
      let past := { past with writes := past.writes ++ [⟨t, pos, a / 64 * 64⟩] }
      match engineIssue (.needle c) (256 + c) d.slice 0 t (a / 64 * 64) (v * 2 ^ (8 * (a % 64))) ((2 ^ n - 1) * 2 ^ (a % 64)) true
          (!bad.isEmpty) m with
      | (true, m) => (past, m)
      | (false, m) => (past, engineRefuses (256 + c) t m)

/-- The unit at the front of the moving run can be written: it is granted, its source is here, and no write to its line is
outstanding on the channel (R362). -/
def writeReady (x : Channel) (d : NDesc) : Bool :=
  let r := x.run
  let n := unitLen d.raw r.wpos
  let line := dstAt d.raw r.wpos / 64 * 64
  r.fail.isNone && r.wpos < r.granted && (unitReads r r.wpos n).all (·.data.isSome) &&
  (dOp d.raw != 1 || r.wpos + n ≤ r.rpos) &&
  (dDstHost d.raw || !(r.writes ++ x.before.flatMap (·.2.writes)).any (·.addr == line))

/-- Write the units of channel c that can be written. -/
def writeUnits (c : Nat) : Nat → Mach → Mach
  | 0, m => m
  | n + 1, m =>
    let x := m.chan c
    match x.moving with
    | none => m
    | some d =>
      if writeReady x d then
        let (r, m) := writeUnit c d x.run m
        writeUnits c n (m.updChan c fun x => { x with run := r })
      else m

/-- The last write to space 1 is followed by a read of the word that holds its last byte (R372). -/
def flushHost (c : Nat) (d : NDesc) (r : NRun) (m : Mach) : NRun × Mach :=
  let n := descBytes d.raw
  if n = 0 || dOp d.raw = 3 || !dDstHost d.raw || r.wpos != n || r.fail.isSome || r.flush.isSome then (r, m)
  else
    let (t, m) := newTag m
    ({ r with flush := some t }, hostRead c d t (dstAt d.raw (n - 1) / 4 * 4) 4 m)

/-! ### What comes back (R371, R372, R374) -/

/-- An answer for a run: a source read, the completion of a write, an atomic's old value, or the read behind the last write. -/
def NRun.take (d : NDesc) (y : NIn) (r : NRun) : NRun :=
  let r :=
    match r.reads.find? fun x => x.tag == y.tag && x.data.isNone with
    | none => r
    | some x =>
      let r := { r with reads := r.reads.map fun z => if z.tag = y.tag then { z with data := some y.data, bad := y.bad } else z }
      if y.bad = 2 then r.failAt 5 x.pos else r
  let r :=
    match r.writes.find? fun x => x.tag == y.tag with
    | none => r
    | some x =>
      let r := { r with writes := r.writes.erase x, units := r.units - 1, result := if dOp d.raw = 3 then y.data else r.result }
      if y.bad = 0 then r else r.failAt (if dOp d.raw = 3 && y.bad = 1 then 4 else 5) x.pos
  if r.flush = some y.tag && !r.flushed then
    let r := { r with flushed := true }
    if y.bad = 0 then r else r.failAt 5 (descBytes d.raw)
  else r

/-- The engine takes an answer. One that no run waits for is stale, or late. -/
def takeAnswer (y : NIn) (m : Mach) : Mach :=
  m.updChan (y.port - 256) fun x => { x with
    run := match x.moving with
      | some d => x.run.take d y
      | none => x.run
    ahead := match x.next with
      | some d => x.ahead.take d y
      | none => x.ahead
    before := x.before.map fun e => (e.1, e.2.take e.1 y) }

/-- How a descriptor ends now, if it does: an ERR with the bytes before the first failing one, or well (R371, R372, R374). -/
def runEnds (d : NDesc) (r : NRun) : Option (Option (Nat × Nat)) :=
  match r.fail with
  | some e => if r.open.isEmpty then some (some e) else none
  | none =>
    if r.wpos = descBytes d.raw && r.writes.isEmpty && (r.wpos = 0 || dOp d.raw = 3 || !dDstHost d.raw || r.flushed) then some none else none

/-- Descriptors of channel c end in ring order, and the next ones start (R362, R380). -/
def endRuns (c : Nat) : Nat → Mach → Mach
  | 0, m => m
  | n + 1, m =>
    match (m.chan c).oldest with
    | none => startNext c m
    | some (d, r) =>
      match runEnds d r with
      | none => startNext c m
      | some none => endRuns c n (startNext c (descEndDone c d r.result m))
      | some (some (err, pos)) => endRuns c n (startNext c (descEndFail c d err pos true m))

/-- A word of the funnel's buffer could not be corrected: bytes that channel c has read count as failed (R379). -/
def spoilFunnel (c : Nat) (m : Mach) : Mach :=
  let hit := fun (r : NRun) => match r.reads.find? fun x => x.data.isSome && r.wpos < x.pos + x.len with
    | some x => { r with reads := r.reads.map fun z => if z.tag = x.tag then { z with bad := max z.bad 1 } else z }
    | none => r
  funnelUncorr c (if (m.chan c).moving.isSome then m.updChan c fun x => { x with run := hit x.run } else m)

/-- Channel c after its grants: writes, and the read behind the last one. -/
def chanWrites (c : Nat) (m : Mach) : Mach :=
  let m := writeUnits c 4096 m
  let x := m.chan c
  match x.moving with
  | none => m
  | some d =>
    let (r, m) := flushHost c d x.run m
    m.updChan c fun x => { x with run := r }

/-- The needle engine in a stitch, in the order of R380: what has come back, ends and starts, then grants and writes. -/
def needleStitch (m : Mach) : Mach :=
  if m.chans.isEmpty && m.answers.isEmpty then m
  else
    let l := m.answers
    let m := forAll l takeAnswer { m with answers := [] }
    if !m.powered 62 then m
    else
      let cs := m.chans.map (·.1)
      let m := forAll cs (fun c m => endRuns c 3 m) m
      let m := forAll cs chanWrites (grantUnits 64 m)
      forAll cs (fun c m => chStopDone c m) m

end Sys2Proof.Machine
end

