-- ==== Sys2Proof/Machine/NocFlow.lean ====
section
/-! DEFINITION. The on-chip network at work (chapter 7): injection, the links of the routers, delivery, the order in which slices take
what has arrived, alarms and buffer errors. -/

namespace Sys2Proof.Machine

/-! ### Events (R12, R191, R210) -/

/-- The place of router r: a quadrant router lies in its quadrant, a hub router at package level (R191). -/
def routerCtx (r : Nat) : Ctx :=
  if r < 4 then { noCtx with level := 4, kind := 8, unit := r, quad := r } else { noCtx with level := 4, kind := 8, unit := r }

/-- The place of a message: its router, or the endpoint whose ejection buffer holds it. -/
def nocCtx (x : NocMsg) (ejected : Bool) : Ctx :=
  match x.place with
  | .mid r _ => if ejected then { routerCtx (routerOf x.dst) with initKind := 4, initId := x.dst } else routerCtx r
  | .source => { routerCtx (routerOf x.dst) with initKind := 4, initId := x.dst }

/-- A message reaches AGE_ALARM (R204). -/
def stuck (x : NocMsg) (ejected : Bool) (m : Mach) : Mach :=
  raiseEv 1514 { nocCtx x ejected with slice := x.slice, detail := x.tag, flags := 4 } (m.bump Noc.STUCK 1)

/-- The message has reached AGE_ALARM and is not yet counted. -/
def alarmDue (m : Mach) (x : NocMsg) : Bool := !x.alarmed && m.rd Noc.AGE_ALARM ≤ nocAge x m.now.stitch

/-- The alarm of the message with a number, where it is in a router or an ejection buffer and has reached AGE_ALARM (R204). -/
def nocAgeAlarm (id : Nat) (m : Mach) : Mach :=
  let due := fun (x : NocMsg) => x.id == id && alarmDue m x
  match m.noc.msgs.find? fun x => due x && x.place != .source with
  | some x =>
    stuck x false (m.updNoc fun n => { n with msgs := n.msgs.map fun y => if y.id = id then { y with alarmed := true } else y })
  | none =>
    match m.noc.arrived.find? fun y => due y.msg with
    | some y =>
      stuck y.msg true (m.updNoc fun n => { n with
        arrived := n.arrived.map fun z => if z.msg.id = id then { z with msg := { z.msg with alarmed := true } } else z })
    | none => m

/-- Every message that has reached AGE_ALARM. -/
def nocAlarms (m : Mach) : Mach := forAll (m.noc.msgs.map (·.id) ++ m.noc.arrived.map (·.msg.id)) nocAgeAlarm m

/-- Errors of the buffers of router r (R206), which has power. -/
def nocCorr (r : Nat) (m : Mach) : Mach :=
  if m.powered (routerDomain r) then raiseEv 1512 (routerCtx r) (m.bump Noc.ECC_CORR 1) else m

/-- A message with a number that router r holds. -/
def heldIn (m : Mach) (r id : Nat) : Option NocMsg :=
  m.noc.msgs.find? fun x => x.id == id && (match x.place with
    | .mid s _ => s == r
    | .source => false)

/-- An uncorrectable word in its header: the message is gone. -/
def nocHeader (r id : Nat) (m : Mach) : Mach :=
  match heldIn m r id with
  | none => m
  | some x =>
    let m := m.updNoc fun n => { n with
      msgs := n.msgs.filter (·.id != id)
      freed := match x.buf with
        | some b => Tab.upd 0 n.freed (b * 8 + x.vn) (· + x.flits)
        | none => n.freed }
    raiseEv 1513 { routerCtx r with slice := x.slice } (m.bump Noc.ECC_UNCORR 1)

/-- An uncorrectable word in its body: FAILED is set in its swatch, or it is marked failed. -/
def nocBody (r id : Nat) (m : Mach) : Mach :=
  match heldIn m r id with
  | none => m
  | some _ =>
    let spoil := fun (x : NocMsg) => if x.swatch.isSome then { x with swatch := x.swatch.map fun b => setBit b 539 true } else { x with failed := true }
    (m.updNoc fun n => { n with msgs := n.msgs.map fun x => if x.id = id then spoil x else x }).bump Noc.ECC_UNCORR 1

/-- A credit return beyond the size of a buffer of router r. -/
def nocCredit (r : Nat) (m : Mach) : Mach := if m.powered (routerDomain r) then raiseEv 1515 (routerCtx r) m else m

/-! ### Injection and delivery (R193, R202, R207) -/

/-- STAMP and AGED of a header. -/
def NocMsg.stamped (x : NocMsg) (stitch : Nat) : NocMsg := { x with header := setBits x.header 16 16 stitch }
def NocMsg.withAged (x : NocMsg) : NocMsg := { x with header := setBit x.header 3 true }

/-- A message is injected: its source counts it, and its header gets the stitch. The mirror taps are no endpoints, and count nothing. -/
def injected (x : NocMsg) (m : Mach) : NocMsg × Mach :=
  (x.stamped m.now.stitch, if x.src < 32 then (m.bump (NocStat.MSGS x.src) 1).bump (NocStat.FLITS x.src) x.flits else m)

/-- A message is delivered into the ejection buffer of its endpoint, and can be taken from stitch n on; its source counts it. -/
def delivered (x : NocMsg) (n : Nat) (m : Mach) : Mach :=
  let age := nocAge x m.now.stitch
  let m := if x.src < 32 then
      let m := m.bump (NocStat.LAT_SUM x.src) age
      let m := m.wr (NocStat.LAT_MAX x.src) (max (m.rd (NocStat.LAT_MAX x.src)) age)
      if urgency m x m.now.stitch = 3 then m.bump (NocStat.URG3 x.src) 1 else m
    else m
  m.updNoc fun k => { k with arrived := k.arrived ++ [⟨x, n⟩] }

/-! ### Links (R192, R198, R203) -/

/-- The buffer, and the network, behind whose other messages a message waits. -/
def NocMsg.lane (x : NocMsg) : Nat × Nat × Nat :=
  match x.place with
  | .source => (0, x.src, x.vn)
  | .mid r i => (1, inputBuf r i, x.vn)

/-- The messages at the heads of their buffers; each buffer is first in, first out (R195). -/
def nocHeads (l : List NocMsg) : List NocMsg := l.filter fun x => (l.find? fun y => y.lane == x.lane) == some x

/-- Order of the networks at an output link (R203): data, response, snoop, request, MM, MF. -/
def netRank (v : Nat) : Nat := [3, 2, 1, 0, 5, 4].getD v 6

/-- Number of an input of a router in the order of R197, and the number of inputs: the port engines or the other routers in ascending
order, then the mirror tap or the local endpoints. -/
def inputRank (r i : Nat) : Nat :=
  if r < 4 then (if i < 32 then i % 4 else if i = 40 then 4 else 5 + (i - 36))
  else if 32 ≤ i then (if i < 36 then i - 32 else if i < 32 + r then i - 32 else i - 33)
  else if i < 20 then 7 else if i < 24 then 8 else if i < 28 then 9 else 10
def inputCount (r : Nat) : Nat := if r < 4 then 9 else 11

/-- The rank of a message for an output link in core cycle t: urgency, network, place after the rotating pointer (R203). -/
def linkRank (m : Mach) (t : Nat) (x : NocMsg) : Nat :=
  let place := match x.place with
    | .mid r i => (inputRank r i + inputCount r - t % inputCount r) % inputCount r
    | .source => 0
  (3 - urgency m x m.now.stitch) * 1024 + netRank x.vn * 64 + place

/-- The first of a list by a rank. -/
def firstBy (f : NocMsg → Nat) : List NocMsg → Option NocMsg
  | [] => none
  | x :: xs =>
    match firstBy f xs with
    | none => some x
    | some y => if f x ≤ f y then some x else some y

/-- The message that a link takes next: the injection arbiter chooses at a source, urgency in a router (R203, R351). -/
def linkChoice (m : Mach) (t : Nat) (l : List NocMsg) : Option NocMsg :=
  match l.find? (·.place == .source) with
  | none => firstBy (linkRank m t) l
  | some _ => (arbitrate m 6 (l.map fun x => (x.vn, x.since))).bind fun w => l.find? (·.vn == w.1)

/-- A message crosses a link in core cycle t: one cycle for the link, and two for a router behind it. -/
def crossLink (t : Nat) (x : NocMsg) (m : Mach) : Mach :=
  let m := m.updNoc fun n => { n with
    msgs := n.msgs.filter (·.id != x.id)
    freed := match x.buf with
      | some b => Tab.upd 0 n.freed (b * 8 + x.vn) (· + x.flits)
      | none => n.freed }
  let enter := fun (r i : Nat) (x : NocMsg) (m : Mach) =>
    let x := { x with place := .mid r i, ready := t + 3 }
    let x := if urgency m x m.now.stitch = 3 then x.withAged else x
    m.updNoc fun n => { n with msgs := n.msgs ++ [x] }
  match x.place with
  | .source =>
    let (x, m) := injected x m
    enter (routerOf x.src) (inputOf x.src) x (if x.src < 32 then debitBobbinOf 6 x.vn x.flits m else m)
  | .mid r _ =>
    match nocRoute r x.dst with
    | none => delivered x ((t + 1) / 16 + 1) m
    | some s => enter s (32 + r) x m

/-- The flit positions of one link in core cycle t (R203): k are left. -/
def fillLink (t link : Nat) : Nat → Nat → Mach → Mach
  | 0, _, m => m
  | n + 1, k, m =>
    let fit := (nocHeads m.noc.msgs).filter fun x => x.nextBuf == link && x.ready ≤ t && x.flits ≤ k && nocFits m x
    match linkChoice m t fit with
    | none => m
    | some x => fillLink t link n (k - x.flits) (crossLink t x m)

/-- One core cycle: every link that a message waits for moves up to four flits. -/
def nocCycle (t : Nat) (m : Mach) : Mach :=
  let links := ((m.noc.msgs.filter fun x => x.ready ≤ t).map (·.nextBuf)).eraseDups
  forAll links (fun b m => fillLink t b 4 4 m) m

/-- Sources whose messages found no credit in this stitch (R207). -/
def injectWaits (m : Mach) : Mach :=
  let dry := ((nocHeads m.noc.msgs).filter fun x => x.place == .source && x.src < 32 && !nocFits m x).map (·.src)
  forAll dry.eraseDups (fun e m => m.bump (NocStat.INJ_WAIT e) 1) m

/-- Messages in a router that reach urgency 3 are marked (R202). -/
def markAged (m : Mach) : Mach :=
  m.updNoc fun n => { n with msgs := n.msgs.map fun x =>
    if x.place != .source && urgency m x m.now.stitch = 3 then x.withAged else x }

/-- The network in one stitch: sixteen core cycles, with the credits that it began with; what the stitch frees returns with its end
(R16). -/
def nocStitch (m : Mach) : Mach :=
  if m.noc.msgs.isEmpty then (if m.noc.freed.isEmpty then m else m.updNoc fun n => { n with freed := [] })
  else
    let m := forAll (List.range 16) (fun k m => nocCycle (16 * m.now.stitch + k) m) (markAged m)
    (injectWaits (nocAlarms m)).updNoc fun n => { n with freed := [] }

/-! ### What endpoints do with what they are sent -/

/-- Take a message out of its ejection buffer. -/
def takeOut (x : NocMsg) (m : Mach) : Mach :=
  m.updNoc fun n => { n with
    arrived := n.arrived.filter fun y => y.msg.id != x.id
    freed := Tab.upd 0 n.freed (ejectBuf x.dst * 8 + x.vn) (· + x.flits) }

/-- A controller of the home line cache takes a message (R254). -/
def controllerTake (kind : Nat) (h : HlcMsg) (m : Mach) : Mach :=
  match kind with
  | 0 => controllerRead h m
  | 1 => controllerWrite h m
  | 2 => controllerAtom h m
  | 3 | 4 => controllerRecall h m
  | _ => controllerFill h m

/-- The requester of a port is one of this switch: a host, a window access, or a needle channel. -/
def ownRequester (port : Nat) : Bool := port < 64 || port = ownPort || 256 ≤ port

/-- An endpoint other than a slice takes a message. One whose single flit is damaged is not acted on; damaged data is failed (R206). -/
def endpointTake (x : NocMsg) (m : Mach) : Mach :=
  if x.failed then m
  else
    let good := x.good
    match x.body with
    | .slice _ => m
    | .home k h => controllerTake k { h with failed := h.failed || !good } m
    | .nak port tag rsv k q n => if ownRequester port then nakTaken port tag rsv n (some (k, q)) m else m
    | .go port tag => if ownRequester port then goArrives (some port) tag m else m
    | .release port tag => releaseNotice port tag m
    | .notice port tag bad data => answerTo port tag (if bad || !good then 2 else 0) data (.coherent port tag 6 data bad) m
    | .snoopNotice _ => m
    | .capture e source stitch =>
      (match Tab.get none m.col.waits e with
       | some w => if w.source = source && w.stitch = stitch then captureContext e m else m
       | none => m)
    | .mirror i record last => if last then mirrorStore i record m else m
    | .window k write need tag addr data be =>
      if x.slice != 0 && x.gen != m.rd (Slc.SLC_GEN x.slice) then mwFail k tag addr (m.bump (Slc.SLC_DISCARD x.slice) 1)
      else if !good then mwFail k tag addr m
      else mwIssue k write need tag addr data be m
    | .answer tag bad data => mwDone tag (bad || !good) data m

/-- A request of an earlier generation of its slice (R321). What an agent gives back, and what answers the slice, is taken in any
case. -/
def staleRequest (m : Mach) (x : NocMsg) : Bool :=
  x.slice != 0 && x.gen != m.rd (Slc.SLC_GEN x.slice) &&
  (match x.body with
   | .slice (.rds _) | .slice (.rda _) | .slice (.rdi _) | .slice (.inva _) | .slice (.atomHome _) | .slice (.atomMem _) => true
   | .slice (.write q) => !isWb m (placeOfAddr m q.addr) (q.addr / 64 % 4) q
   | _ => false)

/-- A message whose data is damaged carries it as failed (R31, R206). -/
def asFailed : CohMsg → CohMsg
  | .write q => .write { q with poison := true }
  | .cmpn c s l t _ d => .cmpn c s l t true d
  | .hdata c s l d _ => .hdata c s l d true
  | x => x

/-- A slice takes a message of the network. -/
def sliceTakeMsg (x : NocMsg) (m : Mach) : Mach :=
  match x.body with
  | .slice y =>
    if staleRequest m x then
      (match y with
       | .write q => streamTaken q (m.bump (Slc.SLC_DISCARD x.slice) 1)
       | _ => m.bump (Slc.SLC_DISCARD x.slice) 1)
    else if x.failed then m
    else if x.good then cohTake y m
    else
      match y with
      | .atomHome q | .atomMem q => atomLost (msgSlice m y) q m
      | _ => cohTake (asFailed y) m
  | _ => m

/-! ### The order in which a slice takes messages (R221, R244) -/

/-- The request heads its slot's queue, and holds GO (R238). -/
def holdsGo (m : Mach) (q : CohReq) : Bool :=
  match Tab.get [] m.coh.rsv (slotKey (placeOfAddr m q.addr)) with
  | r :: _ => r.go && r.tag == q.tag && r.port == q.port
  | [] => false

/-- The step of R244 at which a message is taken. The answers of the controllers serve as CmpN (R254). -/
def takeStep (m : Mach) : CohMsg → Nat
  | .cmpn _ _ _ _ _ _ | .hdata _ _ _ _ _ | .hcmp _ _ _ _ => 1
  | .birsp _ => 2
  | .wbTimeout _ _ _ => 4
  | .write q => if isWb m (placeOfAddr m q.addr) (q.addr / 64 % 4) q then 3 else if holdsGo m q then 5 else 6
  | .rds q | .rda q | .rdi q | .inva q | .atomHome q | .atomMem q => if holdsGo m q then 5 else 6
  | .clnEv _ | .conflict _ => 6

/-- The requester number of an endpoint at a slice's input arbiter (R351). -/
def inputRequester (src : Nat) : Nat := if src < 16 then src else if src = 31 then 16 else 17

/-- What waits in the ejection buffer of slice c and can be taken in this stitch. -/
def sliceWaiting (m : Mach) (c : Nat) : List NocIn :=
  m.noc.arrived.filter fun y => y.msg.dst == sliceEnd c && y.at_ ≤ m.now.stitch

/-- The step at which a delivered message is taken. -/
def NocIn.step (m : Mach) (y : NocIn) : Nat :=
  match y.msg.body with
  | .slice x => takeStep m x
  | _ => 6

/-- The next message of the first step, up to `last`, that has any; of a step, those of an earlier stitch come first, and at the last
step the input arbiter chooses (R221, R244). -/
def sliceNext (m : Mach) (c last : Nat) : Option NocIn :=
  let l := sliceWaiting m c
  match firstBelow (last + 1) fun k => l.any fun y => y.step m == k with
  | none => none
  | some k =>
    let l := l.filter fun y => y.step m == k
    let first := l.foldl (fun n y => min n y.at_) m.now.stitch
    let l := l.filter fun y => y.at_ == first
    if k < 6 then l.head?
    else (arbitrate m c (l.map fun y => (inputRequester y.msg.src, y.at_))).bind fun w =>
      l.find? fun y => inputRequester y.msg.src == w.1

/-- Slice c takes messages of the steps up to `last`, while its directory can be read (R221). -/
def sliceTakes (c last : Nat) : Nat → Mach → Mach
  | 0, m => m
  | n + 1, m =>
    if 160 ≤ Tab.get 0 m.coh.busy c then m
    else
      match sliceNext m c last with
      | none => m
      | some y =>
        let m := takeOut y.msg m
        let m := if y.step m = 6 then debitBobbinOf c (inputRequester y.msg.src) 1 m else m
        sliceTakes c last n (sliceTakeMsg y.msg m)

/-- The timers of slice c that have expired (R232, R233, R239). -/
def sliceTimers (c : Nat) (m : Mach) : Mach :=
  let due := m.coh.tlt.flatMap fun t => if t.c != c then [] else
    ((List.range 4).filter fun j => (m.tline t.place j).st == .w && (m.tline t.place j).due ≤ m.now.stitch).map fun j => (sectorOf m t.place, j)
  let m := forAll due (fun x m => cohTake (.wbTimeout c x.1 x.2) m) m
  let m := forAll (m.coh.snoops.filter fun s => s.sent && s.c == c && s.due ≤ m.now.stitch) (fun s m => snoopTimeout s.bitag m) m
  let late := (m.coh.rsv.filter fun e => e.1 / 2 ^ 24 == c && (match e.2 with
    | r :: _ => r.go && r.due ≤ m.now.stitch
    | [] => false)).map (·.1)
  forAll late (fun k m => rsvLapse c (k % 2 ^ 24) m) m

/-- Slice c in one stitch (R244). -/
def sliceStitch (c : Nat) (m : Mach) : Mach :=
  let n := (sliceWaiting m c).length
  let m := sliceTakes c 3 n m
  if (sliceNext m c 3).isSome then m else sliceTakes c 6 n (sliceTimers c m)

/-- What the network delivered before this stitch is taken: by the other endpoints in its order of arrival, and by each slice in the
order of R244. -/
def nocTaken (m : Mach) : Mach :=
  let due := m.noc.arrived.filter fun y => y.at_ ≤ m.now.stitch && !(16 ≤ y.msg.dst && y.msg.dst < 20)
  let m := forAll due (fun y m => endpointTake y.msg (takeOut y.msg m)) m
  forAll (List.range 4) sliceStitch m

/-! ### Messages that a command names (R200, R222, R254) -/

/-- A message with a number ends its way now. -/
def deliverNow (x : NocMsg) (m : Mach) : Mach :=
  let m := m.updNoc fun n => { n with
    msgs := n.msgs.filter (·.id != x.id)
    freed := match x.buf with
      | some b => Tab.upd 0 n.freed (b * 8 + x.vn) (· + x.flits)
      | none => n.freed }
  let (x, m) := if x.place = .source then injected x m else (x, m)
  delivered x m.now.stitch m

/-- Take what was delivered for an endpoint that is no slice. -/
def takeNow (x : NocMsg) (m : Mach) : Mach :=
  if 16 ≤ x.dst && x.dst < 20 then m else endpointTake x (takeOut x m)

/-- The first message on its way, or waiting, whose body satisfies a test: those before it from its source to its endpoint on its
network have arrived (R195), and it is taken out. -/
def nocClaim (test : NocBody → Bool) (m : Mach) : Option NocMsg × Mach :=
  match m.noc.arrived.find? fun y => test y.msg.body with
  | some y => (some y.msg, takeOut y.msg m)
  | none =>
    match m.noc.msgs.find? fun x => test x.body with
    | none => (none, m)
    | some x =>
      let first := m.noc.msgs.filter fun y => y.id < x.id && y.src == x.src && y.dst == x.dst && y.vn == x.vn
      let m := forAll first (fun y m => takeNow y (deliverNow y m)) m
      (some x, takeOut x (deliverNow x m))

/-- The message that a command names arrives: one that was on its way does, and any other comes directly, counted at its source
(R207). -/
def rowArrives (src flits : Nat) (test : NocBody → Bool) (m : Mach) : Mach :=
  match nocClaim test m with
  | (some _, m) => m
  | (none, m) => nocSend src flits m

/-- The slice of the line of an open request with a tag. -/
def tagSlice (m : Mach) (tag : Nat) : Nat :=
  match m.edge.txns.find? (·.tag == tag) with
  | some t => sliceEnd (placeOfAddr m t.addr).c
  | none => sliceEnd 0

/-- A command brings a message to a requester or a port engine: the one that is on its way, or `f` tells what it says. -/
def requesterRow (tag : Nat) (test : NocBody → Bool) (f : Mach → Mach) (m : Mach) : Mach :=
  match nocClaim test m with
  | (some x, m) => endpointTake x m
  | (none, m) => f (nocSend (tagSlice m tag) 1 m)

/-- NAK, GO and RELEASE_NOTICE (R237, R238, R393). -/
def nakRow (tag : Nat) (rsv : Bool) (m : Mach) : Mach :=
  requesterRow tag (fun b => match b with
    | .nak _ t r _ _ _ => t == tag && r == rsv
    | _ => false) (fun m => nakTaken (nakPort m tag) tag rsv m.coh.backoff none m) m
def goRow (tag : Nat) (m : Mach) : Mach :=
  requesterRow tag (fun b => match b with
    | .go _ t => t == tag
    | _ => false) (goArrives none tag) m
def releaseRow (p tag : Nat) (m : Mach) : Mach :=
  requesterRow tag (fun b => match b with
    | .release q t => q == p && t == tag
    | _ => false) (releaseNotice p tag) m

/-- HRD, HWR, HATOM, HRECALL and FILL (R254), as a command tells them. -/
def homeRow (kind : Nat) (h : HlcMsg) (m : Mach) : Mach :=
  let src := if kind = 5 then
      (match m.coh.fwds.find? fun f => f.kind == 4 && f.addr / 64 == h.addr / 64 with
       | some f => endpointOf f.egress
       | none => 0)
    else sliceEnd (placeOfAddr m h.addr).c
  controllerTake kind h (rowArrives src (if kind = 1 || kind = 5 then 3 else 1) (fun b => match b with
    | .home k g => (k == kind || (kind == 3 && k == 4)) && g.addr / 64 == h.addr / 64
    | _ => false) m)

/-- CAPTURE_CONTEXT (R441). -/
def captureRow (e : Nat) (m : Mach) : Mach :=
  match Tab.get none m.col.waits e with
  | none => m
  | some w =>
    let m := match captureEnd w.source with
      | some s => rowArrives s 3 (fun b => match b with
          | .capture f j t => f == e && j == w.source && t == w.stitch
          | _ => false) m
      | none => { m with col := { m.col with near := m.col.near.filter (· != e) } }
    captureContext e m

/-- The same message for a slice. -/
def sameMsg (a b : CohMsg) : Bool :=
  let same := fun (x y : CohReq) => x.tag == y.tag && x.port == y.port && x.addr / 64 == y.addr / 64
  match a, b with
  | .rds x, .rds y | .rda x, .rda y | .rdi x, .rdi y | .inva x, .inva y | .clnEv x, .clnEv y | .write x, .write y
  | .conflict x, .conflict y | .atomHome x, .atomHome y | .atomMem x, .atomMem y => same x y
  | .birsp x, .birsp y => x.bitag == y.bitag && x.agent == y.agent
  | .cmpn c s l t _ _, .cmpn c' s' l' t' _ _ => c == c' && s == s' && l == l' && t == t'
  | .hdata c s l _ _, .hdata c' s' l' _ _ => c == c' && s == s' && l == l'
  | .hcmp c s l _, .hcmp c' s' l' _ => c == c' && s == s' && l == l'
  | _, _ => false

/-- The source of a message for a slice, and its flits. -/
def msgSource (m : Mach) : CohMsg → Nat × Nat
  | .write q => (endpointOf q.port, 3)
  | .atomHome q | .atomMem q => (endpointOf q.port, 3)
  | .rds q | .rda q | .rdi q | .inva q | .clnEv q | .conflict q => (endpointOf q.port, 1)
  | .birsp r => (endpointOf (agentRoute m (r.bitag / 1024 % 4) r.agent), 1)
  | .cmpn _ s l t _ _ =>
    ((match m.coh.fwds.find? fun f => f.tag == t && f.addr / 64 == 4 * s + l with
      | some f => endpointOf f.egress
      | none => 0), 1)
  | .wbTimeout _ _ _ => (0, 1)
  | .hdata _ s l _ _ => (ctrlEnd (hlcPlace m (s * 256 + 64 * l)).1, 3)
  | .hcmp _ s l _ => (ctrlEnd (hlcPlace m (s * 256 + 64 * l)).1, 1)

/-- The message of a command for a slice. -/
def rowMsg : Instr → Option CohMsg
  | .rds q => some (.rds q)
  | .rda q => some (.rda q)
  | .rdi q => some (.rdi q)
  | .inva q => some (.inva q)
  | .clnEv q => some (.clnEv q)
  | .wb q | .ncw q => some (.write q)
  | .birsp r => some (.birsp r)
  | .cmpn c s l t b d => some (.cmpn c s l t b d)
  | .biconflict q => some (.conflict q)
  | .hdata c s l d f => some (.hdata c s l d f)
  | .hcmp c s l o => some (.hcmp c s l o)
  | .atomicAtHome q => some (.atomHome q)
  | .atomicAtMemory q => some (.atomMem q)
  | _ => none

/-- The commands that wait for the running stitch. -/
def thisStitch : List Instr → List Instr
  | [] => []
  | .stitchStrobe _ :: _ => []
  | .lostStitch :: _ => []
  | i :: rest => i :: thisStitch rest

/-- A message for slice c, to be taken at step k, has another before it: one that was delivered, or one that still comes in this stitch
(R244); at the last step the arbiter decides. -/
def mustWait (m : Mach) (rest : List Instr) (c k : Nat) : Bool :=
  (sliceWaiting m c).any (fun y => y.step m ≤ k) || 160 ≤ Tab.get 0 m.coh.busy c ||
  (thisStitch rest).any fun i => match rowMsg i with
    | some x => msgSlice m x == c && (takeStep m x < k || (k = 6 && takeStep m x = 6))
    | none => false

/-- A command brings a message to its slice: it is taken at once, or waits for its turn in the stitch (R221, R244). -/
def cohRow (rest : List Instr) (x : CohMsg) (m : Mach) : Mach :=
  let c := msgSlice m x
  let src := msgSource m x
  let (old, m) := nocClaim (fun b => match b with
    | .slice y => sameMsg y x
    | _ => false) m
  let m := if old.isNone then nocSend src.1 src.2 m else m
  if mustWait m rest c (takeStep m x) then
    let y : NocMsg := (old.getD {
      id := m.noc.next, src := src.1, header := nocHeaderOf 0 src.1 (sliceEnd c) 0 1 0, swatch := none, failed := false
      body := .slice x, gen := 0, place := .source, ready := 0, since := m.now.stitch, alarmed := true })
    m.updNoc fun n => { n with next := n.next + 1, arrived := n.arrived ++ [⟨{ y with body := .slice x, swatch := none, failed := false }, m.now.stitch⟩] }
  else cohTake x m

/-- A timer of slice c expires by command, at its step of R244 (R232, R233, R239); where messages come before it, the stitch fires it. -/
def timerRow (rest : List Instr) (c : Nat) (f : Mach → Mach) (m : Mach) : Mach := if mustWait m rest c 4 then m else f m

end Sys2Proof.Machine
end

