-- ==== Sys2Proof/Machine/Stitch.lean ====
section
/-! DEFINITION. The stitch (R19 to R24): the strobe, a refill boundary, a lost stitch, and the slot tick (R11). -/

namespace Sys2Proof.Machine

/-- A defect that the silicon meets in the stitch (R30, R165, R206, R301, R379, R461). -/
def applyDefect (x : Defect) (m : Mach) : Mach :=
  match x with
  | .boltCorr die cell => dieCorr Die.ECC_CORR die cell m
  | .boltUncorr packet k cell => boltUncorr packet k cell m
  | .swatchErr packet bit => swatchErr packet bit m
  | .dirCorr die cell => if m.powered (64 + die) then cellRaise die 0 cell noCtx m else m
  | .ruleCorr central port bank rule => ruleCorr (if central then 0 else port + 1) bank rule m
  | .ruleUncorr central port bank rule => ruleUncorr (if central then 0 else port + 1) bank rule m
  | .nocCorr r => nocCorr r m
  | .nocHeader r id => nocHeader r id m
  | .nocBody r id => nocBody r id m
  | .nocCredit r => nocCredit r m
  | .ctrParity i => counterParity i m
  | .queueCorr q => quadRaise (portQuadrant q) 5 noCtx m
  | .queueUncorr q => quadRaise (portQuadrant q) 6 noCtx m
  | .creditErr q => quadRaise (portQuadrant q) 7 noCtx m
  | .funnelCorr c => funnelCorr c m
  | .funnelUncorr c => spoilFunnel c m
  | .prbsErr lane bits => prbsErrors lane bits m
  | .dictFault => if m.mgmt.up then m.updMgmt fun x => { x with fault := true } else m

/-- Add increments to the counters that select them (R457). -/
def applyIncrements (l : List Increment) (m : Mach) : Mach := forAll l applyIncrement m

/-- Every bucket and bobbin refills with the values now committed, and a new window length comes into force (R333, R334). -/
def refillNow (m : Mach) : Mach :=
  let m := refillAll { m with traffic := { m.traffic with oldValue := [] } }
  { m with traffic := { m.traffic with refillLen := m.rd Sched.REFILL_STITCHES } }

/-- The entries that the stitch governs (R22): what software writes of the fabric core, the NoC, the coherence engine, windows and
protection, the needle engine, slices and gates. -/
def stitchGoverned (k : Nat) : Bool :=
  0x280000 ≤ k && k < 0x700000 && (findEntry k).any fun e => e.1.acc == .rw

/-- The entries written since a lost stitch, with the values that still govern (R24). -/
def keptValues (m : Mach) : List (Nat × Nat) :=
  match m.now.kept with
  | none => []
  | some t =>
    ((((m.pb ++ t).map (·.1)).eraseDups).filter fun k => stitchGoverned k && m.rd k != Tab.get (dflt k) t k).map fun k =>
      (k, Tab.get (dflt k) t k)

/-- Write the values of a list. -/
def writeAll (l : List (Nat × Nat)) (m : Mach) : Mach := forAll l (fun (k, v) m => m.wr k v) m

/-- The takeovers whose commit phase has come, after which this stitch runs next (R348). -/
def takeoversDue (m : Mach) : Mach :=
  forAll ((m.traffic.gates.filter fun x => x.2.due.any (· ≤ m.now.stitch + 1)).map (·.1)) tgTakeover m

/-- What lost stitches left to the commit phase of the next one comes first (R24, R457): credits, configuration, takeovers that
fell due, then the refill. -/
def commitCarried (m : Mach) : Mach :=
  let incs := m.now.carried
  let due := m.now.refillDue
  let m := { returnCarried m with now := { m.now with carried := [], refillDue := false, lost := false, kept := none } }
  let m := takeoversDue m
  applyIncrements incs (if due then refillNow m else m)

/-- A defect that shows when a swatch or a message is read or moves comes before the data of the stitch. -/
def earlyDefect : Defect → Bool
  | .boltUncorr _ _ _ => true
  | .swatchErr _ _ => true
  | .nocHeader _ _ => true
  | .nocBody _ _ => true
  | _ => false

/-- The request, schedule, grant and data phases: what is held is tried again, and every block takes its step. -/
def stitchPhases (env : StitchEnv) (m : Mach) : Mach :=
  let m := { m with traffic := { m.traffic with last := [] } }
  let m := deathStitch (m.updCoh fun x => { x with backoff := m.rd Coh.BACKOFF_MAX })
  let m := needleStitch (nocTaken (retryStitch (advanceStreams (retryHeld m))))
  let m := fabricStitch (forAll (env.defects.filter earlyDefect) applyDefect m)
  let m := (resetStitch (coherenceStitch m)).updCoh fun x => { x with busy := [] }
  let m := seamStitch 1 (seamStitch 0 (twinStitch m))
  captureStitch (nocStitch (prbsStitch env.rx (forAll (env.defects.filter (!earlyDefect ·)) applyDefect m)))

/-- The events that the model's own operations count: of a port all but FLITS_TX and NDR_TX, and those of R479. What else the blocks count
comes with the stitch. -/
def counted (event : Nat) : Bool := (event < 1024 && event % 16 != 1 && event % 16 != 7) || (0xA00 ≤ event && event < 0xA06)

/-- Ports whose link is in L1, or in L0p below its full width, in this stitch (LOW_POWER). -/
def lowPower (m : Mach) : Mach :=
  forAll ((List.range 64).filter fun p =>
    let l := m.rd (PortStat.LTSSM p)
    l == 6 || (l == 4 && m.rd (PortStat.WIDTH_NOW p) < (m.port p).full)) (fun p m => portCount p 15 65535 1 m) m

/-- The commit phase (R21), and what the blocks in PD0 and PD1 do in every stitch. -/
def stitchCommit (env : StitchEnv) (m : Mach) : Mach :=
  let m := commitShapers (boundarySlots (holdsEnd (carveFits (commitFabric (stagedDrain (commitCarried m))))))
  let m := bindStitch (keysBegin (handbackDone m))
  let m := if sampleDue m m.now.stitch then sampleEnds m.now.stitch m else m
  let m := resetsEnd (retireHanded m)
  let m := forAll ((List.range 65).filter fun t => m.rd (setStateKey t) == 3) swapTest m
  let m := forAll ((List.range 65).filter fun t => m.rd (setStateKey t) == 1) siteStep m
  let m := bootWindows (stretchStitch m)
  let m := if stormWaiting m then m.bump Col.STORM_SUPPRESSED 1 else m
  let m := lowPower m
  let incs := (env.incs.filter fun x => !counted x.event) ++ m.now.incs
  applyIncrements incs { m with now := { m.now with incs := [], sampled := m.now.stitch } }

/-- The end of stitch n: the collector handles what was raised in it (R438, R453), and the stitch number and fabric
time advance (R5, R6), with the nanosecond that slewing adds or omits (R397). -/
def stitchEnd (n : Nat) (m : Mach) : Mach :=
  let s := slewStep m
  let m := settle (collect collectRounds (hourStitch (stuckStitch (gatesBegin m))))
  let m := m.updTwin fun x => { x with slew := x.slew - s }
  threshWindow { m with now := { m.now with stitch := n + 1, ftime := (m.now.ftime + 8 + s : Int).toNat } }

/-- A refill boundary at the start of this stitch, met once (R23); after a lost stitch the refill is carried (R24). -/
def refillBoundary (m : Mach) : Mach :=
  if m.now.stitch % max 1 m.traffic.refillLen != 0 || m.traffic.refilled == some m.now.stitch then m
  else
    let m := { m with traffic := { m.traffic with refilled := some m.now.stitch } }
    if m.now.lost then { m with now := { m.now with refillDue := true } } else refillNow m

/-- A stitch (R19). What was written in a stitch that was lost comes into force only in the commit phase of this one (R24). -/
def stitchStrobe (env : StitchEnv) (m : Mach) : Mach :=
  let n := m.now.stitch
  let m := stagerStitch m
  let l := keptValues m
  let m := if l.isEmpty then stitchPhases env m
           else writeAll (l.map fun (k, _) => (k, m.rd k)) (stitchPhases env (writeAll l m))
  refillBoundary (takeoversDue (stitchEnd n (stitchCommit env m)))

/-- A stitch of the whole part: 1 ms after a chip reset was written it follows instead (R487). -/
def strobe (env : StitchEnv) (d : Dev) : Dev :=
  if resetIsDue d.m then chipReset d else d.on (Sys2Proof.Machine.stitchStrobe env)

/-- A stitch is lost (R24, R171, R457, R479): its grants are discarded, and its commit work is carried. A stitch is lost only at
stretch level 5 (R20); at any other level every stitch completes, and the command has nothing to act on (log entry 91). -/
def lostStitch (m : Mach) : Mach :=
  if m.rd Clk.STRETCH_NOW != 5 then m else
  let n := m.now.stitch
  let m := { stagerStitch m with traffic := { m.traffic with last := [] } }
  let m := prbsStitch [] (fabricLost m)
  let m := raiseEv 1525 noCtx ((m.bump Clk.LOST_STITCHES 1).count 0xA00 65535 1)
  let m := stretchStitch m
  let m := stitchEnd n { m with now := { m.now with carried := m.now.carried ++ m.now.incs, incs := [] } }
  refillBoundary { m with now := { m.now with lost := true, kept := m.now.kept.or (some m.pb) } }

/-- BRD_PRSNT_N as filtered: 16 consecutive samples that differ change BOARD_PINS bit 6 (R510). -/
def boardFilter (seated : Bool) (m : Mach) : Mach := m.putBit Strap.BOARD_PINS 6 seated

/-- The sample of BRD_PRSNT_N in a slot tick (R510). -/
def boardSample (seated : Bool) (m : Mach) : Mach :=
  if seated = m.bit Strap.BOARD_PINS 6 then m.updPower fun x => { x with boardRun := 0 }
  else if m.power.boardRun + 1 ≥ 16 then boardFilter seated (m.updPower fun x => { x with boardRun := 0 })
  else m.updPower fun x => { x with boardRun := x.boardRun + 1 }

/-- A slot tick (R11): slot, sense, voltage and board samples. It begins with a stitch whose number is a multiple of 125. -/
def slotTick (env : TickEnv) (m : Mach) : Mach :=
  if m.now.stitch % 125 != 0 then m
  else
    let n := m.now.tick
    let m := slotsTick env m
    let m := senseTick env.senseP env.senseN m
    let m := boardSample env.board (voltsTick env.volts m)
    { m with now := { m.now with tick := n + 1 } }

end Sys2Proof.Machine
end

