-- ==== Sys2Proof/WellFormed.lean ====
section
/-! DEFINITION. Which commands name units, instances and field widths that the part has (R1, R2, R7). A command that does not
is no command of this hardware: the step stops with `noSuchUnit`. What a register or a rule refuses is no matter of this file:
the command runs and the refusal is its effect. -/

namespace Sys2Proof

/-- A slice number, or 65535 for none. -/
def wfSlice (s : Nat) : Bool := s < 4096 || s == 65535

def wfDefect : Defect → Bool
  | .boltCorr die _ => decide (die < 8)
  | .boltUncorr _ _ _ => true
  | .swatchErr _ _ => true
  | .dirCorr die _ => decide (8 ≤ die) && decide (die < 12)
  | .ruleCorr central port bank rule => (central || decide (port < 64)) && decide (bank < 2) && decide (rule < if central then 8192 else 64)
  | .ruleUncorr central port bank rule =>
    (central || decide (port < 64)) && decide (bank < 2) && decide (rule < if central then 8192 else 64)
  | .nocCorr r | .nocCredit r => decide (r < 8)
  | .nocHeader r _ | .nocBody r _ => decide (r < 8)
  | .ctrParity i => decide (i < 1024)
  | .queueCorr q => decide (q < 64)
  | .queueUncorr q => decide (q < 64)
  | .creditErr q => decide (q < 64)
  | .funnelCorr c => decide (c < 128)
  | .funnelUncorr c => decide (c < 128)
  | .prbsErr lane _ => decide (lane < 288)
  | .dictFault => true

def wfEnv (e : StitchEnv) : Bool :=
  e.defects.all wfDefect && (e.incs.all fun i => wfSlice i.slice) && e.rx.all fun x => decide (x.1 < 288)

/-- The lanes of an equalisation request are counted within the port. -/
def wfTrained (t : Trained) : Bool := t.eq.all fun r => decide (r.lane < 16) && decide (r.fir < 2 ^ 32) && r.preset.all fun k => decide (k ≤ 10)

def wfTick (e : TickEnv) : Bool := e.volts.all (fun v => decide (v.1 < 40)) && e.slots.all fun s => decide (s.slot < 32)

def wfPath : Path → Bool
  | .preocNone => true
  | .preoc k => decide (k < 8)
  | .mctpBus _ => true
  | .mctpVdm port _ => decide (port < 64)
  | .cci v => decide (v < 64)

def wfUdp (u : Udp) : Bool :=
  decide (u.sender.eth < 2) && decide (u.sender.addr < 2 ^ 32) && decide (u.sender.port < 65536) && decide (u.port < 65536)

def wfMedium : Medium → Bool
  | .bus => true
  | .vdm port => decide (port < 64)

def wfCarrier : Carrier → Bool
  | .preoc u => wfUdp u
  | .mctp x => wfMedium x

def wfTag (x : SessionTag) : Bool := decide (x.sid < 256)

def wfSpdmIn (x : SpdmIn) : Bool := wfCarrier x.via && wfTag x.tag

/-- The opcodes of the FM API commands that have rows of their own (R57). -/
def fmOpcodes : List Nat :=
  [0x0001, 0x0100, 0x0101, 0x0200, 0x0201, 0x0202, 0x0300, 0x0301, 0x0400, 0x0401, 0x5100, 0x5101, 0x5102, 0x5103, 0x5200, 0x5201, 0x5202,
   0x5203, 0x5300, 0x5301, 0x5302]

def wfOp (o : DictOp) : Bool :=
  decide (o.index < 2 ^ 16) && decide (o.sub < 256) && decide (o.value < 2 ^ (8 * o.len)) && decide (o.expect < 2 ^ (8 * o.len))

def wfOps (l : List DictOp) : Bool := l.all wfOp

def wfDatagram (d : Datagram) : Bool := wfUdp d.udp && decide (d.sessionId < 256) && decide (d.seq < 2 ^ 32) && wfOps d.ops

/-- A port, or a seam as input 65 or 66. -/
def wfInput (p : Nat) : Bool := decide (p < 64) || p == 65 || p == 66

def wfIo (r : IoReq) : Bool :=
  wfInput r.port && decide (r.addr < 2 ^ 64) && decide (r.len ≤ 4096) && decide (r.data < 2 ^ (8 * r.len)) && decide (r.kind < 9) &&
  (r.kind != 8 || decide (r.keyId < 1024)) &&
  decide (r.tc < 8) && decide (r.vcs < 64) && (r.ld.all fun l => decide (l < 16)) && wfSlice r.slice

def wfMem (r : MemReq) : Bool :=
  wfInput r.port && decide (r.addr < 2 ^ 52) && decide (r.data < 2 ^ 512) && decide (r.be < 2 ^ 64) && wfSlice r.slice

def wfResponse (r : Response) : Bool := decide (r.status < 4)

/-- The 256 B of a frame, and the outputs of its swatches in this fabric. -/
def wfFrame (bits : Nat) : Bool := decide (bits < 2 ^ 2048)

def wfOuts (outs : List Nat) : Bool := outs.all fun o => decide (o < 67)

/-- A packet is 1 to 66 swatches long (R155); the inputs are the ports, the needle engine, the seams and the slices (R168). -/
def wfPresent (k : Present) : Bool :=
  decide (1 ≤ k.len) && decide (k.len ≤ 66) && decide (k.fill < 16) && decide (k.input < 71) && decide (k.output < 67) && decide (k.cls < 64) && wfSlice k.slice && decide (k.kind < 5)

/-- What a flit carries belongs to its port. -/
def wfItem (p : Nat) : FlitItem → Bool
  | .io _ r => wfIo r && r.port == p
  | .mem r => wfMem r && r.port == p
  | .cache ld cacheId addr => decide (ld < 16) && decide (cacheId < 16) && decide (addr < 2 ^ 52)
  | .response _ r => wfResponse r
  | .packet k => wfPresent k && k.input == p
  | .birsp bitag kind => decide (bitag < 4096) && decide (kind ≤ 2)

def wfFlit (f : Flit) : Bool := decide (f.port < 64) && decide (f.proto < 3) && f.items.all (wfItem f.port)

def wfWho : Requester → Bool
  | .agent a => decide (a < 64)
  | .io port => wfInput port
  | .needle c => decide (c < 128)
  | .mgmt m => decide (m < 16)

def wfCoh (q : CohReq) : Bool :=
  decide (q.addr < 2 ^ 52) && wfWho q.who && wfSlice q.slice && decide (q.data < 2 ^ 512) && decide (q.be < 2 ^ 64) && decide (q.ecc < 4)

def wfBiRsp (r : BiRsp) : Bool := decide (r.agent < 64) && decide (r.kind < 3)

def wfHlc (m : HlcMsg) : Bool := decide (m.addr < 2 ^ 52) && decide (m.data < 2 ^ 512) && decide (m.be < 2 ^ 64)

def wfSite : Site → Bool
  | .central => true
  | .gate p => decide (p < 64)

def wfMirrors (l : List MirrorRec) : Bool := l.all fun r => decide (r.ce < 4) && decide (r.entry < 2 ^ 128)

def wfOccurrence (o : Occurrence) : Bool := decide (o.source < 1536) && wfSlice o.ctx.slice

def wfLc (r : LcReq) : Bool :=
  (match r.by_ with
   | .path p => wfPath p
   | .jtag => true) && decide (r.target < 256)

/-- Every unit, instance and width that a command names exists (R1, R7).  The values that a register takes are checked where it is
written (R41), and answered. -/
def Instr.wf : Instr → Bool
  | .stitchStrobe env => wfEnv env
  | .slotTick env => wfTick env
  | .refillBoundary => true
  | .lostStitch => true
  | .flitReceived f => wfFlit f
  | .managementReset => true
  | .bootComplete => true
  | .managementWatchdog => true
  | .read path _ _ _ => wfPath path
  | .write path _ _ len value => wfPath path && decide (value < 2 ^ (8 * len))
  | .compareWrite path _ _ len expect value => wfPath path && decide (expect < 2 ^ (8 * len)) && decide (value < 2 ^ (8 * len))
  | .blockRead path _ _ _ _ => wfPath path
  | .blockWrite path _ _ _ len data => wfPath path && decide (data < 2 ^ (8 * len))
  | .registerWrite _ _ value => decide (value < 2 ^ 32)
  | .pbRequest d => wfDatagram d
  | .spdmGetVersion via => wfCarrier via
  | .spdmGetCapabilities via => wfCarrier via
  | .spdmNegotiateAlgorithms via _ => wfCarrier via
  | .spdmGetDigests via => wfCarrier via
  | .spdmGetCertificate via _ _ _ => wfCarrier via
  | .spdmChallenge via _ _ => wfCarrier via
  | .spdmGetMeasurements via _ => wfCarrier via
  | .keyExchange via slot exchange => wfCarrier via && decide (slot < 8) && decide (exchange < 2 ^ 768)
  | .spdmFinish via k chain => wfCarrier via && decide (k < 8) && decide (chain.root < 2 ^ 384)
  | .keyUpdate x => wfSpdmIn x
  | .spdmHeartbeat x => wfSpdmIn x
  | .endSession x => wfSpdmIn x
  | .keepalive u tag => wfUdp u && wfTag tag
  | .sessionTimeout k => decide (k < 8)
  | .sessionClose k => decide (k < 8)
  | .notifyAck u ack => wfUdp u && wfTag ack.tag
  | .notifyRetryExpiry k => decide (k < 8)
  | .setEndpointId eid on => wfMedium on && decide (eid < 256)
  | .getEndpointId on => wfMedium on
  | .getMctpVersionSupport on => wfMedium on
  | .getMessageTypeSupport on => wfMedium on
  | .vdmDrop port => decide (port < 64)
  | .pbAccess path _ ops opcode => wfPath path && decide (opcode < 65536 && !fmOpcodes.contains opcode) && wfOps ops
  | .identify path => wfPath path
  | .getEventRecords path => wfPath path
  | .clearEventRecords path _ => wfPath path
  | .getFwInfo path => wfPath path
  | .transferFw path _ len data => wfPath path && decide (data < 2 ^ (8 * len))
  | .activateFw path _ => wfPath path
  | .getTimestamp path => wfPath path
  | .setTimestamp path time => wfPath path && decide (time < 2 ^ 64)
  | .getSupportedLogs path => wfPath path
  | .getLog path _ _ => wfPath path
  | .identifySwitchDevice path => wfPath path
  | .getPhysicalPortState path port => wfPath path && decide (port < 64)
  | .physicalPortControl path port _ => wfPath path && decide (port < 64)
  | .sendPpbCxlIoConfigurationRequest path port _ => wfPath path && decide (port < 64)
  | .getVirtualCxlSwitchInfo path v => wfPath path && decide (v < 64)
  | .bindVppb path v vppb port ld _ => wfPath path && decide (v < 64) && decide (vppb < 1024) && decide (port < 64) && decide (ld < 16)
  | .unbindVppb path v vppb _ => wfPath path && decide (v < 64) && decide (vppb < 1024)
  | .generateAerEvent path vppb _ => wfPath path && decide (vppb < 1024)
  | .tunnelManagementCommand path port _ => wfPath path && decide (port < 64)
  | .sendLdCxlIoConfigurationRequest path port ld _ => wfPath path && decide (port < 64) && decide (ld < 16)
  | .sendLdCxlIoMemoryRequest path port ld _ => wfPath path && decide (port < 64) && decide (ld < 16)
  | .fwImageWrite pldm _ len data => pldm.all wfMedium && decide (data < 2 ^ (8 * len))
  | .fwVerify => true
  | .fwVerifyDone _ _ _ => true
  | .fwActivateNext => true
  | .fwActivateNow => true
  | .fwConfirm => true
  | .svnCommit => true
  | .pldmActivateFirmware _ on => wfMedium on
  | .settingsSave => true
  | .settingsSaveDone => true
  | .logFlushTimer _ => true
  | .logClear => true
  | .mwAccess m _ _ len data => decide (m < 16) && decide (data < 2 ^ (8 * len))
  | .mwDisable m => decide (m < 16)
  | .portEnable p => decide (p < 64)
  | .portDisable p => decide (p < 64)
  | .linkRetrain p => decide (p < 64)
  | .linkHotReset p => decide (p < 64)
  | .linkDisable p => decide (p < 64)
  | .linkEnable p => decide (p < 64)
  | .linkTrainingDone p t => decide (p < 64) && wfTrained t
  | .l0pWidthChange p _ => decide (p < 64)
  | .keyGo p => decide (p < 64)
  | .vcsEnable v => decide (v < 64)
  | .vcsDisable v => decide (v < 64)
  | .cxlCacheRequest p ld cacheId addr => decide (p < 64) && decide (ld < 16) && decide (cacheId < 16) && decide (addr < 2 ^ 52)
  | .bind v vppb port ld _ => decide (v < 64) && decide (vppb < 1024) && decide (port < 64) && decide (ld < 16)
  | .unbind v vppb _ => decide (v < 64) && decide (vppb < 1024)
  | .secondaryBusWrite vppb _ => decide (vppb < 1024)
  | .vppbLinkDown vppb => decide (vppb < 1024)
  | .unbindRemovalTimeout => true
  | .unbindDrainDone => true
  | .perstHoldExpiry p => decide (p < 64)
  | .perstRequest g _ => decide (g < 16)
  | .linkLost p => decide (p < 64)
  | .cxlIoRequest r => wfIo r
  | .lockedRead r => wfIo r
  | .unlock p _ => decide (p < 67)
  | .lockLimitExpiry _ => true
  | .cplTimeout p _ => decide (p < 67)
  | .targetResponse p _ r => decide (p < 67) && wfResponse r
  | .farErrorOpen p _ _ => decide (p < 67)
  | .farErrorClosed p _ => decide (p < 67)
  | .cxlMemRequest r => wfMem r
  | .refclkWindow b _ => decide (b < 36)
  | .refclkEdgeLoss b => decide (b < 36)
  | .pllUnlock b => decide (b < 36)
  | .pllRelock b => decide (b < 36)
  | .dozeEntry n level _ => decide (n < 288) && decide (level < 3)
  | .dozeExitRequest n => decide (n < 288)
  | .dozeExitDone n us => decide (n < 288) && decide (us < 65536)
  | .laneModeSet n _ => decide (n < 288)
  | .chkLock n => decide (n < 288)
  | .chkLost n => decide (n < 288)
  | .prbsCountersStop n => decide (n < 288)
  | .prbsClear n => decide (n < 288)
  | .prbsSnap n => decide (n < 288)
  | .prbsInject n => decide (n < 288)
  | .slip n => decide (n < 288)
  | .slipDone n => decide (n < 288)
  | .alignDetect n _ _ => decide (n < 288)
  | .seamFrameSlot s => decide (s < 2)
  | .payloadFrame s f => decide (s < 2) && wfFrame f.bits && wfOuts f.outs
  | .controlFrame s bits => decide (s < 2) && wfFrame bits
  | .initFrame s bits => decide (s < 2) && wfFrame bits
  | .idleFrame s bits => decide (s < 2) && wfFrame bits
  | .replayTimer s => decide (s < 2)
  | .ackTimer s => decide (s < 2)
  | .lcmdPropose s mask _ _ => decide (s < 2) && decide (mask < 16)
  | .lcmdAccept s mask _ => decide (s < 2) && decide (mask < 16)
  | .lcmdRefuse s mask _ => decide (s < 2) && decide (mask < 16)
  | .lcmdSwitch s mask _ => decide (s < 2) && decide (mask < 16)
  | .lcmdWake s mask => decide (s < 2) && decide (mask < 16)
  | .lcmdDoze s mask => decide (s < 2) && decide (mask < 16)
  | .lcmdTimeout s => decide (s < 2)
  | .laneErrWindow s => decide (s < 2)
  | .seamEnable s => decide (s < 2)
  | .seamDisable s => decide (s < 2)
  | .manualGo s => decide (s < 2)
  | .seamActive s => decide (s < 2)
  | .trainingTimeout s => decide (s < 2)
  | .seamDownRetry s => decide (s < 2)
  | .seamRetrain s => decide (s < 2)
  | .laneSignalLoss s lane => decide (s < 2) && decide (lane < 32)
  | .retrainTimeout s => decide (s < 2)
  | .linkCmdRetrain s => decide (s < 2)
  | .linkCmdPropose s => decide (s < 2)
  | .linkCmdWake s => decide (s < 2)
  | .linkCmdDoze s => decide (s < 2)
  | .packetPresent pk => wfPresent pk
  | .packetStall _ => true
  | .hlcStepsWrite steps => decide (steps < 2 ^ 64)
  | .carveDone => true
  | .boltDieIfFail d => decide (d < 8)
  | .freeMinClear => true
  | .nocAgeAlarm _ => true
  | .statSnap => true
  | .latMaxClear e => decide (e < 32)
  | .rds q => wfCoh q
  | .rda q => wfCoh q
  | .rdi q => wfCoh q
  | .inva q => wfCoh q
  | .clnEv q => wfCoh q
  | .wb q => wfCoh q
  | .ncw q => wfCoh q
  | .birsp r => wfBiRsp r
  | .cmpn c sector line _ _ data => decide (c < 4) && decide (sector < 2 ^ 46) && decide (line < 4) && decide (data < 2 ^ 512)
  | .biconflict q => wfCoh q
  | .wbTimeout c sector line => decide (c < 4) && decide (sector < 2 ^ 46) && decide (line < 4)
  | .snoopTimeout _ => true
  | .nak _ _ => true
  | .backoffExpiry _ => true
  | .go _ => true
  | .rsvLapse c slot => decide (c < 4) && decide (slot < 2 ^ 24)
  | .ceInitDone c => decide (c < 4)
  | .diagEntryRead => true
  | .dirDieIfFail c => decide (c < 4)
  | .hrd m => wfHlc m
  | .hwr m => wfHlc m
  | .hatom m => wfHlc m
  | .hrecall m => wfHlc m
  | .fill m => wfHlc m
  | .hdata c sector line data _ => decide (c < 4) && decide (sector < 2 ^ 46) && decide (line < 4) && decide (data < 2 ^ 512)
  | .hcmp c sector line old => decide (c < 4) && decide (sector < 2 ^ 46) && decide (line < 4) && decide (old < 2 ^ 512)
  | .hlcEnableClear => true
  | .hlcFlush => true
  | .hlcFlushDone => true
  | .atomicop r => wfIo r
  | .atomicAtHome q => wfCoh q
  | .atomicAtMemory q => wfCoh q
  | .declareDead a => decide (a < 64)
  | .walkDone => true
  | .revive a => decide (a < 64)
  | .llClear => true
  | .specClear => true
  | .windowEnable w => decide (w < 1024)
  | .windowDisable w => decide (w < 1024)
  | .windowDrainDone w => decide (w < 1024)
  | .ruleCheckDone site => wfSite site
  | .ruleCopy site => wfSite site
  | .ruleCopyDone site => wfSite site
  | .swap site => wfSite site
  | .swapDone site => wfSite site
  | .slcActivate s => decide (s < 4096)
  | .slcReset s => decide (s < 4096)
  | .slcDeclareDead s => decide (s < 4096)
  | .slcFree s => decide (s < 4096)
  | .sliceResetEnd s => decide (s < 4096)
  | .slcClassesWrite s value => decide (s < 4096) && decide (value < 2 ^ 32)
  | .classHoldEnd s _ => decide (s < 4096)
  | .slcNeedleWrite s value => decide (s < 4096) && decide (value < 2 ^ 128)
  | .slcCauseWrite s value => decide (s < 4096) && decide (value < 2 ^ 32)
  | .slcVectorsWrite s value => decide (s < 4096) && decide (value < 2 ^ 1024)
  | .tgCommit p => decide (p < 64)
  | .tgTakeover p => decide (p < 64)
  | .samplePeriodEnd => true
  | .chStart c => decide (c < 128)
  | .chStop c => decide (c < 128)
  | .chStopDone c => decide (c < 128)
  | .ringTailDoorbell c _ => decide (c < 128)
  | .descFetch c _ => decide (c < 128)
  | .fetchFail c => decide (c < 128)
  | .descCheckVerdict c => decide (c < 128)
  | .descComplete c _ => decide (c < 128)
  | .descFail c _ _ => decide (c < 128)
  | .twinEnable => true
  | .twinDisable => true
  | .hello _ => true
  | .pairingFlushDone => true
  | .heartbeat _ => true
  | .heartbeatTimer => true
  | .treqTimer => true
  | .treq _ => true
  | .trsp _ _ _ => true
  | .mirrorSwatch records => wfMirrors records
  | .releaseNotice p _ => decide (p < 67)
  | .handover c => decide (c < 4)
  | .seamHbLost => true
  | .senseLost => true
  | .senseRearm _ => true
  | .witnessSurvive _ => true
  | .witnessYield _ => true
  | .witnessTimeout => true
  | .syncDone => true
  | .handback => true
  | .handbackDone => true
  | .ppsInEdge ns => decide (ns < 8)
  | .ppsOut => true
  | .pwrEnWrite t _ => decide (t < 32)
  | .presenceFilter t _ => decide (t < 32)
  | .insertionDebounceEnd t => decide (t < 32)
  | .removalDeclared t => decide (t < 32)
  | .rampAdmit t => decide (t < 32)
  | .rampTimeout t => decide (t < 32)
  | .faultTimerExpiry t => decide (t < 32)
  | .shortCircuit t _ => decide (t < 32)
  | .powerGood t => decide (t < 32)
  | .pgLost t => decide (t < 32)
  | .retryTimerExpiry t => decide (t < 32)
  | .retryCountReset t => decide (t < 32)
  | .uvHold t => decide (t < 32)
  | .uvRecovery t => decide (t < 32)
  | .fetCheckFail t => decide (t < 32)
  | .fetRecheck t => decide (t < 32)
  | .fetRecheckDone t _ => decide (t < 32)
  | .auxRestore t => decide (t < 32)
  | .auxFault t => decide (t < 32)
  | .button t => decide (t < 32)
  | .alert t => decide (t < 32)
  | .slotInputChatter t _ => decide (t < 32)
  | .slotInputStuck t _ => decide (t < 32)
  | .inputRearm t _ => decide (t < 32)
  | .ledBlinkToggle => true
  | .eventOccurrence o => wfOccurrence o
  | .wireFault j => decide (j < 1536)
  | .sourceStuck j => decide (j < 1536)
  | .threshWindow => true
  | .captureContext e => decide (e < 64)
  | .captureTimeout e => decide (e < 64)
  | .eventDelivery => true
  | .srcStatusWrite j value => decide (j < 1536) && decide (value < 2 ^ 32)
  | .capFree _ => true
  | .alertResponse => true
  | .injectRaise => true
  | .injectWireFault => true
  | .injectStuck => true
  | .injectRelease => true
  | .ctrRead path i => wfPath path && decide (i < 1024)
  | .ctrSelect i _ _ => decide (i < 1024)
  | .ctrClear i => decide (i < 1024)
  | .serviceSet value => decide (value < 2 ^ 64)
  | .pdOn m => decide (m < 77)
  | .pdOff m => decide (m < 77)
  | .pdReset m => decide (m < 77)
  | .quiesceDone m => decide (m < 77)
  | .stagerGrant => true
  | .rampDone m => decide (m < 77)
  | .domainFail m => decide (m < 77)
  | .clockFault _ => true
  | .clockRecover => true
  | .droop level => decide (level < 6)
  | .stretchRelax => true
  | .avsStep _ _ => true
  | .planNow => true
  | .planPeriodExpiry => true
  | .planMeasureDone _ _ => true
  | .tempSample _ => true
  | .tClear i => decide (i < 48)
  | .vClear v => decide (v < 40)
  | .chipReset => true
  | .chipResetWrite => true
  | .chipResetRelease _ => true
  | .otpLoadDone => true
  | .otpBurn => true
  | .otpBurnDone _ => true
  | .lcReq r => wfLc r
  | .lcToken _ => true
  | .receiverDetection p _ => decide (p < 64)
  | .inBandHotReset p => decide (p < 64)
  | .boardPresentFilter _ => true
  | .mgmtEthLink i _ => decide (i < 2)
  | .dhcpv4 i addr mask gw => decide (i < 2) && decide (addr < 2 ^ 32) && decide (mask < 2 ^ 32) && decide (gw < 2 ^ 32)
  | .pldmFirmwareUpdate _ on => wfMedium on
  | .jtagInstruction _ => true

end Sys2Proof
end

