-- ==== Sys2Proof/Machine/Command.lean ====
section
/-! DEFINITION. What every command shares: which commands a switch in chip reset takes, and the
forms of a write that a command makes by name. -/

namespace Sys2Proof.Machine

/-- Run a command whose units exist (`ok`); one that names a unit the part does not have stops. The queue is left alone. -/
def State.run (ok : Bool) (f : Dev → Dev) (s : State) : Host.Outcome State Fault Refusal :=
  if ok then .next { s with toDev := f s.toDev } else .fault .noSuchUnit

/-- A command of the running switch: while chip reset is asserted nothing happens (R487). -/
def State.dev (ok : Bool) (f : Dev → Dev) (s : State) : Host.Outcome State Fault Refusal :=
  s.run ok fun d => if d.m.held then d else f d

/-- A command of the running switch that reads and writes no fuse. -/
def State.mach (ok : Bool) (f : Mach → Mach) (s : State) : Host.Outcome State Fault Refusal := s.dev ok (·.on f)

/-- An accepted write of a saved entry, recorded in the log (chapter 2, "The persistent event log"). -/
def saved (effect : Mach → Mach) (m : Mach) : Mach := logChange (effect m)

/-- A write that no check of its own can refuse. -/
def free (_ : Mach) : Option Status := none

/-- A request that arrives while the management subsystem is down is dropped without a response (R32). -/
def heard (f : Dev → Dev) (d : Dev) : Dev := if d.m.mgmt.up then f d else d
def heardMach (f : Mach → Mach) (m : Mach) : Mach := if m.mgmt.up then f m else m

/-- An action of the management subsystem that looks at fuses. -/
def mgDev (check : Dev → Option Status) (effect : Dev → Dev) (d : Dev) : Dev := heard (devAct check effect) d

/-- An action on the firmware image: the boot ROM takes it in recovery too (R59 step 4). -/
def fwAct (check : Mach → Option Status) (effect : Mach → Mach) (m : Mach) : Mach :=
  if m.mgmt.up || m.mgmt.recovery then actAnyway check effect m else m

/-- A block write of FW_IMAGE, or a component of a PLDM update on an MCTP transport (R60, R61). -/
def fwImageWrite (pldm : Option Medium) (offset len data : Nat) (m : Mach) : Mach :=
  match pldm with
  | some x => pldmUpdate x (.component offset len data) m
  | none => fwAct (fwWriteCheck false offset len) (fwWrite false offset len data) m

/-- A command to a check site: the gate of a port whose domain is off answers STATE (R470). -/
def siteAct (t : Nat) (f : Mach → Mach) (m : Mach) : Mach :=
  if t = 0 || m.domOn (portDomain (t - 1)) then f m else m.emit (.answer .state 0)

/-- A read of DIAG_ENTRY (R245). -/
def diagRead (m : Mach) : Mach :=
  match diagCheck m with
  | some st => m.emit (.answer st 0)
  | none => m.emit (.answer .ok (diagEntry m))

/-- Occurrences of a source as its wires tell them (R438). -/
def occurs (o : Occurrence) (m : Mach) : Mach := occur o.source o.count (sourceCause o.source) o.ctx m

/-- INJ_GO with a mode: outside FACTORY it answers LIFECYCLE (R452). -/
def injectCommand (mode : Nat) (d : Dev) : Dev :=
  d.on (act (fun _ => if d.injectOpen then none else some .lifecycle) (inject mode))

/-- A write of PD_REQ of domain n (R472, R499). -/
def pdCommand (n v : Nat) (d : Dev) : Dev :=
  if pdLifecycle n d then d.on (·.emit (.answer .lifecycle 0))
  else match pdCheck [] n v d.m with
    | some st => (refuseEffect (Pd.PD_REQ n) v st d).on (·.emit (.answer st 0))
    | none => d.on fun m => (saved (if v = 1 then pdOn n else pdOff n) m).emit (.answer .ok 0)

/-- A ramp ends; when PD1 comes on, its boot ROM runs (R59, R486). -/
def rampCommand (n : Nat) (d : Dev) : Dev :=
  let e := d.on (rampDone n)
  if !d.m.domOn 1 && e.m.domOn 1 then bootRom e else e

/-- OTP_BURN (R494, R495). -/
def burnCommand (d : Dev) : Dev :=
  if d.otp.lcState = 0 || 3 ≤ d.otp.lcState then d.on (·.emit (.answer .lifecycle 0)) else devAct otpBurnCheck otpBurn d

/-- LC_REQ, from a path of the Pattern Book or from the tester (R497). -/
def lcCommand (r : LcReq) (d : Dev) : Dev :=
  match r.by_ with
  | .path p => pathOp p (writeOp Lc.LC_REQ (r.target + r.crc % 2 ^ 32 * 2 ^ 32)) d
  | .jtag => jtag (.transition r.target r.crc) d

end Sys2Proof.Machine
end

