-- ==== Sys2Proof/Machine/BookCmd.lean ====
section
/-! DEFINITION. The meanings of the accesses to the Pattern Book and of the FM API (chapter 2). -/

namespace Sys2Proof.Machine

/-- READ (R35). -/
def execRead (path : Path) (index : Nat) (sub : Nat) (len : Nat) (s : State) : Host.Outcome State Fault Refusal :=
  s.dev (wfPath path) (pathOp path ⟨.read, index, sub, len, 0, 0, 0⟩)

/-- WRITE (R517). -/
def execWrite (path : Path) (index : Nat) (sub : Nat) (len : Nat) (value : Nat) (s : State) : Host.Outcome State Fault Refusal :=
  s.dev (wfPath path && decide (value < 2 ^ (8 * len))) (pathOp path ⟨.write, index, sub, len, 0, 0, value⟩)

/-- COMPARE_WRITE (R517). -/
def execCompareWrite (path : Path) (index : Nat) (sub : Nat) (len : Nat) (expect : Nat) (value : Nat) (s : State) : Host.Outcome State Fault Refusal :=
  s.dev (wfPath path && decide (expect < 2 ^ (8 * len)) && decide (value < 2 ^ (8 * len))) (pathOp path ⟨.compareWrite, index, sub, len, 0, expect, value⟩)

/-- BLOCK_READ (R518). -/
def execBlockRead (path : Path) (index : Nat) (sub : Nat) (offset : Nat) (len : Nat) (s : State) : Host.Outcome State Fault Refusal :=
  s.dev (wfPath path) (pathOp path ⟨.blockRead, index, sub, len, offset, 0, 0⟩)

/-- BLOCK_WRITE (R518). -/
def execBlockWrite (path : Path) (index : Nat) (sub : Nat) (offset : Nat) (len : Nat) (data : Nat) (s : State) : Host.Outcome State Fault Refusal :=
  s.dev (wfPath path && decide (data < 2 ^ (8 * len))) (pathOp path ⟨.blockWrite, index, sub, len, offset, 0, data⟩)

/-- REGISTER_WRITE (R22). -/
def execRegisterWrite (index : Nat) (sub : Nat) (value : Nat) (s : State) : Host.Outcome State Fault Refusal :=
  s.dev (decide (value < 2 ^ 32)) (registerWrite index sub value)

/-- PB_REQUEST (R51). -/
def execPbRequest (d : Datagram) (s : State) : Host.Outcome State Fault Refusal := s.dev (wfDatagram d) (pbRequest d)

/-- PB_ACCESS (R55). -/
def execPbAccess (path : Path) (atomic : Bool) (ops : List DictOp) (s : State) (opcode : Nat := 0xC000) : Host.Outcome State Fault Refusal :=
  s.dev (wfPath path && decide (opcode < 65536 && !fmOpcodes.contains opcode) && wfOps ops) (pbAccess path opcode atomic ops)

/-- IDENTIFY (R57). -/
def execIdentify (path : Path) (s : State) : Host.Outcome State Fault Refusal := s.dev (wfPath path) (identify path)

/-- GET_EVENT_RECORDS (R451). -/
def execGetEventRecords (path : Path) (s : State) : Host.Outcome State Fault Refusal :=
  s.dev (wfPath path) (getEventRecords path)

/-- CLEAR_EVENT_RECORDS (R451). -/
def execClearEventRecords (path : Path) (sources : List Nat) (s : State) : Host.Outcome State Fault Refusal :=
  s.dev (wfPath path) (clearEventRecords path sources)

/-- GET_FW_INFO (R57). -/
def execGetFwInfo (path : Path) (s : State) : Host.Outcome State Fault Refusal := s.dev (wfPath path) (getFwInfo path)

/-- TRANSFER_FW (R60). -/
def execTransferFw (path : Path) (offset : Nat) (len : Nat) (data : Nat) (s : State) : Host.Outcome State Fault Refusal :=
  s.dev (wfPath path && decide (data < 2 ^ (8 * len))) (transferFw path offset len data)

/-- ACTIVATE_FW (R60). -/
def execActivateFw (path : Path) (action : Nat) (s : State) : Host.Outcome State Fault Refusal :=
  s.dev (wfPath path) (activateFw path action)

/-- GET_TIMESTAMP (R57). -/
def execGetTimestamp (path : Path) (s : State) : Host.Outcome State Fault Refusal := s.dev (wfPath path) (getTimestamp path)

/-- SET_TIMESTAMP (R6). -/
def execSetTimestamp (path : Path) (time : Nat) (s : State) : Host.Outcome State Fault Refusal :=
  s.dev (wfPath path && decide (time < 2 ^ 64)) (setTimestamp path time)

/-- GET_SUPPORTED_LOGS (R57). -/
def execGetSupportedLogs (path : Path) (s : State) : Host.Outcome State Fault Refusal :=
  s.dev (wfPath path) (getSupportedLogs path)

/-- GET_LOG (R57). -/
def execGetLog (path : Path) (offset : Nat) (len : Nat) (s : State) : Host.Outcome State Fault Refusal :=
  s.dev (wfPath path) (getLog path offset len)

/-- IDENTIFY_SWITCH_DEVICE (R57). -/
def execIdentifySwitchDevice (path : Path) (s : State) : Host.Outcome State Fault Refusal :=
  s.dev (wfPath path) (identifySwitchDevice path)

/-- GET_PHYSICAL_PORT_STATE (R57). -/
def execGetPhysicalPortState (path : Path) (port : Nat) (s : State) : Host.Outcome State Fault Refusal :=
  s.dev (wfPath path && decide (port < 64)) (getPhysicalPortState path port)

/-- PHYSICAL_PORT_CONTROL (R57). -/
def execPhysicalPortControl (path : Path) (port : Nat) (action : Nat) (s : State) : Host.Outcome State Fault Refusal :=
  s.dev (wfPath path && decide (port < 64)) (physicalPortControl path port action)

/-- SEND_PPB_CXL_IO_CONFIGURATION_REQUEST (R57). -/
def execSendPpbCxlIoConfigurationRequest (path : Path) (port : Nat) (payload : Nat) (s : State) : Host.Outcome State Fault Refusal :=
  s.dev (wfPath path && decide (port < 64)) (passOn path port 65535 payload)

/-- GET_VIRTUAL_CXL_SWITCH_INFO (R57). -/
def execGetVirtualCxlSwitchInfo (path : Path) (v : Nat) (s : State) : Host.Outcome State Fault Refusal :=
  s.dev (wfPath path && decide (v < 64)) (getVirtualSwitchInfo path v)

/-- BIND_VPPB (R81). -/
def execBindVppb (path : Path) (v : Nat) (vppb : Nat) (port : Nat) (ld : Nat) (ldValid : Bool) (s : State) : Host.Outcome State Fault Refusal :=
  s.dev (wfPath path && decide (v < 64) && decide (vppb < 1024) && decide (port < 64) && decide (ld < 16)) (bindVppb path v vppb port ld ldValid)

/-- UNBIND_VPPB (R83). -/
def execUnbindVppb (path : Path) (v : Nat) (vppb : Nat) (mode : Nat) (s : State) : Host.Outcome State Fault Refusal :=
  s.dev (wfPath path && decide (v < 64) && decide (vppb < 1024)) (unbindVppb path v vppb mode)

/-- GENERATE_AER_EVENT (R57). -/
def execGenerateAerEvent (path : Path) (vppb : Nat) (error : Nat) (s : State) : Host.Outcome State Fault Refusal :=
  s.dev (wfPath path && decide (vppb < 1024)) (generateAer path vppb error)

/-- TUNNEL_MANAGEMENT_COMMAND (R78). -/
def execTunnelManagementCommand (path : Path) (port : Nat) (payload : Nat) (s : State) : Host.Outcome State Fault Refusal :=
  s.dev (wfPath path && decide (port < 64)) (passOn path port 65535 payload)

/-- SEND_LD_CXL_IO_CONFIGURATION_REQUEST (R57). -/
def execSendLdCxlIoConfigurationRequest (path : Path) (port : Nat) (ld : Nat) (payload : Nat) (s : State) : Host.Outcome State Fault Refusal :=
  s.dev (wfPath path && decide (port < 64) && decide (ld < 16)) (passOn path port ld payload)

/-- SEND_LD_CXL_IO_MEMORY_REQUEST (R57). -/
def execSendLdCxlIoMemoryRequest (path : Path) (port : Nat) (ld : Nat) (payload : Nat) (s : State) : Host.Outcome State Fault Refusal :=
  s.dev (wfPath path && decide (port < 64) && decide (ld < 16)) (passOn path port ld payload)

end Sys2Proof.Machine
end

