-- ==== Sys2Proof/Machine/ChipCmd.lean ====
section
/-! DEFINITION. The meanings of chip reset, the fuses, the life cycle and JTAG (chapters 19 to 21). -/

namespace Sys2Proof.Machine

/-- CHIP_RESET (R487). -/
def execChipReset (s : State) : Host.Outcome State Fault Refusal := s.run true chipReset

/-- CHIP_RESET_WRITE (R487). -/
def execChipResetWrite (s : State) : Host.Outcome State Fault Refusal := s.mach true (act free askReset)

/-- CHIP_RESET_RELEASE (R486). -/
def execChipResetRelease (straps : Nat) (s : State) : Host.Outcome State Fault Refusal := s.run true (chipRelease straps)

/-- OTP_LOAD_DONE (R492). -/
def execOtpLoadDone (s : State) : Host.Outcome State Fault Refusal := s.dev true otpLoaded

/-- OTP_BURN (R495). -/
def execOtpBurn (s : State) : Host.Outcome State Fault Refusal := s.dev true (heard burnCommand)

/-- OTP_BURN_DONE (R495). -/
def execOtpBurnDone (verified : Bool) (s : State) : Host.Outcome State Fault Refusal := s.dev true (otpBurnDone verified)

/-- LC_REQ (R497). -/
def execLcReq (r : LcReq) (s : State) : Host.Outcome State Fault Refusal := s.dev (wfLc r) (lcCommand r)

/-- LC_TOKEN (R501). -/
def execLcToken (token : Nat) (s : State) : Host.Outcome State Fault Refusal := s.dev true (heard (tokenWrite token))

/-- BOARD_PRESENT_FILTER (R510). -/
def execBoardPresentFilter (seated : Bool) (s : State) : Host.Outcome State Fault Refusal :=
  s.mach true (boardFilter seated)

/-- JTAG_INSTRUCTION (R499). -/
def execJtagInstruction (j : JtagInstr) (s : State) : Host.Outcome State Fault Refusal := s.dev true (jtag j)

end Sys2Proof.Machine
end

