-- ==== Sys2Proof/Machine/CohCmd.lean ====
section
/-! DEFINITION. The meanings of the coherence slices, their requesters and the home line cache (chapter 7). -/

namespace Sys2Proof.Machine

/-- RDS (R226). -/
def execRds (q : CohReq) (s : State) : Host.Outcome State Fault Refusal := s.mach (wfCoh q) (cohRow s.pending (.rds q))

/-- RDA (R226). -/
def execRda (q : CohReq) (s : State) : Host.Outcome State Fault Refusal := s.mach (wfCoh q) (cohRow s.pending (.rda q))

/-- RDI (R226). -/
def execRdi (q : CohReq) (s : State) : Host.Outcome State Fault Refusal := s.mach (wfCoh q) (cohRow s.pending (.rdi q))

/-- INVA (R226). -/
def execInva (q : CohReq) (s : State) : Host.Outcome State Fault Refusal := s.mach (wfCoh q) (cohRow s.pending (.inva q))

/-- CLN_EV (R226). -/
def execClnEv (q : CohReq) (s : State) : Host.Outcome State Fault Refusal := s.mach (wfCoh q) (cohRow s.pending (.clnEv q))

/-- WB (R229). -/
def execWb (q : CohReq) (s : State) : Host.Outcome State Fault Refusal := s.mach (wfCoh q) (cohRow s.pending (.write q))

/-- NCW (R234). -/
def execNcw (q : CohReq) (s : State) : Host.Outcome State Fault Refusal := s.mach (wfCoh q) (cohRow s.pending (.write q))

/-- BIRSP (R231). -/
def execBirsp (r : BiRsp) (s : State) : Host.Outcome State Fault Refusal := s.mach (wfBiRsp r) (cohRow s.pending (.birsp r))

/-- CMPN (R229). -/
def execCmpn (c : Nat) (sector : Nat) (line : Nat) (tag : Nat) (bad : Bool) (data : Nat) (s : State) : Host.Outcome State Fault Refusal :=
  s.mach (decide (c < 4) && decide (sector < 2 ^ 46) && decide (line < 4) && decide (data < 2 ^ 512)) (cohRow s.pending (.cmpn c sector line tag bad data))

/-- BICONFLICT (R240). -/
def execBiconflict (q : CohReq) (s : State) : Host.Outcome State Fault Refusal :=
  s.mach (wfCoh q) (cohRow s.pending (.conflict q))

/-- WB_TIMEOUT (R232). -/
def execWbTimeout (c : Nat) (sector : Nat) (line : Nat) (s : State) : Host.Outcome State Fault Refusal :=
  s.mach (decide (c < 4) && decide (sector < 2 ^ 46) && decide (line < 4)) (timerRow s.pending c (cohTake (.wbTimeout c sector line)))

/-- SNOOP_TIMEOUT (R233). -/
def execSnoopTimeout (bitag : Nat) (s : State) : Host.Outcome State Fault Refusal :=
  s.mach true (timerRow s.pending (bitag / 1024 % 4) (snoopTimeout bitag))

/-- NAK (R237). -/
def execNak (tag : Nat) (rsv : Bool) (s : State) : Host.Outcome State Fault Refusal := s.mach true (nakRow tag rsv)

/-- BACKOFF_EXPIRY (R237). -/
def execBackoffExpiry (tag : Nat) (s : State) : Host.Outcome State Fault Refusal := s.mach true (backoffExpiry tag)

/-- GO (R238). -/
def execGo (tag : Nat) (s : State) : Host.Outcome State Fault Refusal := s.mach true (goRow tag)

/-- RSV_LAPSE (R239). -/
def execRsvLapse (c : Nat) (slot : Nat) (s : State) : Host.Outcome State Fault Refusal :=
  s.mach (decide (c < 4) && decide (slot < 2 ^ 24)) (timerRow s.pending c (rsvLapse c slot))

/-- CE_INIT_DONE (R218). -/
def execCeInitDone (c : Nat) (s : State) : Host.Outcome State Fault Refusal := s.mach (decide (c < 4)) (ceInitDone c)

/-- DIAG_ENTRY_READ (R245). -/
def execDiagEntryRead (s : State) : Host.Outcome State Fault Refusal := s.mach true (heardMach diagRead)

/-- DIR_DIE_IF_FAIL (R243). -/
def execDirDieIfFail (c : Nat) (s : State) : Host.Outcome State Fault Refusal := s.mach (decide (c < 4)) (dirDieFail c)

/-- HRD (R254). -/
def execHrd (m : HlcMsg) (s : State) : Host.Outcome State Fault Refusal := s.mach (wfHlc m) (homeRow 0 m)

/-- HWR (R256). -/
def execHwr (m : HlcMsg) (s : State) : Host.Outcome State Fault Refusal := s.mach (wfHlc m) (homeRow 1 m)

/-- HATOM (R264). -/
def execHatom (m : HlcMsg) (s : State) : Host.Outcome State Fault Refusal := s.mach (wfHlc m) (homeRow 2 m)

/-- HRECALL (R257). -/
def execHrecall (m : HlcMsg) (s : State) : Host.Outcome State Fault Refusal := s.mach (wfHlc m) (homeRow 3 m)

/-- FILL (R251). -/
def execFill (m : HlcMsg) (s : State) : Host.Outcome State Fault Refusal := s.mach (wfHlc m) (homeRow 5 m)

/-- HDATA (R200). -/
def execHdata (c : Nat) (sector : Nat) (line : Nat) (data : Nat) (failed : Bool) (s : State) : Host.Outcome State Fault Refusal :=
  s.mach (decide (c < 4) && decide (sector < 2 ^ 46) && decide (line < 4) && decide (data < 2 ^ 512)) (cohRow s.pending (.hdata c sector line data failed))

/-- HCMP (R200). -/
def execHcmp (c : Nat) (sector : Nat) (line : Nat) (old : Nat) (s : State) : Host.Outcome State Fault Refusal :=
  s.mach (decide (c < 4) && decide (sector < 2 ^ 46) && decide (line < 4) && decide (old < 2 ^ 512)) (cohRow s.pending (.hcmp c sector line old))

/-- HLC_ENABLE_CLEAR (R257). -/
def execHlcEnableClear (s : State) : Host.Outcome State Fault Refusal := s.mach true (act free (saved hlcDisable))

/-- HLC_FLUSH (R257). -/
def execHlcFlush (s : State) : Host.Outcome State Fault Refusal := s.mach true (act hlcFlushCheck hlcFlush)

/-- HLC_FLUSH_DONE (R257). -/
def execHlcFlushDone (s : State) : Host.Outcome State Fault Refusal := s.mach true hlcFlushDone

/-- ATOMIC_AT_HOME (R264). -/
def execAtomicAtHome (q : CohReq) (s : State) : Host.Outcome State Fault Refusal :=
  s.mach (wfCoh q) (cohRow s.pending (.atomHome q))

/-- ATOMIC_AT_MEMORY (R265). -/
def execAtomicAtMemory (q : CohReq) (s : State) : Host.Outcome State Fault Refusal :=
  s.mach (wfCoh q) (cohRow s.pending (.atomMem q))

/-- DECLARE_DEAD (R267). -/
def execDeclareDead (a : Nat) (s : State) : Host.Outcome State Fault Refusal :=
  s.mach (decide (a < 64)) (act free (fun m => declareDead m.now.stitch a m))

/-- WALK_DONE (R269). -/
def execWalkDone (s : State) : Host.Outcome State Fault Refusal := s.mach true walkOver

/-- REVIVE (R271). -/
def execRevive (a : Nat) (s : State) : Host.Outcome State Fault Refusal :=
  s.mach (decide (a < 64)) (act (reviveCheck a) (reviveAgent a))

/-- LL_CLEAR (R274). -/
def execLlClear (s : State) : Host.Outcome State Fault Refusal := s.mach true (act free llClear)

/-- SPEC_CLEAR (R260). -/
def execSpecClear (s : State) : Host.Outcome State Fault Refusal := s.mach true (act free specClear)

end Sys2Proof.Machine
end

