-- ==== Sys2Proof/Machine/FabricCmd.lean ====
section
/-! DEFINITION. The meanings of the fabric core and of the NoC (chapter 6). -/

namespace Sys2Proof.Machine

/-- PACKET_PRESENT (R167). -/
def execPacketPresent (pk : Present) (s : State) : Host.Outcome State Fault Refusal :=
  s.mach (wfPresent pk) (packetPresent pk)

/-- PACKET_STALL (R178). -/
def execPacketStall (id : Nat) (s : State) : Host.Outcome State Fault Refusal := s.mach true (packetStall id)

/-- HLC_STEPS_WRITE (R160). -/
def execHlcStepsWrite (steps : Nat) (s : State) : Host.Outcome State Fault Refusal :=
  s.mach (decide (steps < 2 ^ 64)) (actIn 54 (hlcStepsCheck steps) (saved (hlcStepsWrite steps)))

/-- CARVE_DONE (R160). -/
def execCarveDone (s : State) : Host.Outcome State Fault Refusal := s.mach true carveDone

/-- BOLT_DIE_IF_FAIL (R166). -/
def execBoltDieIfFail (d : Nat) (s : State) : Host.Outcome State Fault Refusal := s.mach (decide (d < 8)) (boltDieIfFail d)

/-- FREE_MIN_CLEAR (R161). -/
def execFreeMinClear (s : State) : Host.Outcome State Fault Refusal := s.mach true (actIn 54 free freeMinClear)

/-- NOC_AGE_ALARM (R204). -/
def execNocAgeAlarm (id : Nat) (s : State) : Host.Outcome State Fault Refusal := s.mach true (nocAgeAlarm id)

/-- STAT_SNAP (R208). -/
def execStatSnap (s : State) : Host.Outcome State Fault Refusal := s.mach true (act free statSnap)

/-- LAT_MAX_CLEAR (R207). -/
def execLatMaxClear (e : Nat) (s : State) : Host.Outcome State Fault Refusal :=
  s.mach (decide (e < 32)) (act free (latMaxClear e))

/-- SAMPLE_PERIOD_END (R350). -/
def execSamplePeriodEnd (s : State) : Host.Outcome State Fault Refusal := s.mach true samplePeriodEnd

end Sys2Proof.Machine
end

