-- ==== Sys2Proof/Machine/FaultCmd.lean ====
section
/-! DEFINITION. The meanings of the fault collector and of the counters (chapters 16 and 17). -/

namespace Sys2Proof.Machine

/-- EVENT_OCCURRENCE (R438). -/
def execEventOccurrence (o : Occurrence) (s : State) : Host.Outcome State Fault Refusal :=
  s.mach (wfOccurrence o) (occurs o)

/-- WIRE_FAULT (R434). -/
def execWireFault (j : Nat) (s : State) : Host.Outcome State Fault Refusal := s.mach (decide (j < 1536)) (wireFault j)

/-- SOURCE_STUCK (R445). -/
def execSourceStuck (j : Nat) (s : State) : Host.Outcome State Fault Refusal := s.mach (decide (j < 1536)) (sourceStuck j)

/-- THRESH_WINDOW (R438). -/
def execThreshWindow (s : State) : Host.Outcome State Fault Refusal := s.mach true threshWindow

/-- CAPTURE_CONTEXT (R441). -/
def execCaptureContext (e : Nat) (s : State) : Host.Outcome State Fault Refusal := s.mach (decide (e < 64)) (captureRow e)

/-- CAPTURE_TIMEOUT (R441). -/
def execCaptureTimeout (e : Nat) (s : State) : Host.Outcome State Fault Refusal :=
  s.mach (decide (e < 64)) (captureTimeout e)

/-- EVENT_DELIVERY (R448). -/
def execEventDelivery (s : State) : Host.Outcome State Fault Refusal := s.mach true eventDelivery

/-- SRC_STATUS_WRITE (R446). -/
def execSrcStatusWrite (j : Nat) (value : Nat) (s : State) : Host.Outcome State Fault Refusal :=
  s.mach (decide (j < 1536) && decide (value < 2 ^ 32)) (act free (srcStatusWrite j value))

/-- CAP_FREE (R443). -/
def execCapFree (bits : Nat) (s : State) : Host.Outcome State Fault Refusal := s.mach true (act free (capFree bits))

/-- ALERT_RESPONSE (R519). -/
def execAlertResponse (s : State) : Host.Outcome State Fault Refusal := s.mach true alertResponse

/-- INJECT_RAISE (R452). -/
def execInjectRaise (s : State) : Host.Outcome State Fault Refusal := s.dev true (injectCommand 0)

/-- INJECT_WIRE_FAULT (R452). -/
def execInjectWireFault (s : State) : Host.Outcome State Fault Refusal := s.dev true (injectCommand 1)

/-- INJECT_STUCK (R452). -/
def execInjectStuck (s : State) : Host.Outcome State Fault Refusal := s.dev true (injectCommand 2)

/-- INJECT_RELEASE (R452). -/
def execInjectRelease (s : State) : Host.Outcome State Fault Refusal := s.dev true (injectCommand 3)

/-- CTR_READ (R462). -/
def execCtrRead (path : Path) (i : Nat) (s : State) : Host.Outcome State Fault Refusal :=
  s.dev (wfPath path && decide (i < 1024)) (pathOp path ⟨.read, Ctr.CTR_READ i / 256, Ctr.CTR_READ i % 256, 16, 0, 0, 0⟩)

/-- CTR_SELECT (R460). -/
def execCtrSelect (i : Nat) (event : Nat) (filter : Nat) (s : State) : Host.Outcome State Fault Refusal :=
  s.mach (decide (i < 1024)) (act (ctrSelectVerdict i event filter) (saved (ctrSelect i event filter)))

/-- CTR_CLEAR (R460). -/
def execCtrClear (i : Nat) (s : State) : Host.Outcome State Fault Refusal :=
  s.mach (decide (i < 1024)) (act free (ctrClear i))

/-- SERVICE_SET (R465). -/
def execServiceSet (value : Nat) (s : State) : Host.Outcome State Fault Refusal :=
  s.mach (decide (value < 2 ^ 64)) (act free (serviceSet value))

end Sys2Proof.Machine
end

