-- ==== Sys2Proof/Machine/FirmwareCmd.lean ====
section
/-! DEFINITION. The meanings of management reset, firmware, settings, the event log and the fabric windows of the management cores (chapter 2). -/

namespace Sys2Proof.Machine

/-- MANAGEMENT_RESET (R32). -/
def execManagementReset (s : State) : Host.Outcome State Fault Refusal := s.dev true managementReset

/-- BOOT_COMPLETE (R486). -/
def execBootComplete (s : State) : Host.Outcome State Fault Refusal := s.dev true bootComplete

/-- MANAGEMENT_WATCHDOG (R59). -/
def execManagementWatchdog (s : State) : Host.Outcome State Fault Refusal := s.dev true watchdog

/-- FW_IMAGE_WRITE (R60). -/
def execFwImageWrite (pldm : Option Medium) (offset : Nat) (len : Nat) (data : Nat) (s : State) : Host.Outcome State Fault Refusal :=
  s.mach (pldm.all wfMedium && decide (data < 2 ^ (8 * len))) (fwImageWrite pldm offset len data)

/-- FW_VERIFY (R60). -/
def execFwVerify (s : State) : Host.Outcome State Fault Refusal := s.mach true (mgAct fwVerifyCheck fwVerify)

/-- FW_VERIFY_DONE (R60). -/
def execFwVerifyDone (good : Bool) (version : Nat) (svn : Nat) (s : State) : Host.Outcome State Fault Refusal :=
  s.dev true (fwVerifyDone good version svn)

/-- FW_ACTIVATE_NEXT (R60). -/
def execFwActivateNext (s : State) : Host.Outcome State Fault Refusal := s.mach true (fwAct fwActivateCheck fwActivate)

/-- FW_ACTIVATE_NOW (R60). -/
def execFwActivateNow (s : State) : Host.Outcome State Fault Refusal :=
  s.dev true fun d => if d.m.mgmt.up || d.m.mgmt.recovery then fwActivateNow d else d

/-- FW_CONFIRM (R59). -/
def execFwConfirm (s : State) : Host.Outcome State Fault Refusal := s.mach true (mgAct free fwConfirm)

/-- SVN_COMMIT (R491). -/
def execSvnCommit (s : State) : Host.Outcome State Fault Refusal := s.dev true (mgDev svnCheck svnCommit)

/-- PLDM_ACTIVATE_FIRMWARE (R61). -/
def execPldmActivateFirmware (selfContained : Bool) (s : State) (on : Medium := .bus) : Host.Outcome State Fault Refusal :=
  s.dev (wfMedium on) (pldmActivate on selfContained)

/-- PLDM_FIRMWARE_UPDATE (R61). -/
def execPldmFirmwareUpdate (m : PldmMsg) (s : State) (on : Medium := .bus) : Host.Outcome State Fault Refusal :=
  s.mach (wfMedium on) (pldmUpdate on m)

/-- SETTINGS_SAVE (R38). -/
def execSettingsSave (s : State) : Host.Outcome State Fault Refusal := s.mach true (mgAct settingsCheck settingsSave)

/-- SETTINGS_SAVE_DONE (R38). -/
def execSettingsSaveDone (s : State) : Host.Outcome State Fault Refusal := s.mach true settingsDone

/-- LOG_FLUSH_TIMER (R62). -/
def execLogFlushTimer (flashOk : Bool) (s : State) : Host.Outcome State Fault Refusal := s.mach true (logFlushTimer flashOk)

/-- LOG_CLEAR (R62). -/
def execLogClear (s : State) : Host.Outcome State Fault Refusal := s.mach true (mgAct free logClear)

/-- MW_ACCESS (R64). -/
def execMwAccess (m : Nat) (write : Bool) (offset : Nat) (len : Nat) (data : Nat) (s : State) : Host.Outcome State Fault Refusal :=
  s.mach (decide (m < 16) && decide (data < 2 ^ (8 * len))) (mwAccess m write offset len data)

/-- MW_DISABLE (R66). -/
def execMwDisable (m : Nat) (s : State) : Host.Outcome State Fault Refusal :=
  s.mach (decide (m < 16)) (mgAct free (saved (mwDisable m)))

end Sys2Proof.Machine
end

