-- ==== Sys2Proof/Machine/LaneCmd.lean ====
section
/-! DEFINITION. The meanings of lane blocks and lanes (chapter 4). -/

namespace Sys2Proof.Machine

/-- REFCLK_WINDOW (R103). -/
def execRefclkWindow (b : Nat) (ppm : Int) (s : State) : Host.Outcome State Fault Refusal :=
  s.mach (decide (b < 36)) (refWindow b ppm)

/-- REFCLK_EDGE_LOSS (R103). -/
def execRefclkEdgeLoss (b : Nat) (s : State) : Host.Outcome State Fault Refusal := s.mach (decide (b < 36)) (refEdgeLoss b)

/-- PLL_UNLOCK (R104). -/
def execPllUnlock (b : Nat) (s : State) : Host.Outcome State Fault Refusal := s.mach (decide (b < 36)) (pllUnlock b)

/-- PLL_RELOCK (R104). -/
def execPllRelock (b : Nat) (s : State) : Host.Outcome State Fault Refusal := s.mach (decide (b < 36)) (pllRelock b)

/-- DOZE_ENTRY (R108). -/
def execDozeEntry (n : Nat) (s : State) (level : Nat := 2) (pm : Bool := false) : Host.Outcome State Fault Refusal :=
  s.mach (decide (n < 288) && decide (level < 3)) (dozeEntry n level pm)

/-- DOZE_EXIT_REQUEST (R109). -/
def execDozeExitRequest (n : Nat) (s : State) : Host.Outcome State Fault Refusal :=
  s.mach (decide (n < 288)) (dozeExitRequest n)

/-- DOZE_EXIT_DONE (R109). -/
def execDozeExitDone (n : Nat) (us : Nat) (s : State) : Host.Outcome State Fault Refusal :=
  s.mach (decide (n < 288) && decide (us < 65536)) (dozeExitDone n us)

/-- LANE_MODE_SET (R111). -/
def execLaneModeSet (n : Nat) (raw : Bool) (s : State) : Host.Outcome State Fault Refusal :=
  s.mach (decide (n < 288)) (actIn (laneDomain n) (laneModeCheck n raw) (laneModeSet n raw))

/-- CHK_LOCK (R114). -/
def execChkLock (n : Nat) (s : State) : Host.Outcome State Fault Refusal := s.mach (decide (n < 288)) (chkLock n)

/-- CHK_LOST (R114). -/
def execChkLost (n : Nat) (s : State) : Host.Outcome State Fault Refusal := s.mach (decide (n < 288)) (chkLost n)

/-- PRBS_COUNTERS_STOP (R115). -/
def execPrbsCountersStop (n : Nat) (s : State) : Host.Outcome State Fault Refusal := s.mach (decide (n < 288)) (prbsStop n)

/-- PRBS_CLEAR (R115). -/
def execPrbsClear (n : Nat) (s : State) : Host.Outcome State Fault Refusal :=
  s.mach (decide (n < 288)) (actIn (laneDomain n) free (prbsClear n))

/-- PRBS_SNAP (R116). -/
def execPrbsSnap (n : Nat) (s : State) : Host.Outcome State Fault Refusal :=
  s.mach (decide (n < 288)) (actIn (laneDomain n) free (prbsSnap n))

/-- PRBS_INJECT (R117). -/
def execPrbsInject (n : Nat) (s : State) : Host.Outcome State Fault Refusal :=
  s.mach (decide (n < 288)) (actIn (laneDomain n) free (prbsInject n))

/-- SLIP (R118). -/
def execSlip (n : Nat) (s : State) : Host.Outcome State Fault Refusal :=
  s.mach (decide (n < 288)) (actIn (laneDomain n) (slipCheck n) (slip n))

/-- SLIP_DONE (R118). -/
def execSlipDone (n : Nat) (s : State) : Host.Outcome State Fault Refusal := s.mach (decide (n < 288)) (slipDone n)

/-- ALIGN_DETECT (R119). -/
def execAlignDetect (n : Nat) (word : Nat) (more : List Nat) (s : State) : Host.Outcome State Fault Refusal :=
  s.mach (decide (n < 288)) (alignDetect n (word :: more))

end Sys2Proof.Machine
end

