-- ==== Sys2Proof/Machine/PortCmd.lean ====
section
/-! DEFINITION. The meanings of ports, links, virtual switches and binding (chapter 3). -/

namespace Sys2Proof.Machine

/-- FLIT_RECEIVED (R28). -/
def execFlitReceived (f : Flit) (s : State) : Host.Outcome State Fault Refusal := s.mach (wfFlit f) (flitReceived f)

/-- PORT_ENABLE (R69). -/
def execPortEnable (p : Nat) (s : State) : Host.Outcome State Fault Refusal :=
  s.mach (decide (p < 64)) (actIn (portDomain p) (portEnableCheck p) (saved (portEnable p)))

/-- PORT_DISABLE (R69). -/
def execPortDisable (p : Nat) (s : State) : Host.Outcome State Fault Refusal :=
  s.mach (decide (p < 64)) (actIn (portDomain p) free (saved (portDisable p)))

/-- LINK_RETRAIN (R520). -/
def execLinkRetrain (p : Nat) (s : State) : Host.Outcome State Fault Refusal :=
  s.mach (decide (p < 64)) (actIn (portDomain p) (linkCtrlCheck p 1) (linkRetrain p))

/-- LINK_HOT_RESET (R520). -/
def execLinkHotReset (p : Nat) (s : State) : Host.Outcome State Fault Refusal :=
  s.mach (decide (p < 64)) (actIn (portDomain p) (linkCtrlCheck p 2) (linkHotReset p))

/-- LINK_DISABLE (R520). -/
def execLinkDisable (p : Nat) (s : State) : Host.Outcome State Fault Refusal :=
  s.mach (decide (p < 64)) (actIn (portDomain p) (linkCtrlCheck p 3) (linkDisable p))

/-- LINK_ENABLE (R520). -/
def execLinkEnable (p : Nat) (s : State) : Host.Outcome State Fault Refusal :=
  s.mach (decide (p < 64)) (actIn (portDomain p) (linkCtrlCheck p 4) (linkEnable p))

/-- LINK_TRAINING_DONE (R71). -/
def execLinkTrainingDone (p : Nat) (t : Trained) (s : State) : Host.Outcome State Fault Refusal :=
  s.mach (decide (p < 64) && wfTrained t) (trainingDone p t)

/-- L0P_WIDTH_CHANGE (R73). -/
def execL0pWidthChange (p : Nat) (lanes : Nat) (s : State) : Host.Outcome State Fault Refusal :=
  s.mach (decide (p < 64)) (l0pChange p lanes)

/-- KEY_GO (R74). -/
def execKeyGo (p : Nat) (s : State) : Host.Outcome State Fault Refusal :=
  s.mach (decide (p < 64)) (actIn (portDomain p) free (keyGo p))

/-- VCS_ENABLE (R76). -/
def execVcsEnable (v : Nat) (s : State) : Host.Outcome State Fault Refusal :=
  s.mach (decide (v < 64)) (act (vcsEnableCheck v) (saved (vcsEnable v)))

/-- VCS_DISABLE (R516). -/
def execVcsDisable (v : Nat) (s : State) : Host.Outcome State Fault Refusal :=
  s.mach (decide (v < 64)) (act free (saved (vcsOff v)))

/-- CXL_CACHE_REQUEST (R79). -/
def execCxlCacheRequest (p : Nat) (ld : Nat) (cacheId : Nat) (addr : Nat) (s : State) : Host.Outcome State Fault Refusal :=
  s.mach (decide (p < 64) && decide (ld < 16) && decide (cacheId < 16) && decide (addr < 2 ^ 52)) (cacheRequest p ld cacheId addr)

/-- BIND (R81). -/
def execBind (v : Nat) (vppb : Nat) (port : Nat) (ld : Nat) (ldValid : Bool) (s : State) : Host.Outcome State Fault Refusal :=
  s.mach (decide (v < 64) && decide (vppb < 1024) && decide (port < 64) && decide (ld < 16)) (act (bindReqCheck 1 vppb 0) (bindStart v vppb port (if ldValid then some ld else none)))

/-- UNBIND (R83). -/
def execUnbind (v : Nat) (vppb : Nat) (mode : Nat) (s : State) : Host.Outcome State Fault Refusal :=
  s.mach (decide (v < 64) && decide (vppb < 1024)) (act (bindReqCheck 2 vppb mode) (unbindStart v vppb mode))

/-- SECONDARY_BUS_WRITE (R82). -/
def execSecondaryBusWrite (vppb : Nat) (bus : Nat) (s : State) : Host.Outcome State Fault Refusal :=
  s.mach (decide (vppb < 1024)) (secondaryBusWrite vppb bus)

/-- VPPB_LINK_DOWN (R83). -/
def execVppbLinkDown (vppb : Nat) (s : State) : Host.Outcome State Fault Refusal :=
  s.mach (decide (vppb < 1024)) (vppbLinkDown vppb)

/-- UNBIND_REMOVAL_TIMEOUT (R83). -/
def execUnbindRemovalTimeout (s : State) : Host.Outcome State Fault Refusal := s.mach true unbindRemovalTimeout

/-- UNBIND_DRAIN_DONE (R83). -/
def execUnbindDrainDone (s : State) : Host.Outcome State Fault Refusal := s.mach true unbindDrainDone

/-- PERST_HOLD_EXPIRY (R85). -/
def execPerstHoldExpiry (p : Nat) (s : State) : Host.Outcome State Fault Refusal :=
  s.mach (decide (p < 64)) (perstHoldExpiry p)

/-- PERST_REQUEST (R86). -/
def execPerstRequest (g : Nat) (value : Bool) (s : State) : Host.Outcome State Fault Refusal :=
  s.mach (decide (g < 16)) (actIn (portDomain (4 * g)) free (perstRequest (4 * g) value))

/-- LINK_LOST (R87). -/
def execLinkLost (p : Nat) (s : State) : Host.Outcome State Fault Refusal := s.mach (decide (p < 64)) (linkLost p)

/-- RECEIVER_DETECTION (R71). -/
def execReceiverDetection (p : Nat) (present : Bool) (s : State) : Host.Outcome State Fault Refusal :=
  s.mach (decide (p < 64)) (receiverDetection p present)

/-- IN_BAND_HOT_RESET (R86). -/
def execInBandHotReset (p : Nat) (s : State) : Host.Outcome State Fault Refusal := s.mach (decide (p < 64)) (inBandReset p)

end Sys2Proof.Machine
end

