-- ==== Sys2Proof/Machine/PowerCmd.lean ====
section
/-! DEFINITION. The meanings of power domains, clocks, margin plans, temperatures and voltages (chapter 18). -/

namespace Sys2Proof.Machine

/-- PD_ON (R473). -/
def execPdOn (m : Nat) (s : State) : Host.Outcome State Fault Refusal := s.dev (decide (m < 77)) (heard (pdCommand m 1))

/-- PD_OFF (R474). -/
def execPdOff (m : Nat) (s : State) : Host.Outcome State Fault Refusal := s.dev (decide (m < 77)) (heard (pdCommand m 0))

/-- PD_RESET (R475). -/
def execPdReset (m : Nat) (s : State) : Host.Outcome State Fault Refusal :=
  s.mach (decide (m < 77)) (act (pdResetCheck m) (pdReset m))

/-- QUIESCE_DONE (R474). -/
def execQuiesceDone (m : Nat) (s : State) : Host.Outcome State Fault Refusal := s.mach (decide (m < 77)) (quiesceDone m)

/-- STAGER_GRANT (R476). -/
def execStagerGrant (s : State) : Host.Outcome State Fault Refusal := s.mach true stagerGrant

/-- RAMP_DONE (R473). -/
def execRampDone (m : Nat) (s : State) : Host.Outcome State Fault Refusal := s.dev (decide (m < 77)) (rampCommand m)

/-- DOMAIN_FAIL (R473). -/
def execDomainFail (m : Nat) (s : State) : Host.Outcome State Fault Refusal := s.mach (decide (m < 77)) (domainFail m)

/-- CLOCK_FAULT (R478). -/
def execClockFault (ppm : Int) (s : State) : Host.Outcome State Fault Refusal := s.mach true (clockFault ppm)

/-- CLOCK_RECOVER (R478). -/
def execClockRecover (s : State) : Host.Outcome State Fault Refusal := s.mach true clockRecover

/-- DROOP (R479). -/
def execDroop (level : Nat) (s : State) : Host.Outcome State Fault Refusal := s.mach (decide (level < 6)) (droop level)

/-- STRETCH_RELAX (R479). -/
def execStretchRelax (s : State) : Host.Outcome State Fault Refusal := s.mach true stretchRelax

/-- AVS_STEP (R480). -/
def execAvsStep (ack : Bool) (readback : Nat) (s : State) : Host.Outcome State Fault Refusal :=
  s.mach true (avsStep ack readback)

/-- PLAN_NOW (R482). -/
def execPlanNow (s : State) : Host.Outcome State Fault Refusal := s.mach true (act planCheck (planStart true))

/-- PLAN_PERIOD_EXPIRY (R481). -/
def execPlanPeriodExpiry (s : State) : Host.Outcome State Fault Refusal := s.mach true planPeriod

/-- PLAN_MEASURE_DONE (R482). -/
def execPlanMeasureDone (slacks : List Int) (temp : Int) (s : State) : Host.Outcome State Fault Refusal :=
  s.mach true (planMeasured slacks temp)

/-- TEMP_SAMPLE (R483). -/
def execTempSample (temps : List Int) (s : State) : Host.Outcome State Fault Refusal := s.mach true (tempSample temps)

/-- T_CLEAR (R483). -/
def execTClear (i : Nat) (s : State) : Host.Outcome State Fault Refusal := s.mach (decide (i < 48)) (act free (tempClear i))

/-- V_CLEAR (R485). -/
def execVClear (v : Nat) (s : State) : Host.Outcome State Fault Refusal := s.mach (decide (v < 40)) (act free (voltClear v))

end Sys2Proof.Machine
end

