-- ==== Sys2Proof/Machine/ProtectCmd.lean ====
section
/-! DEFINITION. The meanings of pool windows and protection rules (chapters 8 and 9). -/

namespace Sys2Proof.Machine

/-- WINDOW_ENABLE (R279). -/
def execWindowEnable (w : Nat) (s : State) : Host.Outcome State Fault Refusal :=
  s.mach (decide (w < 1024)) (act (windowEnableCheck w) (saved (windowEnable w)))

/-- WINDOW_DISABLE (R286). -/
def execWindowDisable (w : Nat) (s : State) : Host.Outcome State Fault Refusal :=
  s.mach (decide (w < 1024)) (act free (saved (windowDisable w)))

/-- WINDOW_DRAIN_DONE (R286). -/
def execWindowDrainDone (w : Nat) (s : State) : Host.Outcome State Fault Refusal :=
  s.mach (decide (w < 1024)) (windowDrainDone w)

/-- RULE_CHECK_DONE (R296). -/
def execRuleCheckDone (site : Site) (s : State) : Host.Outcome State Fault Refusal :=
  s.mach (wfSite site) (ruleCheckDone (siteNo site))

/-- RULE_COPY (R295). -/
def execRuleCopy (site : Site) (s : State) : Host.Outcome State Fault Refusal :=
  s.mach (wfSite site) (heardMach <| siteAct (siteNo site) (act (ruleCopyCheck (siteNo site)) (ruleCopy (siteNo site))))

/-- RULE_COPY_DONE (R295). -/
def execRuleCopyDone (site : Site) (s : State) : Host.Outcome State Fault Refusal :=
  s.mach (wfSite site) (ruleCopyDone (siteNo site))

/-- SWAP (R297). -/
def execSwap (site : Site) (s : State) : Host.Outcome State Fault Refusal :=
  s.mach (wfSite site) (heardMach (siteAct (siteNo site) (swapCommand (siteNo site))))

/-- SWAP_DONE (R298). -/
def execSwapDone (site : Site) (s : State) : Host.Outcome State Fault Refusal :=
  s.mach (wfSite site) (swapTest (siteNo site))

end Sys2Proof.Machine
end

