-- ==== Sys2Proof/Machine/RequestCmd.lean ====
section
/-! DEFINITION. The meanings of requests and responses at ports and seams (chapters 3, 8 and 9). -/

namespace Sys2Proof.Machine

/-- CXL_IO_REQUEST (R90). -/
def execCxlIoRequest (r : IoReq) (s : State) : Host.Outcome State Fault Refusal := s.mach (wfIo r) (ioRequest false r)

/-- LOCKED_READ (R91). -/
def execLockedRead (r : IoReq) (s : State) : Host.Outcome State Fault Refusal := s.mach (wfIo r) (ioRequest true r)

/-- UNLOCK (R91). -/
def execUnlock (p : Nat) (target : Nat) (s : State) : Host.Outcome State Fault Refusal :=
  s.mach (decide (p < 67)) (unlock p target)

/-- LOCK_LIMIT_EXPIRY (R91). -/
def execLockLimitExpiry (target : Nat) (s : State) : Host.Outcome State Fault Refusal := s.mach true (lockLimit target)

/-- CPL_TIMEOUT (R93). -/
def execCplTimeout (p : Nat) (tag : Nat) (s : State) : Host.Outcome State Fault Refusal :=
  s.mach (decide (p < 67)) (cplTimeout p tag)

/-- TARGET_RESPONSE (R224). -/
def execTargetResponse (p : Nat) (tag : Nat) (r : Response) (s : State) : Host.Outcome State Fault Refusal :=
  s.mach (decide (p < 67) && wfResponse r) (targetResponse p tag r)

/-- FAR_ERROR_OPEN (R94). -/
def execFarErrorOpen (p : Nat) (tag : Nat) (status : Nat) (s : State) : Host.Outcome State Fault Refusal :=
  s.mach (decide (p < 67)) (farError p tag status)

/-- FAR_ERROR_CLOSED (R95). -/
def execFarErrorClosed (p : Nat) (tag : Nat) (s : State) : Host.Outcome State Fault Refusal :=
  s.mach (decide (p < 67)) fun m => if (findEgress m p tag).isNone then farErrorClosed p m else m

/-- CXL_MEM_REQUEST (R281). -/
def execCxlMemRequest (r : MemReq) (s : State) : Host.Outcome State Fault Refusal := s.mach (wfMem r) (memRequest r)

/-- ATOMICOP (R262). -/
def execAtomicop (r : IoReq) (s : State) : Host.Outcome State Fault Refusal :=
  s.mach (wfIo r) fun m => if r.kind = 2 then ioRequest false r m else m

/-- RELEASE_NOTICE (R393). -/
def execReleaseNotice (p : Nat) (tag : Nat) (s : State) : Host.Outcome State Fault Refusal :=
  s.mach (decide (p < 67)) (releaseRow p tag)

end Sys2Proof.Machine
end

