-- ==== Sys2Proof/Machine/SeamCmd.lean ====
section
/-! DEFINITION. The meanings of the seam link (chapter 5). -/

namespace Sys2Proof.Machine

/-- SEAM_FRAME_SLOT (R142). -/
def execSeamFrameSlot (sn : Nat) (s : State) : Host.Outcome State Fault Refusal :=
  s.mach (decide (sn < 2)) (seamFrameSlot sn)

/-- PAYLOAD_FRAME (R131). -/
def execPayloadFrame (sn : Nat) (f : FrameIn) (s : State) : Host.Outcome State Fault Refusal :=
  s.mach (decide (sn < 2) && wfFrame f.bits && wfOuts f.outs) (frameReceived sn f.bits f.outs)

/-- CONTROL_FRAME (R134). -/
def execControlFrame (sn : Nat) (bits : Nat) (s : State) : Host.Outcome State Fault Refusal :=
  s.mach (decide (sn < 2) && wfFrame bits) (frameReceived sn bits [])

/-- INIT_FRAME (R148). -/
def execInitFrame (sn : Nat) (bits : Nat) (s : State) : Host.Outcome State Fault Refusal :=
  s.mach (decide (sn < 2) && wfFrame bits) (frameReceived sn bits [])

/-- IDLE_FRAME (R125). -/
def execIdleFrame (sn : Nat) (bits : Nat) (s : State) : Host.Outcome State Fault Refusal :=
  s.mach (decide (sn < 2) && wfFrame bits) (frameReceived sn bits [])

/-- REPLAY_TIMER (R136). -/
def execReplayTimer (sn : Nat) (s : State) : Host.Outcome State Fault Refusal := s.mach (decide (sn < 2)) (replayTimer sn)

/-- ACK_TIMER (R133). -/
def execAckTimer (sn : Nat) (s : State) : Host.Outcome State Fault Refusal := s.mach (decide (sn < 2)) (ackTimer sn)

/-- LCMD_PROPOSE (R143). -/
def execLcmdPropose (sn : Nat) (mask : Nat) (tag : Nat) (aligned : Bool) (s : State) : Host.Outcome State Fault Refusal :=
  s.mach (decide (sn < 2) && decide (mask < 16)) (lcmdPropose sn mask tag aligned)

/-- LCMD_ACCEPT (R144). -/
def execLcmdAccept (sn : Nat) (mask : Nat) (tag : Nat) (s : State) : Host.Outcome State Fault Refusal :=
  s.mach (decide (sn < 2) && decide (mask < 16)) (lcmdAccept sn mask tag)

/-- LCMD_REFUSE (R143). -/
def execLcmdRefuse (sn : Nat) (mask : Nat) (tag : Nat) (s : State) : Host.Outcome State Fault Refusal :=
  s.mach (decide (sn < 2) && decide (mask < 16)) (lcmdRefuse sn mask tag)

/-- LCMD_SWITCH (R144). -/
def execLcmdSwitch (sn : Nat) (mask : Nat) (x : SwitchIn) (s : State) : Host.Outcome State Fault Refusal :=
  s.mach (decide (sn < 2) && decide (mask < 16)) (lcmdSwitch sn mask x.tag x.left)

/-- LCMD_WAKE (R145). -/
def execLcmdWake (sn : Nat) (mask : Nat) (s : State) : Host.Outcome State Fault Refusal :=
  s.mach (decide (sn < 2) && decide (mask < 16)) (lcmdWake sn mask)

/-- LCMD_DOZE (R145). -/
def execLcmdDoze (sn : Nat) (mask : Nat) (s : State) : Host.Outcome State Fault Refusal :=
  s.mach (decide (sn < 2) && decide (mask < 16)) (lcmdDoze sn mask)

/-- LCMD_TIMEOUT (R143). -/
def execLcmdTimeout (sn : Nat) (s : State) : Host.Outcome State Fault Refusal := s.mach (decide (sn < 2)) (lcmdTimeout sn)

/-- LANE_ERR_WINDOW (R146). -/
def execLaneErrWindow (sn : Nat) (s : State) : Host.Outcome State Fault Refusal :=
  s.mach (decide (sn < 2)) (laneErrWindow sn)

/-- SEAM_ENABLE (R147). -/
def execSeamEnable (sn : Nat) (s : State) : Host.Outcome State Fault Refusal :=
  s.mach (decide (sn < 2)) (actIn 63 (seamEnableCheck sn) (saved (seamEnable sn)))

/-- SEAM_DISABLE (R150). -/
def execSeamDisable (sn : Nat) (s : State) : Host.Outcome State Fault Refusal :=
  s.mach (decide (sn < 2)) (actIn 63 free (saved (seamDisable sn)))

/-- MANUAL_GO (R147). -/
def execManualGo (sn : Nat) (s : State) : Host.Outcome State Fault Refusal :=
  s.mach (decide (sn < 2)) (actIn 63 free (manualGo sn))

/-- SEAM_ACTIVE (R147). -/
def execSeamActive (sn : Nat) (s : State) : Host.Outcome State Fault Refusal := s.mach (decide (sn < 2)) (seamActive sn)

/-- TRAINING_TIMEOUT (R147). -/
def execTrainingTimeout (sn : Nat) (s : State) : Host.Outcome State Fault Refusal :=
  s.mach (decide (sn < 2)) (trainingTimeout sn)

/-- SEAM_DOWN_RETRY (R150). -/
def execSeamDownRetry (sn : Nat) (s : State) : Host.Outcome State Fault Refusal :=
  s.mach (decide (sn < 2)) (seamDownRetry sn)

/-- SEAM_RETRAIN (R149). -/
def execSeamRetrain (sn : Nat) (s : State) : Host.Outcome State Fault Refusal := s.mach (decide (sn < 2)) (seamRetrain sn)

/-- LANE_SIGNAL_LOSS (R149). -/
def execLaneSignalLoss (sn : Nat) (lane : Nat) (s : State) : Host.Outcome State Fault Refusal :=
  s.mach (decide (sn < 2) && decide (lane < 32)) (laneSignalLoss sn lane)

/-- RETRAIN_TIMEOUT (R149). -/
def execRetrainTimeout (sn : Nat) (s : State) : Host.Outcome State Fault Refusal :=
  s.mach (decide (sn < 2)) (retrainTimeout sn)

/-- LINK_CMD_RETRAIN (R149). -/
def execLinkCmdRetrain (sn : Nat) (s : State) : Host.Outcome State Fault Refusal :=
  s.mach (decide (sn < 2)) (actIn 63 (linkCmdCheck sn 1) (linkCmd sn 1))

/-- LINK_CMD_PROPOSE (R152). -/
def execLinkCmdPropose (sn : Nat) (s : State) : Host.Outcome State Fault Refusal :=
  s.mach (decide (sn < 2)) (actIn 63 (linkCmdCheck sn 2) (linkCmd sn 2))

/-- LINK_CMD_WAKE (R145). -/
def execLinkCmdWake (sn : Nat) (s : State) : Host.Outcome State Fault Refusal :=
  s.mach (decide (sn < 2)) (actIn 63 (linkCmdCheck sn 3) (linkCmd sn 3))

/-- LINK_CMD_DOZE (R145). -/
def execLinkCmdDoze (sn : Nat) (s : State) : Host.Outcome State Fault Refusal :=
  s.mach (decide (sn < 2)) (actIn 63 (linkCmdCheck sn 4) (linkCmd sn 4))

end Sys2Proof.Machine
end

