-- ==== Sys2Proof/Machine/SessionCmd.lean ====
section
/-! DEFINITION. The meanings of sessions, of the SPDM responder, of the MCTP endpoint and of management Ethernet (chapter 2). -/

namespace Sys2Proof.Machine

/-- SPDM_GET_VERSION (R58). -/
def execSpdmGetVersion (via : Carrier) (s : State) : Host.Outcome State Fault Refusal :=
  s.mach (wfCarrier via) (spdmAnswer via (spdm via 4 spdmVersion))

/-- SPDM_GET_CAPABILITIES (R58). -/
def execSpdmGetCapabilities (via : Carrier) (s : State) : Host.Outcome State Fault Refusal :=
  s.mach (wfCarrier via) (spdmAnswer via (spdm via 0x61 spdmCapabilities))

/-- SPDM_NEGOTIATE_ALGORITHMS (R58). -/
def execSpdmNegotiateAlgorithms (via : Carrier) (supported : Bool) (s : State) : Host.Outcome State Fault Refusal :=
  s.mach (wfCarrier via) (spdmAnswer via (if supported then spdm via 0x63 spdmAlgorithms else spdmFails via spdmInvalid))

/-- SPDM_GET_DIGESTS (R58). -/
def execSpdmGetDigests (via : Carrier) (s : State) : Host.Outcome State Fault Refusal :=
  s.mach (wfCarrier via) (spdmAnswer via (spdmFree via 1))

/-- SPDM_GET_CERTIFICATE (R58). -/
def execSpdmGetCertificate (via : Carrier) (slot : Nat) (_offset : Nat) (len : Nat) (s : State) : Host.Outcome State Fault Refusal :=
  s.dev (wfCarrier via) (getCertificate via slot len)

/-- SPDM_CHALLENGE (R58). -/
def execSpdmChallenge (via : Carrier) (slot : Nat) (_nonce : Nat) (s : State) : Host.Outcome State Fault Refusal :=
  s.dev (wfCarrier via) (challenge via slot)

/-- SPDM_GET_MEASUREMENTS (R58). -/
def execSpdmGetMeasurements (via : Carrier) (which : Nat) (s : State) : Host.Outcome State Fault Refusal :=
  s.dev (wfCarrier via) (getMeasurements via which)

/-- KEY_EXCHANGE (R50). -/
def execKeyExchange (via : Carrier) (slot : Nat) (exchange : Nat) (s : State) : Host.Outcome State Fault Refusal :=
  s.dev (wfCarrier via && decide (slot < 8) && decide (exchange < 2 ^ 768)) (keyExchange via slot)

/-- SPDM_FINISH (R50). -/
def execSpdmFinish (via : Carrier) (k : Nat) (chain : RootChain) (s : State) : Host.Outcome State Fault Refusal :=
  s.dev (wfCarrier via && decide (k < 8) && decide (chain.root < 2 ^ 384)) (finish via k chain)

/-- KEY_UPDATE (R58). -/
def execKeyUpdate (x : SpdmIn) (s : State) : Host.Outcome State Fault Refusal :=
  s.mach (wfSpdmIn x) (keyUpdate x)

/-- SPDM_HEARTBEAT (R58). -/
def execSpdmHeartbeat (x : SpdmIn) (s : State) : Host.Outcome State Fault Refusal :=
  s.mach (wfSpdmIn x) (spdmHeartbeat x)

/-- END_SESSION (R58). -/
def execEndSession (x : SpdmIn) (s : State) : Host.Outcome State Fault Refusal :=
  s.mach (wfSpdmIn x) (endSession x)

/-- KEEPALIVE (R50). -/
def execKeepalive (u : Udp) (tag : SessionTag) (s : State) : Host.Outcome State Fault Refusal :=
  s.mach (wfUdp u && wfTag tag) (keepalive u tag)

/-- SESSION_TIMEOUT (R50). -/
def execSessionTimeout (k : Nat) (s : State) : Host.Outcome State Fault Refusal :=
  s.mach (decide (k < 8)) (sessionTimeout k)

/-- SESSION_CLOSE (R50). -/
def execSessionClose (k : Nat) (s : State) : Host.Outcome State Fault Refusal :=
  s.mach (decide (k < 8)) (mgAct free (closeSession k))

/-- NOTIFY_ACK (R53). -/
def execNotifyAck (u : Udp) (ack : AckIn) (s : State) : Host.Outcome State Fault Refusal :=
  s.mach (wfUdp u && wfTag ack.tag) (preocIn u ack.tag fun k => notifyAck k ack.seq)

/-- NOTIFY_RETRY_EXPIRY (R53). -/
def execNotifyRetryExpiry (k : Nat) (s : State) : Host.Outcome State Fault Refusal :=
  s.mach (decide (k < 8)) (notifyRetryExpiry k)

/-- SET_ENDPOINT_ID (R54). -/
def execSetEndpointId (eid : Nat) (s : State) (on : Medium := .bus) : Host.Outcome State Fault Refusal :=
  s.mach (wfMedium on && decide (eid < 256)) (setEid on eid)

/-- GET_ENDPOINT_ID (R54). -/
def execGetEndpointId (s : State) (on : Medium := .bus) : Host.Outcome State Fault Refusal :=
  s.mach (wfMedium on) fun m => mctpControl on 2 (currentEid m * 2 ^ 8) m

/-- GET_MCTP_VERSION_SUPPORT (R54). -/
def execGetMctpVersionSupport (s : State) (on : Medium := .bus) : Host.Outcome State Fault Refusal :=
  s.mach (wfMedium on) (mctpVersions on)

/-- GET_MESSAGE_TYPE_SUPPORT (R54). -/
def execGetMessageTypeSupport (s : State) (on : Medium := .bus) : Host.Outcome State Fault Refusal :=
  s.mach (wfMedium on) (mctpControl on 5 (messageTypes * 2 ^ 8))

/-- VDM_DROP (R56). -/
def execVdmDrop (port : Nat) (s : State) : Host.Outcome State Fault Refusal := s.mach (decide (port < 64)) (vdmDrop port)

/-- MGMT_ETH_LINK (R47). -/
def execMgmtEthLink (i : Nat) (up : Bool) (s : State) : Host.Outcome State Fault Refusal :=
  s.mach (decide (i < 2)) (ethLink i up)

/-- DHCPV4 (R47). -/
def execDhcpv4 (i : Nat) (addr : Nat) (mask : Nat) (gw : Nat) (s : State) : Host.Outcome State Fault Refusal :=
  s.mach (decide (i < 2) && decide (addr < 2 ^ 32) && decide (mask < 2 ^ 32) && decide (gw < 2 ^ 32)) (dhcp i addr mask gw)

end Sys2Proof.Machine
end

