-- ==== Sys2Proof/Machine/SliceCmd.lean ====
section
/-! DEFINITION. The meanings of slices, gate lists and needle channels (chapters 10 to 13). -/

namespace Sys2Proof.Machine

/-- SLC_ACTIVATE (R308). -/
def execSlcActivate (sn : Nat) (s : State) : Host.Outcome State Fault Refusal :=
  s.mach (decide (sn < 4096)) (act (sliceCtrlCheck sn 1) (sliceCtrl sn 1))

/-- SLC_RESET (R322). -/
def execSlcReset (sn : Nat) (s : State) : Host.Outcome State Fault Refusal :=
  s.mach (decide (sn < 4096)) (act (sliceCtrlCheck sn 2) (sliceCtrl sn 2))

/-- SLC_DECLARE_DEAD (R325). -/
def execSlcDeclareDead (sn : Nat) (s : State) : Host.Outcome State Fault Refusal :=
  s.mach (decide (sn < 4096)) (act (sliceCtrlCheck sn 3) (sliceCtrl sn 3))

/-- SLC_FREE (R326). -/
def execSlcFree (sn : Nat) (s : State) : Host.Outcome State Fault Refusal :=
  s.mach (decide (sn < 4096)) (act (sliceCtrlCheck sn 4) (sliceCtrl sn 4))

/-- SLICE_RESET_END (R327). -/
def execSliceResetEnd (sn : Nat) (s : State) : Host.Outcome State Fault Refusal :=
  s.mach (decide (sn < 4096)) (sliceResetEnd sn)

/-- SLC_CLASSES_WRITE (R314). -/
def execSlcClassesWrite (sn : Nat) (value : Nat) (s : State) : Host.Outcome State Fault Refusal :=
  s.mach (decide (sn < 4096) && decide (value < 2 ^ 32)) (act (classesCheck sn value) (saved (classesWrite sn value)))

/-- CLASS_HOLD_END (R314). -/
def execClassHoldEnd (sn : Nat) (kind : Nat) (s : State) : Host.Outcome State Fault Refusal :=
  s.mach (decide (sn < 4096)) (classHoldEnd sn kind)

/-- SLC_NEEDLE_WRITE (R315). -/
def execSlcNeedleWrite (sn : Nat) (value : Nat) (s : State) : Host.Outcome State Fault Refusal :=
  s.mach (decide (sn < 4096) && decide (value < 2 ^ 128)) (act (slcNeedleCheck sn value) (saved (slcNeedleWrite sn value)))

/-- SLC_CAUSE_WRITE (R319). -/
def execSlcCauseWrite (sn : Nat) (value : Nat) (s : State) : Host.Outcome State Fault Refusal :=
  s.mach (decide (sn < 4096) && decide (value < 2 ^ 32)) (act free (causeWrite sn value))

/-- SLC_VECTORS_WRITE (R319). -/
def execSlcVectorsWrite (sn : Nat) (value : Nat) (s : State) : Host.Outcome State Fault Refusal :=
  s.mach (decide (sn < 4096) && decide (value < 2 ^ 1024)) (act (fun _ => vectorsCheck value) (vectorsWrite sn value))

/-- TG_COMMIT (R348). -/
def execTgCommit (p : Nat) (s : State) : Host.Outcome State Fault Refusal :=
  s.mach (decide (p < 64)) (actIn (portDomain p) (tgCommitCheck p) (tgCommit p))

/-- TG_TAKEOVER (R348). -/
def execTgTakeover (p : Nat) (s : State) : Host.Outcome State Fault Refusal := s.mach (decide (p < 64)) (tgTakeover p)

/-- CH_START (R358). -/
def execChStart (c : Nat) (s : State) : Host.Outcome State Fault Refusal :=
  s.mach (decide (c < 128)) (actIn 62 (chStartCheck c) (chStart c))

/-- CH_STOP (R376). -/
def execChStop (c : Nat) (s : State) : Host.Outcome State Fault Refusal :=
  s.mach (decide (c < 128)) (actIn 62 (chStopCheck c) (stopChan c))

/-- CH_STOP_DONE (R376). -/
def execChStopDone (c : Nat) (s : State) : Host.Outcome State Fault Refusal := s.mach (decide (c < 128)) (chStopDone c)

/-- RING_TAIL_DOORBELL (R361). -/
def execRingTailDoorbell (c : Nat) (tail : Nat) (s : State) : Host.Outcome State Fault Refusal :=
  s.mach (decide (c < 128)) (actIn 62 (tailCheck c tail) (·.wr (Chan.RING_TAIL c) tail))

/-- DESC_FETCH (R362). -/
def execDescFetch (c : Nat) (host : Nat) (s : State) : Host.Outcome State Fault Refusal :=
  s.mach (decide (c < 128)) (descFetch c host)

/-- FETCH_FAIL (R375). -/
def execFetchFail (c : Nat) (s : State) : Host.Outcome State Fault Refusal := s.mach (decide (c < 128)) (fetchFail c)

/-- DESC_CHECK_VERDICT (R366). -/
def execDescCheckVerdict (c : Nat) (s : State) : Host.Outcome State Fault Refusal :=
  s.mach (decide (c < 128)) (descCheckVerdict c)

/-- DESC_COMPLETE (R371). -/
def execDescComplete (c : Nat) (result : Nat) (s : State) : Host.Outcome State Fault Refusal :=
  s.mach (decide (c < 128)) (descComplete c result)

/-- DESC_FAIL (R374). -/
def execDescFail (c : Nat) (poison : Bool) (written : Nat) (s : State) : Host.Outcome State Fault Refusal :=
  s.mach (decide (c < 128)) (descFail c poison written)

end Sys2Proof.Machine
end

