-- ==== Sys2Proof/Machine/SlotCmd.lean ====
section
/-! DEFINITION. The meanings of the card slots (chapter 15). -/

namespace Sys2Proof.Machine

/-- PWR_EN_WRITE (R414). -/
def execPwrEnWrite (t : Nat) (value : Bool) (s : State) : Host.Outcome State Fault Refusal :=
  s.mach (decide (t < 32)) (actIn 76 free (saved (slotWrite (Slot.PWR_EN t) (if value then 1 else 0))))

/-- PRESENCE_FILTER (R422). -/
def execPresenceFilter (t : Nat) (present : Bool) (s : State) : Host.Outcome State Fault Refusal :=
  s.mach (decide (t < 32)) (whenDue (filterDue t 0) (presenceFilter t present))

/-- INSERTION_DEBOUNCE_END (R422). -/
def execInsertionDebounceEnd (t : Nat) (s : State) : Host.Outcome State Fault Refusal :=
  s.mach (decide (t < 32)) (whenDue (debounceDue t) (debounceEnd t))

/-- REMOVAL_DECLARED (R422). -/
def execRemovalDeclared (t : Nat) (s : State) : Host.Outcome State Fault Refusal :=
  s.mach (decide (t < 32)) (whenDue (removalDue t) (removalDeclared t))

/-- RAMP_ADMIT (R415). -/
def execRampAdmit (t : Nat) (s : State) : Host.Outcome State Fault Refusal := s.mach (decide (t < 32)) (rampAdmit t)

/-- RAMP_TIMEOUT (R416). -/
def execRampTimeout (t : Nat) (s : State) : Host.Outcome State Fault Refusal :=
  s.mach (decide (t < 32)) (whenDue (rampDue t) (slotRampTimeout t))

/-- FAULT_TIMER_EXPIRY (R417). -/
def execFaultTimerExpiry (t : Nat) (s : State) : Host.Outcome State Fault Refusal :=
  s.mach (decide (t < 32)) (whenDue (faultDue t) (faultExpiry t))

/-- SHORT_CIRCUIT (R418). -/
def execShortCircuit (t : Nat) (senseUv : Nat) (s : State) : Host.Outcome State Fault Refusal :=
  s.mach (decide (t < 32)) (shortCircuit t senseUv)

/-- POWER_GOOD (R419). -/
def execPowerGood (t : Nat) (s : State) : Host.Outcome State Fault Refusal :=
  s.mach (decide (t < 32)) (whenDue (goodDue t) (slotPowerGood t))

/-- PG_LOST (R419). -/
def execPgLost (t : Nat) (s : State) : Host.Outcome State Fault Refusal :=
  s.mach (decide (t < 32)) (whenDue (pgLostDue t) (pgLost t))

/-- RETRY_TIMER_EXPIRY (R421). -/
def execRetryTimerExpiry (t : Nat) (s : State) : Host.Outcome State Fault Refusal :=
  s.mach (decide (t < 32)) (whenDue (retryDue t) (retryExpiry t))

/-- RETRY_COUNT_RESET (R421). -/
def execRetryCountReset (t : Nat) (s : State) : Host.Outcome State Fault Refusal :=
  s.mach (decide (t < 32)) (whenDue (goodHeld t) (retryCountReset t))

/-- UV_HOLD (R426). -/
def execUvHold (t : Nat) (s : State) : Host.Outcome State Fault Refusal :=
  s.mach (decide (t < 32)) (whenDue (uvDue t) (uvHold t))

/-- UV_RECOVERY (R414). -/
def execUvRecovery (t : Nat) (s : State) : Host.Outcome State Fault Refusal :=
  s.mach (decide (t < 32)) (whenDue (uvGone t) (uvRecovery t))

/-- FET_CHECK_FAIL (R427). -/
def execFetCheckFail (t : Nat) (s : State) : Host.Outcome State Fault Refusal :=
  s.mach (decide (t < 32)) (whenDue (fetDue t) (fetFail t))

/-- FET_RECHECK (R427). -/
def execFetRecheck (t : Nat) (s : State) : Host.Outcome State Fault Refusal :=
  s.mach (decide (t < 32)) (actIn 76 free (slotWrite (Slot.SLOT_CMD t) 1))

/-- FET_RECHECK_DONE (R427). -/
def execFetRecheckDone (t : Nat) (pass : Bool) (s : State) : Host.Outcome State Fault Refusal :=
  s.mach (decide (t < 32)) (whenDue (recheckDue t) (recheckDone t pass))

/-- AUX_RESTORE (R429). -/
def execAuxRestore (t : Nat) (s : State) : Host.Outcome State Fault Refusal :=
  s.mach (decide (t < 32)) (actIn 76 free (slotWrite (Slot.SLOT_CMD t) 2))

/-- AUX_FAULT (R429). -/
def execAuxFault (t : Nat) (s : State) : Host.Outcome State Fault Refusal :=
  s.mach (decide (t < 32)) (whenDue (auxDue t) (auxFault t))

/-- BUTTON (R425). -/
def execButton (t : Nat) (s : State) : Host.Outcome State Fault Refusal :=
  s.mach (decide (t < 32)) (whenDue (filterDue t 1) (buttonOn t))

/-- ALERT (R425). -/
def execAlert (t : Nat) (s : State) : Host.Outcome State Fault Refusal :=
  s.mach (decide (t < 32)) (whenDue (filterDue t 2) (alertOn t))

/-- SLOT_INPUT_CHATTER (R424). -/
def execSlotInputChatter (t : Nat) (input : Nat) (s : State) : Host.Outcome State Fault Refusal :=
  s.mach (decide (t < 32)) (whenDue (inputChatters · t input) (inputChatter t input))

/-- SLOT_INPUT_STUCK (R424). -/
def execSlotInputStuck (t : Nat) (input : Nat) (s : State) : Host.Outcome State Fault Refusal :=
  s.mach (decide (t < 32)) (whenDue (stuckDue t input) (inputStuck t input))

/-- INPUT_REARM (R424). -/
def execInputRearm (t : Nat) (bits : Nat) (s : State) : Host.Outcome State Fault Refusal :=
  s.mach (decide (t < 32)) (actIn 76 free (slotWrite (Slot.INPUT_REARM t) bits))

/-- LED_BLINK_TOGGLE (R430). -/
def execLedBlinkToggle (s : State) : Host.Outcome State Fault Refusal := s.mach true blinkToggle

end Sys2Proof.Machine
end

