-- ==== Sys2Proof/Machine/StitchCmd.lean ====
section
/-! DEFINITION. The meanings of the clock of the switch: stitches, slot ticks and refill boundaries (chapter 1). -/

namespace Sys2Proof.Machine

/-- STITCH_STROBE (R19). -/
def execStitchStrobe (env : StitchEnv) (s : State) : Host.Outcome State Fault Refusal := s.dev (wfEnv env) (strobe env)

/-- SLOT_TICK (R11). -/
def execSlotTick (env : TickEnv) (s : State) : Host.Outcome State Fault Refusal :=
  s.mach (wfTick env) (Sys2Proof.Machine.slotTick env)

/-- REFILL_BOUNDARY (R23). -/
def execRefillBoundary (s : State) : Host.Outcome State Fault Refusal := s.mach true refillBoundary

/-- LOST_STITCH (R24). -/
def execLostStitch (s : State) : Host.Outcome State Fault Refusal := s.mach true lostStitch

end Sys2Proof.Machine
end

