-- ==== Sys2Proof/Machine/TwinCmd.lean ====
section
/-! DEFINITION. The meanings of the twin pair (chapter 14). -/

namespace Sys2Proof.Machine

/-- TWIN_ENABLE (R386). -/
def execTwinEnable (s : State) : Host.Outcome State Fault Refusal := s.mach true (act twinEnableCheck (saved twinEnable))

/-- TWIN_DISABLE (R386). -/
def execTwinDisable (s : State) : Host.Outcome State Fault Refusal := s.mach true (act twinDisableCheck (saved twinDisable))

/-- HELLO (R386). -/
def execHello (h : PairMsg) (s : State) : Host.Outcome State Fault Refusal := s.mach true (helloIn h)

/-- PAIRING_FLUSH_DONE (R386). -/
def execPairingFlushDone (s : State) : Host.Outcome State Fault Refusal := s.mach true pairingFlushDone

/-- HEARTBEAT (R399). -/
def execHeartbeat (h : PairMsg) (s : State) : Host.Outcome State Fault Refusal := s.mach true (heartbeatIn h)

/-- HEARTBEAT_TIMER (R396). -/
def execHeartbeatTimer (s : State) : Host.Outcome State Fault Refusal := s.mach true heartbeatTimer

/-- TREQ_TIMER (R396). -/
def execTreqTimer (s : State) : Host.Outcome State Fault Refusal := s.mach true treqTimer

/-- TREQ (R396). -/
def execTreq (t1 : Nat) (s : State) : Host.Outcome State Fault Refusal := s.mach true (treqIn t1)

/-- TRSP (R397). -/
def execTrsp (t1 : Nat) (t2 : Nat) (t3 : Nat) (s : State) : Host.Outcome State Fault Refusal :=
  s.mach true (trspIn t1 t2 t3)

/-- MIRROR_SWATCH (R390). -/
def execMirrorSwatch (records : List MirrorRec) (s : State) : Host.Outcome State Fault Refusal :=
  s.mach (wfMirrors records) (mirrorSwatchIn records)

/-- HANDOVER (R409). -/
def execHandover (c : Nat) (s : State) : Host.Outcome State Fault Refusal := s.mach (decide (c < 4)) (handover c)

/-- SEAM_HB_LOST (R399). -/
def execSeamHbLost (s : State) : Host.Outcome State Fault Refusal := s.mach true seamHbTimeout

/-- SENSE_LOST (R400). -/
def execSenseLost (s : State) : Host.Outcome State Fault Refusal := s.mach true senseLost

/-- SENSE_REARM (R400). -/
def execSenseRearm (stillChattering : Bool) (s : State) : Host.Outcome State Fault Refusal :=
  s.mach true (act free (senseRearm stillChattering))

/-- WITNESS_SURVIVE (R404). -/
def execWitnessSurvive (incident : Nat) (s : State) : Host.Outcome State Fault Refusal :=
  s.mach true (heardMach (witness incident survive))

/-- WITNESS_YIELD (R406). -/
def execWitnessYield (incident : Nat) (s : State) : Host.Outcome State Fault Refusal :=
  s.mach true (heardMach (witness incident yieldTwin))

/-- WITNESS_TIMEOUT (R403). -/
def execWitnessTimeout (s : State) : Host.Outcome State Fault Refusal := s.mach true witnessTimeout

/-- SYNC_DONE (R408). -/
def execSyncDone (s : State) : Host.Outcome State Fault Refusal := s.mach true syncDone

/-- HANDBACK (R409). -/
def execHandback (s : State) : Host.Outcome State Fault Refusal := s.mach true (act handbackCheck handback)

/-- HANDBACK_DONE (R409). -/
def execHandbackDone (s : State) : Host.Outcome State Fault Refusal := s.mach true handbackDone

/-- PPS_IN_EDGE (R398). -/
def execPpsInEdge (s : State) (ns : Nat := 0) : Host.Outcome State Fault Refusal :=
  s.mach (decide (ns < 8)) (Sys2Proof.Machine.ppsInEdge ns)

/-- PPS_OUT (R398). -/
def execPpsOut (s : State) : Host.Outcome State Fault Refusal := s.mach true ppsOut

end Sys2Proof.Machine
end

