-- ==== Sys2Proof/Machine/Dispatch.lean ====
section
/-! DEFINITION. The meaning of every command: one arm per row of spec/opcode_table.json, in its order. -/

namespace Sys2Proof.Machine

def exec (i : Instr) (s : State) : Host.Outcome State Fault Refusal :=
  match i with
  | .stitchStrobe env => Sys2Proof.Machine.execStitchStrobe env s
  | .slotTick env => Sys2Proof.Machine.execSlotTick env s
  | .refillBoundary => Sys2Proof.Machine.execRefillBoundary s
  | .lostStitch => Sys2Proof.Machine.execLostStitch s
  | .flitReceived f => Sys2Proof.Machine.execFlitReceived f s
  | .managementReset => Sys2Proof.Machine.execManagementReset s
  | .bootComplete => Sys2Proof.Machine.execBootComplete s
  | .managementWatchdog => Sys2Proof.Machine.execManagementWatchdog s
  | .read path index sub len => Sys2Proof.Machine.execRead path index sub len s
  | .write path index sub len value => Sys2Proof.Machine.execWrite path index sub len value s
  | .compareWrite path index sub len expect value => Sys2Proof.Machine.execCompareWrite path index sub len expect value s
  | .blockRead path index sub offset len => Sys2Proof.Machine.execBlockRead path index sub offset len s
  | .blockWrite path index sub offset len data => Sys2Proof.Machine.execBlockWrite path index sub offset len data s
  | .registerWrite index sub value => Sys2Proof.Machine.execRegisterWrite index sub value s
  | .pbRequest d => Sys2Proof.Machine.execPbRequest d s
  | .spdmGetVersion via => Sys2Proof.Machine.execSpdmGetVersion via s
  | .spdmGetCapabilities via => Sys2Proof.Machine.execSpdmGetCapabilities via s
  | .spdmNegotiateAlgorithms via supported => Sys2Proof.Machine.execSpdmNegotiateAlgorithms via supported s
  | .spdmGetDigests via => Sys2Proof.Machine.execSpdmGetDigests via s
  | .spdmGetCertificate via slot offset len => Sys2Proof.Machine.execSpdmGetCertificate via slot offset len s
  | .spdmChallenge via slot nonce => Sys2Proof.Machine.execSpdmChallenge via slot nonce s
  | .spdmGetMeasurements via which => Sys2Proof.Machine.execSpdmGetMeasurements via which s
  | .keyExchange via slot exchange => Sys2Proof.Machine.execKeyExchange via slot exchange s
  | .spdmFinish via k chain => Sys2Proof.Machine.execSpdmFinish via k chain s
  | .keyUpdate x => Sys2Proof.Machine.execKeyUpdate x s
  | .spdmHeartbeat x => Sys2Proof.Machine.execSpdmHeartbeat x s
  | .endSession x => Sys2Proof.Machine.execEndSession x s
  | .keepalive u tag => Sys2Proof.Machine.execKeepalive u tag s
  | .sessionTimeout k => Sys2Proof.Machine.execSessionTimeout k s
  | .sessionClose k => Sys2Proof.Machine.execSessionClose k s
  | .notifyAck u ack => Sys2Proof.Machine.execNotifyAck u ack s
  | .notifyRetryExpiry k => Sys2Proof.Machine.execNotifyRetryExpiry k s
  | .setEndpointId eid on => Sys2Proof.Machine.execSetEndpointId eid s on
  | .getEndpointId on => Sys2Proof.Machine.execGetEndpointId s on
  | .getMctpVersionSupport on => Sys2Proof.Machine.execGetMctpVersionSupport s on
  | .getMessageTypeSupport on => Sys2Proof.Machine.execGetMessageTypeSupport s on
  | .vdmDrop port => Sys2Proof.Machine.execVdmDrop port s
  | .pbAccess path atomic ops opcode => Sys2Proof.Machine.execPbAccess path atomic ops s opcode
  | .identify path => Sys2Proof.Machine.execIdentify path s
  | .getEventRecords path => Sys2Proof.Machine.execGetEventRecords path s
  | .clearEventRecords path sources => Sys2Proof.Machine.execClearEventRecords path sources s
  | .getFwInfo path => Sys2Proof.Machine.execGetFwInfo path s
  | .transferFw path offset len data => Sys2Proof.Machine.execTransferFw path offset len data s
  | .activateFw path action => Sys2Proof.Machine.execActivateFw path action s
  | .getTimestamp path => Sys2Proof.Machine.execGetTimestamp path s
  | .setTimestamp path time => Sys2Proof.Machine.execSetTimestamp path time s
  | .getSupportedLogs path => Sys2Proof.Machine.execGetSupportedLogs path s
  | .getLog path offset len => Sys2Proof.Machine.execGetLog path offset len s
  | .identifySwitchDevice path => Sys2Proof.Machine.execIdentifySwitchDevice path s
  | .getPhysicalPortState path port => Sys2Proof.Machine.execGetPhysicalPortState path port s
  | .physicalPortControl path port action => Sys2Proof.Machine.execPhysicalPortControl path port action s
  | .sendPpbCxlIoConfigurationRequest path port payload => Sys2Proof.Machine.execSendPpbCxlIoConfigurationRequest path port payload s
  | .getVirtualCxlSwitchInfo path v => Sys2Proof.Machine.execGetVirtualCxlSwitchInfo path v s
  | .bindVppb path v vppb port ld ldValid => Sys2Proof.Machine.execBindVppb path v vppb port ld ldValid s
  | .unbindVppb path v vppb mode => Sys2Proof.Machine.execUnbindVppb path v vppb mode s
  | .generateAerEvent path vppb error => Sys2Proof.Machine.execGenerateAerEvent path vppb error s
  | .tunnelManagementCommand path port payload => Sys2Proof.Machine.execTunnelManagementCommand path port payload s
  | .sendLdCxlIoConfigurationRequest path port ld payload => Sys2Proof.Machine.execSendLdCxlIoConfigurationRequest path port ld payload s
  | .sendLdCxlIoMemoryRequest path port ld payload => Sys2Proof.Machine.execSendLdCxlIoMemoryRequest path port ld payload s
  | .fwImageWrite pldm offset len data => Sys2Proof.Machine.execFwImageWrite pldm offset len data s
  | .fwVerify => Sys2Proof.Machine.execFwVerify s
  | .fwVerifyDone good version svn => Sys2Proof.Machine.execFwVerifyDone good version svn s
  | .fwActivateNext => Sys2Proof.Machine.execFwActivateNext s
  | .fwActivateNow => Sys2Proof.Machine.execFwActivateNow s
  | .fwConfirm => Sys2Proof.Machine.execFwConfirm s
  | .svnCommit => Sys2Proof.Machine.execSvnCommit s
  | .pldmActivateFirmware selfContained on => Sys2Proof.Machine.execPldmActivateFirmware selfContained s on
  | .settingsSave => Sys2Proof.Machine.execSettingsSave s
  | .settingsSaveDone => Sys2Proof.Machine.execSettingsSaveDone s
  | .logFlushTimer flashOk => Sys2Proof.Machine.execLogFlushTimer flashOk s
  | .logClear => Sys2Proof.Machine.execLogClear s
  | .mwAccess m write offset len data => Sys2Proof.Machine.execMwAccess m write offset len data s
  | .mwDisable m => Sys2Proof.Machine.execMwDisable m s
  | .portEnable p => Sys2Proof.Machine.execPortEnable p s
  | .portDisable p => Sys2Proof.Machine.execPortDisable p s
  | .linkRetrain p => Sys2Proof.Machine.execLinkRetrain p s
  | .linkHotReset p => Sys2Proof.Machine.execLinkHotReset p s
  | .linkDisable p => Sys2Proof.Machine.execLinkDisable p s
  | .linkEnable p => Sys2Proof.Machine.execLinkEnable p s
  | .linkTrainingDone p t => Sys2Proof.Machine.execLinkTrainingDone p t s
  | .l0pWidthChange p lanes => Sys2Proof.Machine.execL0pWidthChange p lanes s
  | .keyGo p => Sys2Proof.Machine.execKeyGo p s
  | .vcsEnable v => Sys2Proof.Machine.execVcsEnable v s
  | .vcsDisable v => Sys2Proof.Machine.execVcsDisable v s
  | .cxlCacheRequest p ld cacheId addr => Sys2Proof.Machine.execCxlCacheRequest p ld cacheId addr s
  | .bind v vppb port ld ldValid => Sys2Proof.Machine.execBind v vppb port ld ldValid s
  | .unbind v vppb mode => Sys2Proof.Machine.execUnbind v vppb mode s
  | .secondaryBusWrite vppb bus => Sys2Proof.Machine.execSecondaryBusWrite vppb bus s
  | .vppbLinkDown vppb => Sys2Proof.Machine.execVppbLinkDown vppb s
  | .unbindRemovalTimeout => Sys2Proof.Machine.execUnbindRemovalTimeout s
  | .unbindDrainDone => Sys2Proof.Machine.execUnbindDrainDone s
  | .perstHoldExpiry p => Sys2Proof.Machine.execPerstHoldExpiry p s
  | .perstRequest g value => Sys2Proof.Machine.execPerstRequest g value s
  | .linkLost p => Sys2Proof.Machine.execLinkLost p s
  | .cxlIoRequest r => Sys2Proof.Machine.execCxlIoRequest r s
  | .lockedRead r => Sys2Proof.Machine.execLockedRead r s
  | .unlock p target => Sys2Proof.Machine.execUnlock p target s
  | .lockLimitExpiry target => Sys2Proof.Machine.execLockLimitExpiry target s
  | .cplTimeout p tag => Sys2Proof.Machine.execCplTimeout p tag s
  | .targetResponse p tag r => Sys2Proof.Machine.execTargetResponse p tag r s
  | .farErrorOpen p tag status => Sys2Proof.Machine.execFarErrorOpen p tag status s
  | .farErrorClosed p tag => Sys2Proof.Machine.execFarErrorClosed p tag s
  | .cxlMemRequest r => Sys2Proof.Machine.execCxlMemRequest r s
  | .refclkWindow b ppm => Sys2Proof.Machine.execRefclkWindow b ppm s
  | .refclkEdgeLoss b => Sys2Proof.Machine.execRefclkEdgeLoss b s
  | .pllUnlock b => Sys2Proof.Machine.execPllUnlock b s
  | .pllRelock b => Sys2Proof.Machine.execPllRelock b s
  | .dozeEntry n level pm => Sys2Proof.Machine.execDozeEntry n s level pm
  | .dozeExitRequest n => Sys2Proof.Machine.execDozeExitRequest n s
  | .dozeExitDone n us => Sys2Proof.Machine.execDozeExitDone n us s
  | .laneModeSet n raw => Sys2Proof.Machine.execLaneModeSet n raw s
  | .chkLock n => Sys2Proof.Machine.execChkLock n s
  | .chkLost n => Sys2Proof.Machine.execChkLost n s
  | .prbsCountersStop n => Sys2Proof.Machine.execPrbsCountersStop n s
  | .prbsClear n => Sys2Proof.Machine.execPrbsClear n s
  | .prbsSnap n => Sys2Proof.Machine.execPrbsSnap n s
  | .prbsInject n => Sys2Proof.Machine.execPrbsInject n s
  | .slip n => Sys2Proof.Machine.execSlip n s
  | .slipDone n => Sys2Proof.Machine.execSlipDone n s
  | .alignDetect n word more => Sys2Proof.Machine.execAlignDetect n word more s
  | .seamFrameSlot sn => Sys2Proof.Machine.execSeamFrameSlot sn s
  | .payloadFrame sn f => Sys2Proof.Machine.execPayloadFrame sn f s
  | .controlFrame sn bits => Sys2Proof.Machine.execControlFrame sn bits s
  | .initFrame sn bits => Sys2Proof.Machine.execInitFrame sn bits s
  | .idleFrame sn bits => Sys2Proof.Machine.execIdleFrame sn bits s
  | .replayTimer sn => Sys2Proof.Machine.execReplayTimer sn s
  | .ackTimer sn => Sys2Proof.Machine.execAckTimer sn s
  | .lcmdPropose sn mask tag aligned => Sys2Proof.Machine.execLcmdPropose sn mask tag aligned s
  | .lcmdAccept sn mask tag => Sys2Proof.Machine.execLcmdAccept sn mask tag s
  | .lcmdRefuse sn mask tag => Sys2Proof.Machine.execLcmdRefuse sn mask tag s
  | .lcmdSwitch sn mask x => Sys2Proof.Machine.execLcmdSwitch sn mask x s
  | .lcmdWake sn mask => Sys2Proof.Machine.execLcmdWake sn mask s
  | .lcmdDoze sn mask => Sys2Proof.Machine.execLcmdDoze sn mask s
  | .lcmdTimeout sn => Sys2Proof.Machine.execLcmdTimeout sn s
  | .laneErrWindow sn => Sys2Proof.Machine.execLaneErrWindow sn s
  | .seamEnable sn => Sys2Proof.Machine.execSeamEnable sn s
  | .seamDisable sn => Sys2Proof.Machine.execSeamDisable sn s
  | .manualGo sn => Sys2Proof.Machine.execManualGo sn s
  | .seamActive sn => Sys2Proof.Machine.execSeamActive sn s
  | .trainingTimeout sn => Sys2Proof.Machine.execTrainingTimeout sn s
  | .seamDownRetry sn => Sys2Proof.Machine.execSeamDownRetry sn s
  | .seamRetrain sn => Sys2Proof.Machine.execSeamRetrain sn s
  | .laneSignalLoss sn lane => Sys2Proof.Machine.execLaneSignalLoss sn lane s
  | .retrainTimeout sn => Sys2Proof.Machine.execRetrainTimeout sn s
  | .linkCmdRetrain sn => Sys2Proof.Machine.execLinkCmdRetrain sn s
  | .linkCmdPropose sn => Sys2Proof.Machine.execLinkCmdPropose sn s
  | .linkCmdWake sn => Sys2Proof.Machine.execLinkCmdWake sn s
  | .linkCmdDoze sn => Sys2Proof.Machine.execLinkCmdDoze sn s
  | .packetPresent pk => Sys2Proof.Machine.execPacketPresent pk s
  | .packetStall id => Sys2Proof.Machine.execPacketStall id s
  | .hlcStepsWrite steps => Sys2Proof.Machine.execHlcStepsWrite steps s
  | .carveDone => Sys2Proof.Machine.execCarveDone s
  | .boltDieIfFail d => Sys2Proof.Machine.execBoltDieIfFail d s
  | .freeMinClear => Sys2Proof.Machine.execFreeMinClear s
  | .nocAgeAlarm id => Sys2Proof.Machine.execNocAgeAlarm id s
  | .statSnap => Sys2Proof.Machine.execStatSnap s
  | .latMaxClear e => Sys2Proof.Machine.execLatMaxClear e s
  | .rds q => Sys2Proof.Machine.execRds q s
  | .rda q => Sys2Proof.Machine.execRda q s
  | .rdi q => Sys2Proof.Machine.execRdi q s
  | .inva q => Sys2Proof.Machine.execInva q s
  | .clnEv q => Sys2Proof.Machine.execClnEv q s
  | .wb q => Sys2Proof.Machine.execWb q s
  | .ncw q => Sys2Proof.Machine.execNcw q s
  | .birsp r => Sys2Proof.Machine.execBirsp r s
  | .cmpn c sector line tag bad data => Sys2Proof.Machine.execCmpn c sector line tag bad data s
  | .biconflict q => Sys2Proof.Machine.execBiconflict q s
  | .wbTimeout c sector line => Sys2Proof.Machine.execWbTimeout c sector line s
  | .snoopTimeout bitag => Sys2Proof.Machine.execSnoopTimeout bitag s
  | .nak tag rsv => Sys2Proof.Machine.execNak tag rsv s
  | .backoffExpiry tag => Sys2Proof.Machine.execBackoffExpiry tag s
  | .go tag => Sys2Proof.Machine.execGo tag s
  | .rsvLapse c slot => Sys2Proof.Machine.execRsvLapse c slot s
  | .ceInitDone c => Sys2Proof.Machine.execCeInitDone c s
  | .diagEntryRead => Sys2Proof.Machine.execDiagEntryRead s
  | .dirDieIfFail c => Sys2Proof.Machine.execDirDieIfFail c s
  | .hrd m => Sys2Proof.Machine.execHrd m s
  | .hwr m => Sys2Proof.Machine.execHwr m s
  | .hatom m => Sys2Proof.Machine.execHatom m s
  | .hrecall m => Sys2Proof.Machine.execHrecall m s
  | .fill m => Sys2Proof.Machine.execFill m s
  | .hdata c sector line data failed => Sys2Proof.Machine.execHdata c sector line data failed s
  | .hcmp c sector line old => Sys2Proof.Machine.execHcmp c sector line old s
  | .hlcEnableClear => Sys2Proof.Machine.execHlcEnableClear s
  | .hlcFlush => Sys2Proof.Machine.execHlcFlush s
  | .hlcFlushDone => Sys2Proof.Machine.execHlcFlushDone s
  | .atomicop r => Sys2Proof.Machine.execAtomicop r s
  | .atomicAtHome q => Sys2Proof.Machine.execAtomicAtHome q s
  | .atomicAtMemory q => Sys2Proof.Machine.execAtomicAtMemory q s
  | .declareDead a => Sys2Proof.Machine.execDeclareDead a s
  | .walkDone => Sys2Proof.Machine.execWalkDone s
  | .revive a => Sys2Proof.Machine.execRevive a s
  | .llClear => Sys2Proof.Machine.execLlClear s
  | .specClear => Sys2Proof.Machine.execSpecClear s
  | .windowEnable w => Sys2Proof.Machine.execWindowEnable w s
  | .windowDisable w => Sys2Proof.Machine.execWindowDisable w s
  | .windowDrainDone w => Sys2Proof.Machine.execWindowDrainDone w s
  | .ruleCheckDone site => Sys2Proof.Machine.execRuleCheckDone site s
  | .ruleCopy site => Sys2Proof.Machine.execRuleCopy site s
  | .ruleCopyDone site => Sys2Proof.Machine.execRuleCopyDone site s
  | .swap site => Sys2Proof.Machine.execSwap site s
  | .swapDone site => Sys2Proof.Machine.execSwapDone site s
  | .slcActivate sn => Sys2Proof.Machine.execSlcActivate sn s
  | .slcReset sn => Sys2Proof.Machine.execSlcReset sn s
  | .slcDeclareDead sn => Sys2Proof.Machine.execSlcDeclareDead sn s
  | .slcFree sn => Sys2Proof.Machine.execSlcFree sn s
  | .sliceResetEnd sn => Sys2Proof.Machine.execSliceResetEnd sn s
  | .slcClassesWrite sn value => Sys2Proof.Machine.execSlcClassesWrite sn value s
  | .classHoldEnd sn kind => Sys2Proof.Machine.execClassHoldEnd sn kind s
  | .slcNeedleWrite sn value => Sys2Proof.Machine.execSlcNeedleWrite sn value s
  | .slcCauseWrite sn value => Sys2Proof.Machine.execSlcCauseWrite sn value s
  | .slcVectorsWrite sn value => Sys2Proof.Machine.execSlcVectorsWrite sn value s
  | .tgCommit p => Sys2Proof.Machine.execTgCommit p s
  | .tgTakeover p => Sys2Proof.Machine.execTgTakeover p s
  | .samplePeriodEnd => Sys2Proof.Machine.execSamplePeriodEnd s
  | .chStart c => Sys2Proof.Machine.execChStart c s
  | .chStop c => Sys2Proof.Machine.execChStop c s
  | .chStopDone c => Sys2Proof.Machine.execChStopDone c s
  | .ringTailDoorbell c tail => Sys2Proof.Machine.execRingTailDoorbell c tail s
  | .descFetch c host => Sys2Proof.Machine.execDescFetch c host s
  | .fetchFail c => Sys2Proof.Machine.execFetchFail c s
  | .descCheckVerdict c => Sys2Proof.Machine.execDescCheckVerdict c s
  | .descComplete c result => Sys2Proof.Machine.execDescComplete c result s
  | .descFail c poison written => Sys2Proof.Machine.execDescFail c poison written s
  | .twinEnable => Sys2Proof.Machine.execTwinEnable s
  | .twinDisable => Sys2Proof.Machine.execTwinDisable s
  | .hello h => Sys2Proof.Machine.execHello h s
  | .pairingFlushDone => Sys2Proof.Machine.execPairingFlushDone s
  | .heartbeat h => Sys2Proof.Machine.execHeartbeat h s
  | .heartbeatTimer => Sys2Proof.Machine.execHeartbeatTimer s
  | .treqTimer => Sys2Proof.Machine.execTreqTimer s
  | .treq t1 => Sys2Proof.Machine.execTreq t1 s
  | .trsp t1 t2 t3 => Sys2Proof.Machine.execTrsp t1 t2 t3 s
  | .mirrorSwatch records => Sys2Proof.Machine.execMirrorSwatch records s
  | .releaseNotice p tag => Sys2Proof.Machine.execReleaseNotice p tag s
  | .handover c => Sys2Proof.Machine.execHandover c s
  | .seamHbLost => Sys2Proof.Machine.execSeamHbLost s
  | .senseLost => Sys2Proof.Machine.execSenseLost s
  | .senseRearm stillChattering => Sys2Proof.Machine.execSenseRearm stillChattering s
  | .witnessSurvive incident => Sys2Proof.Machine.execWitnessSurvive incident s
  | .witnessYield incident => Sys2Proof.Machine.execWitnessYield incident s
  | .witnessTimeout => Sys2Proof.Machine.execWitnessTimeout s
  | .syncDone => Sys2Proof.Machine.execSyncDone s
  | .handback => Sys2Proof.Machine.execHandback s
  | .handbackDone => Sys2Proof.Machine.execHandbackDone s
  | .ppsInEdge ns => Sys2Proof.Machine.execPpsInEdge s ns
  | .ppsOut => Sys2Proof.Machine.execPpsOut s
  | .pwrEnWrite t value => Sys2Proof.Machine.execPwrEnWrite t value s
  | .presenceFilter t present => Sys2Proof.Machine.execPresenceFilter t present s
  | .insertionDebounceEnd t => Sys2Proof.Machine.execInsertionDebounceEnd t s
  | .removalDeclared t => Sys2Proof.Machine.execRemovalDeclared t s
  | .rampAdmit t => Sys2Proof.Machine.execRampAdmit t s
  | .rampTimeout t => Sys2Proof.Machine.execRampTimeout t s
  | .faultTimerExpiry t => Sys2Proof.Machine.execFaultTimerExpiry t s
  | .shortCircuit t senseUv => Sys2Proof.Machine.execShortCircuit t senseUv s
  | .powerGood t => Sys2Proof.Machine.execPowerGood t s
  | .pgLost t => Sys2Proof.Machine.execPgLost t s
  | .retryTimerExpiry t => Sys2Proof.Machine.execRetryTimerExpiry t s
  | .retryCountReset t => Sys2Proof.Machine.execRetryCountReset t s
  | .uvHold t => Sys2Proof.Machine.execUvHold t s
  | .uvRecovery t => Sys2Proof.Machine.execUvRecovery t s
  | .fetCheckFail t => Sys2Proof.Machine.execFetCheckFail t s
  | .fetRecheck t => Sys2Proof.Machine.execFetRecheck t s
  | .fetRecheckDone t pass => Sys2Proof.Machine.execFetRecheckDone t pass s
  | .auxRestore t => Sys2Proof.Machine.execAuxRestore t s
  | .auxFault t => Sys2Proof.Machine.execAuxFault t s
  | .button t => Sys2Proof.Machine.execButton t s
  | .alert t => Sys2Proof.Machine.execAlert t s
  | .slotInputChatter t input => Sys2Proof.Machine.execSlotInputChatter t input s
  | .slotInputStuck t input => Sys2Proof.Machine.execSlotInputStuck t input s
  | .inputRearm t bits => Sys2Proof.Machine.execInputRearm t bits s
  | .ledBlinkToggle => Sys2Proof.Machine.execLedBlinkToggle s
  | .eventOccurrence o => Sys2Proof.Machine.execEventOccurrence o s
  | .wireFault j => Sys2Proof.Machine.execWireFault j s
  | .sourceStuck j => Sys2Proof.Machine.execSourceStuck j s
  | .threshWindow => Sys2Proof.Machine.execThreshWindow s
  | .captureContext e => Sys2Proof.Machine.execCaptureContext e s
  | .captureTimeout e => Sys2Proof.Machine.execCaptureTimeout e s
  | .eventDelivery => Sys2Proof.Machine.execEventDelivery s
  | .srcStatusWrite j value => Sys2Proof.Machine.execSrcStatusWrite j value s
  | .capFree bits => Sys2Proof.Machine.execCapFree bits s
  | .alertResponse => Sys2Proof.Machine.execAlertResponse s
  | .injectRaise => Sys2Proof.Machine.execInjectRaise s
  | .injectWireFault => Sys2Proof.Machine.execInjectWireFault s
  | .injectStuck => Sys2Proof.Machine.execInjectStuck s
  | .injectRelease => Sys2Proof.Machine.execInjectRelease s
  | .ctrRead path n => Sys2Proof.Machine.execCtrRead path n s
  | .ctrSelect n event filter => Sys2Proof.Machine.execCtrSelect n event filter s
  | .ctrClear n => Sys2Proof.Machine.execCtrClear n s
  | .serviceSet value => Sys2Proof.Machine.execServiceSet value s
  | .pdOn m => Sys2Proof.Machine.execPdOn m s
  | .pdOff m => Sys2Proof.Machine.execPdOff m s
  | .pdReset m => Sys2Proof.Machine.execPdReset m s
  | .quiesceDone m => Sys2Proof.Machine.execQuiesceDone m s
  | .stagerGrant => Sys2Proof.Machine.execStagerGrant s
  | .rampDone m => Sys2Proof.Machine.execRampDone m s
  | .domainFail m => Sys2Proof.Machine.execDomainFail m s
  | .clockFault ppm => Sys2Proof.Machine.execClockFault ppm s
  | .clockRecover => Sys2Proof.Machine.execClockRecover s
  | .droop level => Sys2Proof.Machine.execDroop level s
  | .stretchRelax => Sys2Proof.Machine.execStretchRelax s
  | .avsStep ack readback => Sys2Proof.Machine.execAvsStep ack readback s
  | .planNow => Sys2Proof.Machine.execPlanNow s
  | .planPeriodExpiry => Sys2Proof.Machine.execPlanPeriodExpiry s
  | .planMeasureDone slacks temp => Sys2Proof.Machine.execPlanMeasureDone slacks temp s
  | .tempSample temps => Sys2Proof.Machine.execTempSample temps s
  | .tClear n => Sys2Proof.Machine.execTClear n s
  | .vClear v => Sys2Proof.Machine.execVClear v s
  | .chipReset => Sys2Proof.Machine.execChipReset s
  | .chipResetWrite => Sys2Proof.Machine.execChipResetWrite s
  | .chipResetRelease straps => Sys2Proof.Machine.execChipResetRelease straps s
  | .otpLoadDone => Sys2Proof.Machine.execOtpLoadDone s
  | .otpBurn => Sys2Proof.Machine.execOtpBurn s
  | .otpBurnDone verified => Sys2Proof.Machine.execOtpBurnDone verified s
  | .lcReq r => Sys2Proof.Machine.execLcReq r s
  | .lcToken token => Sys2Proof.Machine.execLcToken token s
  | .receiverDetection p present => Sys2Proof.Machine.execReceiverDetection p present s
  | .inBandHotReset p => Sys2Proof.Machine.execInBandHotReset p s
  | .boardPresentFilter seated => Sys2Proof.Machine.execBoardPresentFilter seated s
  | .mgmtEthLink n up => Sys2Proof.Machine.execMgmtEthLink n up s
  | .dhcpv4 n addr mask gw => Sys2Proof.Machine.execDhcpv4 n addr mask gw s
  | .pldmFirmwareUpdate m on => Sys2Proof.Machine.execPldmFirmwareUpdate m s on
  | .jtagInstruction j => Sys2Proof.Machine.execJtagInstruction j s

end Sys2Proof.Machine
end

