-- ==== Sys2Proof/Safety.lean ====
section
/-! DEFINITION. What the statements say of a run, in one vocabulary: a running switch, the state with
another switch inside it, and what stays as it was. -/

namespace Sys2Proof.Machine

/-- Chip reset is not asserted (R487). -/
abbrev State.live (s : State) : Prop := s.m.held = false

/-- The management subsystem answers (R59): the switch runs and its firmware has booted. -/
abbrev State.managed (s : State) : Prop := s.m.held = false ∧ s.m.mgmt.up = true

/-- s with the switch m inside: the same fuses and the same waiting commands. -/
def State.at (s : State) (m : Mach) : State := { s with m := m }

/-- s with the switch and the fuses d inside: the same waiting commands. -/
def State.put (s : State) (d : Dev) : State := { s with toDev := d }

/-- The answer OK after an accepted write. -/
def Mach.ok (m : Mach) : Mach := m.emit (.answer .ok 0)

/-- Every entry that is not in a list reads as before. -/
def Mach.SameBut (ks : List Nat) (m m' : Mach) : Prop := ∀ k, k ∉ ks → m'.rd k = m.rd k

/-- The fuses and the waiting commands are untouched. -/
abbrev State.SameOutside (s t : State) : Prop := t.otp = s.otp ∧ t.pending = s.pending

/-- A path on which dictionary operations are taken: the running switch grants the requester w (R45, R57). -/
abbrev State.Granted (s : State) (path : Path) (ops : List DictOp) (w : Who) : Prop :=
  s.m.held = false ∧ wfPath path = true ∧ entrance path ops s.toDev = .go w

/-- A path on which FM API commands are taken from a requester of FM privilege who may write (R45, R55). -/
abbrev State.FmGranted (s : State) (path : Path) (w : Who) : Prop :=
  s.Granted path [] w ∧ fmPath path = true ∧ w.rank ≠ 0 ∧ w.writeOk = true

/-- s after operation o of requester w has passed its checks: its effect, and the answer OK with the value read. -/
def State.served (s : State) (w : Who) (o : DictOp) : State :=
  s.put ((opApply w o s.toDev).2.on (·.emit (.answer .ok (opApply w o s.toDev).1)))

/-- s after operation o of requester w has failed a check with a status: the answer, and what a refusal leaves behind. -/
def State.refusedOp (s : State) (w : Who) (o : DictOp) (st : Status) : State :=
  s.put ((opRefuse w o st s.toDev).on (·.emit (.answer st 0)))

/-- s after operation o has served an FM API command on a path: its effect, and the answer Success with the value read. -/
def State.fmServed (s : State) (path : Path) (w : Who) (o : DictOp) : State :=
  s.put ((opApply w o s.toDev).2.on (fmAnswer path 0 (opApply w o s.toDev).1))

/-- s after a read command of the FM API on a path: the answer Success with a payload, and nothing else. -/
def State.fmRead (s : State) (path : Path) (payload : Nat) : State := s.at (fmAnswer path 0 payload s.m)

/-- Command c is the operation o on a path: where a check fails, it answers the status of the first that fails (R517). -/
def OperationRefused (c : Instr) (path : Path) (o : DictOp) : Prop :=
  ∀ (s : State) (w : Who) (st : Status), s.Granted path [o] w → opFails w [] o s.toDev = some st → st ≠ .notExecuted →
    exec c s = .next (s.refusedOp w o st)

/-- Command c is served by the operation o on a path of FM API messages: where a check fails, it answers the return code of the first
that fails (R44, R57). -/
def FmRefused (c : Instr) (path : Path) (o : DictOp) : Prop :=
  ∀ (s : State) (w : Who) (st : Status), s.FmGranted path w → opFails w [] o s.toDev = some st →
    exec c s = .next (s.put ((opRefuse w o st s.toDev).on (fmAnswer path st.cci 0)))

/-- An MCTP message on a transport is taken: VDMs come from FMH_PORT alone (R56). -/
def mctpHeard (on : Medium) (m : Mach) : Bool :=
  match on with
  | .bus => true
  | .vdm port => m.rd Mctp.FMH_PORT == port

/-- An SPDM message on a carrier reaches the responder (R47, R56). -/
def carrierHeard (via : Carrier) (m : Mach) : Bool :=
  match via with
  | .preoc u => udpHeard u m
  | .mctp x => mctpHeard x m

/-- Session k is closed in t and everything it held is gone; every entry of another session, and all else, is as in s. -/
abbrev State.ClosesSession (s t : State) (k : Nat) : Prop :=
  t.m.rd (Sess.STATE k) = 0 ∧ t.m.rd (Sess.PRIV k) = 0 ∧ t.m.rd (Sess.SUBSCRIBE k) = 0 ∧ t.m.rd (Sess.PEER_ADDR k) = 0 ∧
  t.m.rd (Sess.PEER_PORT k) = 0 ∧ t.m.sess k = SessSt.reset ∧
  Mach.SameBut [Sess.STATE k, Sess.PRIV k, Sess.SUBSCRIBE k, Sess.PEER_ADDR k, Sess.PEER_PORT k] s.m t.m ∧ s.SameOutside t

/-- Slot n has tripped with a cause: it is recorded, and the slot waits for a retry while it has one left and is latched off
otherwise (R421). -/
abbrev State.Tripped (s t : State) (n cause : Nat) : Prop :=
  t.m.rd (Slot.LAST_CAUSE n) = cause ∧ t.m.rd (Slot.RETRY_COUNT n) = s.m.rd (Slot.RETRY_COUNT n) + 1 ∧
  (s.m.rd (Slot.RETRY_COUNT n) < s.m.rd (Slot.RETRY_MAX n) →
    slotState t.m n = 5 ∧ (t.m.slot n).running = true ∧ (t.m.slot n).retry = 1000 * s.m.rd (Slot.RETRY_MS n)) ∧
  (s.m.rd (Slot.RETRY_MAX n) ≤ s.m.rd (Slot.RETRY_COUNT n) → slotState t.m n = 6) ∧ s.SameOutside t

/-- Every waiting command names units that the part has: no step of the queue stops. -/
abbrev State.WellQueued (s : State) : Prop := ∀ c ∈ s.pending, c.wf = true

/-! ### Requests at the ports (chapters 9 to 11) -/

/-- What is sent appears among the switch's messages. -/
abbrev State.Sends (t : State) (o : Out) : Prop := o ∈ t.m.out

/-- The next message that leaves is o, and nothing else leaves. -/
abbrev State.SendsOnly (s t : State) (o : Out) : Prop := t.m.out = o :: s.m.out

/-- A CXL.io request of slice sl is presented at once: its input takes requests and has none waiting, the slice map
gives an active slice, and neither the policer nor the shaper of that slice acts (R303 to R305, R323, R335). -/
abbrev State.IoPasses (s : State) (r : IoReq) (sl : Nat) : Prop :=
  s.live ∧ wfIo r = true ∧ entryUp s.m r.port = true ∧ fromTwin s.m r.port = false ∧
  (r.port < 64 → ideBlocked s.m r.port 0 = false) ∧
  Tab.get [] s.m.traffic.heldIo r.port = [] ∧ streamOf s.m r.port = none ∧
  mapSlice s.m r.port (match r.pbr, r.ld with
    | some x, _ => .pbr x
    | none, some l => .ld l
    | none, none => .none) r.pasid = some sl ∧
  sliceState s.m sl = 1 ∧ sl ≠ unmapped ∧ s.m.rd (Pol.POL_MODE sl) = 0 ∧ s.m.on (Pol.SHP_ENABLE sl) = false

/-- A CXL.mem request of slice sl is presented at once, in the same way. -/
abbrev State.MemPasses (s : State) (r : MemReq) (sl : Nat) : Prop :=
  s.live ∧ wfMem r = true ∧ entryUp s.m r.port = true ∧ fromTwin s.m r.port = false ∧
  (r.port < 64 → ideBlocked s.m r.port 1 = false) ∧ heldMemOf s.m (memChannel r) = [] ∧
  mapSlice s.m r.port (match r.pbr with
    | some x => .pbr x
    | none => .none) none = some sl ∧
  sliceState s.m sl = 1 ∧ sl ≠ unmapped ∧ s.m.rd (Pol.POL_MODE sl) = 0 ∧ s.m.on (Pol.SHP_ENABLE sl) = false

/-- The pool access of a request is direct and allowed: one window holds it, its permissions are granted, and its
member resolves to a port p that is on and may send, and that no locked sequence holds (R75, R91, R281 to R284, R290). -/
abbrev State.PoolDirect (s : State) (r : IoReq) (sl w p : Nat) (ld : Option Nat) : Prop :=
  r.byId = false ∧ (ioRange s.m r.addr r.len).toOption = some w ∧ winTracked s.m w = false ∧ memberOff s.m w r.addr = false ∧
  checkAccess s.m (pieceSite s.m w r.addr) sl (ioNeed r.kind) r.addr (max 1 r.len) = none ∧
  resolve s.m (winTarget s.m w (memberOf s.m w r.addr)) = .port p ld ∧
  (p < 64 → ideBlocked s.m p 0 = false) ∧
  (s.m.sem (targetKey p ld)).holder = none

/-! ### Coherence (chapters 7 and 8) -/

/-- Where the line of a request is kept. -/
def State.placeOf (s : State) (q : CohReq) : Place := placeOfAddr s.m q.addr

/-- The line of its sector that a request names. -/
def lineOf (q : CohReq) : Nat := q.addr / 64 % 4

/-- Nothing of a sector is in progress beside line j: its other lines are idle and it is not being evicted. -/
abbrev Mach.Alone (m : Mach) (p : Place) (j : Nat) : Prop :=
  evicting m p = false ∧ ∀ i, i < 4 → i ≠ j → m.tline p i = TLine.idleLine

/-- Slice c works and owes nothing: no walk claims its slots, no slice resets, nothing is queued (R218, R219, R235,
R241, R269, R324). -/
abbrev Mach.SliceReady (m : Mach) (c : Nat) : Prop :=
  sliceRuns m c = true ∧ m.rd Agents.WALK_AGENTS = 0 ∧ resettingSlices m = [] ∧ m.coh.work = [] ∧
  m.coh.biWait = [] ∧ m.coh.recallWait = [] ∧ mirrorOn m = false ∧ m.twin.handing = false

/-- A request reaches a slice that can take it: its line is idle, nothing of its sector is in progress, its slot is
not reserved, the directory read is clean and a transient line table entry can be had (R219, R226, R238, R243). -/
abbrev State.CohReady (s : State) (q : CohReq) : Prop :=
  s.live ∧ wfCoh q = true ∧ s.m.SliceReady (s.placeOf q).c ∧
  ((agentOf q.who).any fun a => agentDead s.m a) = false ∧ q.ecc = 0 ∧ q.refused = none ∧
  Tab.get [] s.m.coh.rsv (slotKey (s.placeOf q)) = [] ∧
  s.m.tline (s.placeOf q) (lineOf q) = TLine.idleLine ∧ s.m.Alone (s.placeOf q) (lineOf q) ∧
  tltRoom s.m (s.placeOf q) = true

/-- The line of a request is not in the home line cache and is not hot enough to be filled into it (R250, R251). -/
abbrev State.Plain (s : State) (q : CohReq) : Prop :=
  hlcBit s.m (s.placeOf q) (lineOf q) = false ∧
  (holds s.m (s.placeOf q) = true → eHot (s.m.slotEntry (s.placeOf q)) < s.m.rd Hlc.HOT_THRESH)

/-- The target of a request's line: egress port or seam, logical device and device address. It takes CXL.mem, and its stream has its
keys (R70, R75, R225). -/
abbrev State.LineTarget (s : State) (q : CohReq) (e : Nat) (ld : Option Nat) (d : Nat) : Prop :=
  targetOf s.m (lineAddr s.m (s.placeOf q) (lineOf q)) = (some e, ld, d) ∧ takesMem s.m e = true ∧
  (e < 64 → ideBlocked s.m e 1 = false)

/-- A message comes to its slice now, and is taken at once: the network does not hold it already, and nothing comes before it in the
slice's order for the stitch (R221, R244). -/
abbrev State.Comes (s : State) (x : CohMsg) : Prop :=
  (∀ n ∈ s.m.noc.msgs, ∀ y, n.body = .slice y → sameMsg y x = false) ∧
  (∀ n ∈ s.m.noc.arrived, ∀ y, n.msg.body = .slice y → sameMsg y x = false) ∧
  mustWait s.m s.pending (msgSlice s.m x) (takeStep s.m x) = false

/-- The network holds no message whose body satisfies a test: a command that tells one brings it directly. -/
abbrev State.NoneOnItsWay (s : State) (test : NocBody → Bool) : Prop :=
  (∀ n ∈ s.m.noc.msgs, test n.body = false) ∧ ∀ n ∈ s.m.noc.arrived, test n.msg.body = false

/-- The line of a request is owned by a live agent y other than the requester, which can be snooped (R220, R227). -/
abbrev State.OwnedBy (s : State) (q : CohReq) (y : Nat) : Prop :=
  stableOf s.m (s.placeOf q) (lineOf q) = 2 ∧ ownerOf s.m (s.placeOf q) = some y ∧ agentOf q.who ≠ some y ∧
  agentDead s.m y = false ∧ snoopFenced s.m y = false ∧ (freeSnoop s.m (s.placeOf q).c).isSome = true

/-- The slice of a line sends its owner y one BISnp of a kind for the lines of a mask in the sector (R220, R226). -/
abbrev State.Snoops (s t : State) (q : CohReq) (y kind mask : Nat) : Prop :=
  ∃ bitag, t.Sends (.snoop (agentRoute s.m (s.placeOf q).c y) y bitag kind (sectorOf s.m (s.placeOf q) * 256) mask)

/-- The lines of a request's sector that an agent owns, as a mask. -/
def ownedMask (s : State) (q : CohReq) : Nat :=
  (((List.range 4).filter fun i => stableOf s.m (s.placeOf q) i == 2).map fun i => 2 ^ i).sum

/-- A waiting line of a slice that works, with its place. -/
abbrev State.Waits (s : State) (sector line : Nat) (st : TState) (q : CohReq) : Prop :=
  s.live ∧ sector < 2 ^ 46 ∧ line < 4 ∧ s.m.SliceReady (placeOfSector s.m sector).c ∧
  (s.m.tline (placeOfSector s.m sector) line).st = st ∧
  (s.m.tline (placeOfSector s.m sector) line).req = some q ∧
  s.m.Alone (placeOfSector s.m sector) line

end Sys2Proof.Machine
end

