-- ==== Sys2Proof/Certificates/Slice0/Obligations.lean ====
section
/-! DEFINITION. The statements about the switch, by chapters of the specification. -/

open Sys2Proof Sys2Proof.Machine

/-! ### The queue, the stitch and the slot tick -/

/-- A step takes the command at the front of the queue, runs it with the queue's rest, and answers its outcome; with no command
waiting it changes nothing (log entry 26: the model's choice for an empty queue). -/
def Obligations.step_runs_the_front_command : Prop :=
  (∀ (c : Instr) (s : State) (rest : List Instr), s.pending = c :: rest → step s = exec c { s with pending := rest }) ∧
  (∀ s : State, s.pending = [] → step s = .next s)

/-- A command that names units the part has is never turned away, and leaves the queue alone; one that names a unit the
part does not have stops under that name.
A queue of commands that name units of the part never stops: every step takes one command and keeps the rest in order. -/
def Obligations.every_command_answers : Prop :=
  (∀ (c : Instr) (s : State),
    (c.wf = true → ∃ t, exec c s = .next t ∧ t.pending = s.pending) ∧
    (c.wf = false → exec c s = .fault .noSuchUnit)) ∧
  (∀ s : State, s.WellQueued →
    ∃ t, step s = .next t ∧ t.WellQueued ∧ t.pending = s.pending.tail)

/-- A stitch advances the stitch number by 1 and leaves no fault stop due, unless a written chip reset is due, which follows instead. A
lost stitch, at stretch level 5 alone, advances it too and is marked.
The slot tick runs in every 125th stitch, and the refill of the token buckets at the end of its interval, once; after a lost stitch
the refill is carried. -/
def Obligations.stitches_and_ticks : Prop :=
  (∀ (env : StitchEnv) (s : State), s.live → wfEnv env = true → resetIsDue s.m = false →
    ∃ t, exec (.stitchStrobe env) s = .next t ∧ t.m.now.stitch = s.m.now.stitch + 1 ∧ t.m.col.stopDue = none ∧
      s.SameOutside t) ∧
  (∀ (env : StitchEnv) (s : State), s.live → wfEnv env = true → resetIsDue s.m = true →
    exec (.stitchStrobe env) s = .next (s.put (chipReset s.toDev))) ∧
  (∀ s : State, s.live → s.m.rd Clk.STRETCH_NOW = 5 →
    ∃ t, exec .lostStitch s = .next t ∧ t.m.now.stitch = s.m.now.stitch + 1 ∧ t.m.now.lost = true ∧
      t.m.col.stopDue = none ∧ s.SameOutside t) ∧
  (∀ s : State, s.live → s.m.rd Clk.STRETCH_NOW ≠ 5 → exec .lostStitch s = .next s) ∧
  (∀ (env : TickEnv) (s : State), s.live → wfTick env = true → s.m.now.stitch % 125 = 0 →
    ∃ t, exec (.slotTick env) s = .next t ∧ t.m.now.tick = s.m.now.tick + 1 ∧ s.SameOutside t) ∧
  (∀ (env : TickEnv) (s : State), s.live → wfTick env = true → s.m.now.stitch % 125 ≠ 0 →
    exec (.slotTick env) s = .next s) ∧
  (∀ s : State, s.live → s.m.now.stitch % max 1 s.m.traffic.refillLen = 0 → s.m.traffic.refilled ≠ some s.m.now.stitch →
    s.m.now.lost = false →
    ∃ t, exec .refillBoundary s = .next t ∧ t.m.traffic.refillLen = t.m.rd Sched.REFILL_STITCHES ∧
      t.m.traffic.refilled = some s.m.now.stitch ∧ s.SameOutside t) ∧
  (∀ s : State, s.live → s.m.now.stitch % max 1 s.m.traffic.refillLen = 0 → s.m.traffic.refilled ≠ some s.m.now.stitch →
    s.m.now.lost = true →
    ∃ t, exec .refillBoundary s = .next t ∧ t.m.now.refillDue = true ∧ t.m.traffic.refilled = some s.m.now.stitch ∧
      Mach.SameBut [] s.m t.m ∧ s.SameOutside t) ∧
  (∀ s : State, s.live → s.m.traffic.refilled = some s.m.now.stitch → exec .refillBoundary s = .next s)

/-! ### Power, clocks and ageing -/

/-- PD_ON and PD_OFF of a domain that is off or on, PD_RESET, and the stager and ramp events that follow: a grant 250 stitches after
PREWARN_N, a ramp's end after its length, a failure 1,000 stitches later. -/
def Obligations.power_domain_changes : Prop :=
  (∀ (n : Nat) (s : State), n < 76 → s.managed → pdLifecycle n s.toDev = false → pdCheck [] n 1 s.m = none →
    pdState s.m n = 0 →
    ∃ t, exec (.pdOn n) s = .next t ∧ t.m.rd (Pd.PD_REQ n) = 1 ∧ pdState t.m n = 1 ∧
      (⟨n, true⟩ : Ramp) ∈ t.m.power.batch ∧ s.SameOutside t) ∧
  (∀ (n : Nat) (s : State), n < 77 → s.managed → pdLifecycle n s.toDev = false → pdCheck [] n 0 s.m = none →
    pdState s.m n = 3 →
    ∃ t, exec (.pdOff n) s = .next t ∧ pdState t.m n = 4 ∧ s.SameOutside t) ∧
  (∀ (n : Nat) (s : State), n < 77 → s.managed → pdResetCheck n s.m = none →
    (family n).filter (fun c => pdState s.m c == 3) = [n] →
    ∃ t, exec (.pdReset n) s = .next t ∧ pdState t.m n = 4 ∧ s.SameOutside t) ∧
  (∀ (n : Nat) (s : State), n < 76 → s.live → pdState s.m n = 4 → s.m.rd (Pd.PD_REQ n) = 0 → quiet s.m n = true →
    (⟨n, false⟩ : Ramp) ∉ s.m.power.batch → (⟨n, false⟩ : Ramp) ∉ s.m.power.running →
    ∃ t, exec (.quiesceDone n) s = .next t ∧ (⟨n, false⟩ : Ramp) ∈ t.m.power.batch ∧ s.SameOutside t) ∧
  (∀ s : State, s.live → pdState s.m 76 = 4 → s.m.rd (Pd.PD_REQ 76) = 0 → quiet s.m 76 = true →
    (⟨76, false⟩ : Ramp) ∉ s.m.power.batch → (⟨76, false⟩ : Ramp) ∉ s.m.power.running →
    ∃ t, exec (.quiesceDone 76) s = .next t ∧ pdState t.m 76 = 0 ∧ t.m.slots = Slots.reset ∧ s.SameOutside t) ∧
  (∀ s : State, s.live → s.m.power.batch ≠ [] → s.m.power.prewarn = true → s.m.begun waitWarn ≠ 0 →
    s.m.begun waitWarn + 250 ≤ s.m.now.stitch →
    ∃ t, exec .stagerGrant s = .next t ∧ t.m.power.batch = [] ∧
      t.m.power.running = s.m.power.running ++ rampOrder s.m.power.batch ∧ s.SameOutside t) ∧
  (∀ (n : Nat) (s : State) (rs : List Ramp), n < 77 → s.live → s.m.power.running = ⟨n, false⟩ :: rs →
    s.m.begun waitRamp + rampLength n ≤ s.m.now.stitch →
    ∃ t, exec (.rampDone n) s = .next t ∧ pdState t.m n = 0 ∧ t.m.power.running = rs ∧ s.SameOutside t) ∧
  (∀ (n : Nat) (s : State) (rs : List Ramp), n < 77 → s.live → s.m.power.running = ⟨n, true⟩ :: rs →
    s.m.begun waitRamp + rampLength n ≤ s.m.now.stitch → s.m.domOn 1 = true →
    exec (.rampDone n) s =
      .next (s.at (refreshStager (releaseAll 3 true n ((nextRamp n rs s.m).beginWait (waitDomain n)))))) ∧
  (∀ (n : Nat) (s : State), n < 77 → s.live → (pdState s.m n = 2 ∨ pdState s.m n = 5) →
    s.m.begun (waitDomain n) + 1000 ≤ s.m.now.stitch →
    exec (.domainFail n) s = .next (s.at (raiseEv 1524 noCtx (s.m.wr (Pd.PD_STATE n) 6))))

/-- The master clock, droops and the clock stretch.
Temperature samples below the trip level, and the writes that restart the temperature and voltage extremes. -/
def Obligations.clocks_and_sensors : Prop :=
  (∀ (ppm : Int) (s : State), s.live → s.m.rd Clk.CLK_STATE = 1 →
    exec (.clockFault ppm) s = .next (s.at (raiseEv 1524 { noCtx with cause := 2 }
      ((s.m.wr Clk.MCLK_PPM (ofSigned 32 ppm)).wr Clk.CLK_STATE 2)))) ∧
  (∀ s : State, s.live → s.m.rd Clk.CLK_STATE = 2 →
    exec .clockRecover s = .next (s.at (s.m.wr Clk.CLK_STATE 1))) ∧
  (∀ (level : Nat) (s : State), s.live → level < 6 → s.m.rd Clk.STRETCH_NOW < level →
    (3 ≤ s.m.rd Clk.STRETCH_NOW ∨ level < 3) →
    exec (.droop level) s = .next (s.at (s.m.wr Clk.STRETCH_NOW level))) ∧
  (∀ (level : Nat) (s : State), s.live → level < 6 → s.m.rd Clk.STRETCH_NOW < 3 → 3 ≤ level →
    exec (.droop level) s = .next (s.at (raiseEv 1526 noCtx (s.m.wr Clk.STRETCH_NOW level)))) ∧
  (∀ s : State, s.live →
    exec .stretchRelax s = .next (s.at (s.m.wr Clk.STRETCH_NOW (s.m.rd Clk.STRETCH_NOW - 1)))) ∧
  (∀ (temps : List Int) (s : State), s.live → temps.length = 48 →
    (∀ x ∈ temps, -2147483648 ≤ x ∧ x < 125000 ∧ x < ((1000 * s.m.rd Therm.TRIP_C : Nat) : Int)) →
    ∃ t, exec (.tempSample temps) s = .next t ∧
      (∀ i, i < 48 → t.m.rd (Temp.T_NOW i) = ofSigned 32 (temps.getD i 0)) ∧
      t.m.power.tripHot = [] ∧ t.m.power.tripped = s.m.power.tripped ∧ s.SameOutside t) ∧
  (∀ (i : Nat) (s : State), i < 48 → s.managed →
    exec (.tClear i) s = .next (s.at ((s.m.wr (Temp.T_MAX i) (s.m.rd (Temp.T_NOW i))).wr (Temp.T_MIN i)
      (s.m.rd (Temp.T_NOW i))).ok)) ∧
  (∀ (v : Nat) (s : State), v < 40 → s.managed →
    exec (.vClear v) s = .next (s.at ((s.m.wr (Volt.V_MIN v) (s.m.rd (Volt.V_NOW v))).wr (Volt.V_MAX v)
      (s.m.rd (Volt.V_NOW v))).ok))

/-- The voltage plan: its start, its end of measurement after 10 ms, the steps of at most 5 mV, its end and its retries. -/
def Obligations.voltage_plan : Prop :=
  (∀ s : State, s.managed → s.m.rd Avs.PLAN_STATE = 0 →
    ∃ t, exec .planNow s = .next t ∧ t.m.rd Avs.PLAN_STATE = 1 ∧ t.m.power.commanded = true ∧
      t.m.begun waitPlan = s.m.now.stitch ∧ t.m.flash.planned = s.m.flash.hours ∧
      Mach.SameBut [Avs.PLAN_STATE] s.m t.m ∧ s.SameOutside t) ∧
  (∀ s : State, s.live → s.m.rd Avs.PLAN_STATE = 0 →
    s.m.flash.planned + s.m.rd Avs.PLAN_PERIOD_H ≤ s.m.flash.hours →
    ∃ t, exec .planPeriodExpiry s = .next t ∧ t.m.rd Avs.PLAN_STATE = 1 ∧ t.m.power.commanded = false ∧
      t.m.begun waitPlan = s.m.now.stitch ∧ t.m.flash.planned = s.m.flash.hours ∧
      Mach.SameBut [Avs.PLAN_STATE] s.m t.m ∧ s.SameOutside t) ∧
  (∀ (slacks : List Int) (temp : Int) (s : State), s.live → s.m.rd Avs.PLAN_STATE = 1 →
    s.m.begun waitPlan + msStitches 10 ≤ s.m.now.stitch →
    ∃ t, exec (.planMeasureDone slacks temp) s = .next t ∧
      (t.m.rd Avs.PLAN_STATE = 2 ∧ t.m.power.plan.isSome ∨ t.m.rd Avs.PLAN_STATE = 0 ∧ t.m.power.plan = none) ∧
      s.SameOutside t) ∧
  (∀ (v : Nat) (s : State) (p : Plan), s.live → s.m.power.plan = some p → s.m.begun waitAvs + usStitches 5 ≤ s.m.now.stitch →
    s.m.rd Avs.VDD_SET_MV + 5 < avsGoal p s.m → v = s.m.rd Avs.VDD_SET_MV + 5 → v < 65536 →
    ∃ t, exec (.avsStep true v) s = .next t ∧ t.m.rd Avs.VDD_SET_MV = v ∧ t.m.rd Avs.VDD_NOW = v ∧
      t.m.power.plan = some p ∧ t.m.power.avsRetries = 0 ∧ t.m.begun waitAvs = s.m.now.stitch ∧
      Mach.SameBut [Avs.VDD_SET_MV, Avs.VDD_NOW] s.m t.m ∧ s.SameOutside t) ∧
  (∀ (v : Nat) (s : State) (p : Plan), s.live → s.m.power.plan = some p → s.m.begun waitAvs + usStitches 5 ≤ s.m.now.stitch →
    s.m.rd Avs.VDD_SET_MV < v → v ≤ s.m.rd Avs.VDD_SET_MV + 5 → v = avsGoal p s.m → v < 65536 →
    ∃ t, exec (.avsStep true v) s = .next t ∧ t.m.rd Avs.VDD_SET_MV = v ∧ t.m.rd Avs.VDD_NOW = v ∧
      t.m.rd Avs.PLAN_STATE = 0 ∧ t.m.power.plan = none ∧ s.SameOutside t) ∧
  (∀ (v : Nat) (s : State) (p : Plan), s.live → s.m.power.plan = some p → s.m.begun waitAvs + usStitches 5 ≤ s.m.now.stitch →
    s.m.power.avsRetries < 3 →
    ∃ t, exec (.avsStep false v) s = .next t ∧ t.m.power.avsRetries = s.m.power.avsRetries + 1 ∧
      Mach.SameBut [] s.m t.m ∧ s.SameOutside t)

/-! ### Chip reset, fuses and the life cycle -/

/-- What reset leaves: PD0 and PD76 are on and every other domain is off, the master clock is locked, every other entry reads
its default, nothing waits, no message is out, no fuse is burnt, and the invariants hold. -/
def Obligations.reset_state : Prop :=
  (∀ k, k ≠ Pd.PD_STATE 0 → k ≠ Pd.PD_STATE 76 → k ≠ Clk.CLK_STATE → State.reset.m.rd k = dflt k) ∧
  State.reset.m.rd (Pd.PD_STATE 0) = 3 ∧ State.reset.m.rd (Pd.PD_STATE 76) = 3 ∧
  (∀ n, n < 76 → n ≠ 0 → State.reset.m.rd (Pd.PD_STATE n) = 0) ∧ State.reset.m.rd Clk.CLK_STATE = 1 ∧
  State.reset.m.out = [] ∧ State.reset.m.held = false ∧ State.reset.otp.ctrl = 0 ∧ State.reset.otp.gens = [0, 0, 0, 0] ∧
  State.reset.WellQueued ∧ State.reset.pending = [] ∧ State.reset.otp.lcState ≤ lcCode State.reset.otp.ctrl

/-- What chip reset leaves, and what its release and its written form do.
While chip reset is asserted, every other command leaves the switch as it is. -/
def Obligations.chip_reset_and_release : Prop :=
  (∀ s : State, ∃ t, exec .chipReset s = .next t ∧ t.m.held = true ∧ (∀ k, t.m.rd k = Mach.reset.rd k) ∧
    t.m.now = Now.reset ∧ t.m.core = Core.reset ∧ t.m.coh = Coh.reset ∧ t.m.edge = Edge.reset ∧ t.m.noc = Mach.reset.noc ∧
    t.otp = { s.otp with lcBusy := false, jtag := false } ∧ t.pending = s.pending ∧
    (s.m.mgmt.saving = false → t.m.flash = s.m.flash)) ∧
  (∀ (straps : Nat) (s : State), s.m.held = true →
    ∃ t, exec (.chipResetRelease straps) s = .next t ∧ t.m.held = false ∧
      t.m.rd Ident.ROLE = straps / 4 % 2 ∧ t.m.power.straps = straps % 8 ∧
      Mach.SameBut [Ident.ROLE] s.m t.m ∧ t.m.flash = s.m.flash ∧
      t.otp = { s.otp with nonce := t.otp.nonce } ∧ t.pending = s.pending) ∧
  (∀ s : State, s.managed →
    ∃ t, exec .chipResetWrite s = .next t ∧ t.m.power = { s.m.power with resetDue := true } ∧
      t.m.begun waitReset = s.m.now.stitch ∧ Mach.SameBut [] s.m t.m ∧ s.SameOutside t) ∧
  (∀ (c : Instr) (s : State), s.m.held = true → c.wf = true → c ≠ .chipReset →
    (∀ straps, c ≠ .chipResetRelease straps) → exec c s = .next s)

/-- The OTP load at start-up latches the generation and the life-cycle state.
A burn of the staged generation, and its end. -/
def Obligations.otp_load_and_burn : Prop :=
  (∀ s : State, s.live → pdState s.m 1 = 0 →
    ∃ t, exec .otpLoadDone s = .next t ∧ t.otp.inForce = s.otp.choose ∧ t.otp.lcState = lcCode s.otp.ctrl ∧
      t.otp.burning = none ∧ t.m.rd Ident.LC_STATE = lcCode s.otp.ctrl ∧ t.m.rd (Pd.PD_REQ 1) = 1 ∧
      pdState t.m 1 = 1 ∧ t.pending = s.pending) ∧
  (∀ (n : Nat) (s : State), s.managed → otpBurnCheck s.toDev = none → s.otp.target = some n →
    ∃ t, exec .otpBurn s = .next t ∧ t.m.rd Otp.OTP_STATUS = 1 ∧ t.otp.burning = some n ∧
      t.otp.gens = s.otp.gens.modify n (Nat.lor · (blockFor n (s.m.rd Otp.OTP_STAGE))) ∧
      t.otp.ctrl = s.otp.ctrl ∧ Mach.SameBut [Otp.OTP_STATUS] s.m t.m ∧ t.pending = s.pending) ∧
  (∀ (n : Nat) (s : State), s.live → s.otp.burning = some n →
    blockField (s.otp.gen n) 252 4 = blockCrc (s.otp.gen n) →
    ∃ t, exec (.otpBurnDone true) s = .next t ∧ t.m.rd Otp.OTP_STATUS = 2 ∧ t.otp.burning = none ∧
      t.otp.ctrl = Nat.lor s.otp.ctrl (maskBits (72 + 4 * n) 4) ∧ t.otp.gens = s.otp.gens ∧
      Mach.SameBut [Otp.OTP_STATUS] s.m t.m ∧ t.pending = s.pending) ∧
  (∀ (n : Nat) (s : State), s.live → s.otp.burning = some n →
    ∃ t, exec (.otpBurnDone false) s = .next t ∧ t.m.rd Otp.OTP_STATUS = 3 ∧ t.otp.burning = none ∧
      t.otp.ctrl = s.otp.ctrl ∧ t.otp.gens = s.otp.gens ∧
      Mach.SameBut [Otp.OTP_STATUS] s.m t.m ∧ t.pending = s.pending)

/-- A life-cycle transition, asked from JTAG or as a write of LC_REQ.
A return token that is accepted opens its scope; one that is refused is counted; the nonce is replaced both ways. -/
def Obligations.life_cycle_and_tokens : Prop :=
  (∀ (target crc : Nat) (s : State), s.live → s.otp.lcState < 2 → target < 4 →
    lcCheck .jtag target crc s.toDev = none →
    ∃ t, exec (.lcReq ⟨.jtag, target, crc⟩) s = .next t ∧
      t.otp.ctrl = Nat.lor s.otp.ctrl (lcMask s.otp.lcState target) ∧ t.otp.lcBusy = true ∧
      t.otp.lcState = s.otp.lcState ∧ t.m.rd Lc.LC_STATUS = 1 ∧ t.m.power.resetDue = true ∧
      t.otp.gens = s.otp.gens ∧ t.pending = s.pending) ∧
  (∀ (p : Path) (target crc : Nat) (s : State), target < 256 → crc < 2 ^ 32 →
    exec (.lcReq ⟨.path p, target, crc⟩) s =
      exec (.write p (Lc.LC_REQ / 256) (Lc.LC_REQ % 256) 8 (target + crc * 2 ^ 32)) s) ∧
  (∀ (token : Nat) (s : State), s.managed → s.m.rd Lc.TOKEN_FAILS < 8 →
    ∃ t, exec (.lcToken token) s = .next t ∧
      (tokenGood s.toDev token = true →
        t.m.rd Lc.TOKEN_SCOPE = getBits token 384 32 ∧ Mach.SameBut [Lc.TOKEN_SCOPE] s.m t.m) ∧
      (tokenGood s.toDev token = false →
        t.m.rd Lc.TOKEN_FAILS = s.m.rd Lc.TOKEN_FAILS + 1 ∧ Mach.SameBut [Lc.TOKEN_FAILS] s.m t.m) ∧
      t.otp.nonce = Config.freeValue s.m.free % 2 ^ 256 ∧
      t.otp = { s.otp with nonce := t.otp.nonce } ∧ t.pending = s.pending)

/-- JTAG: IDCODE and BYPASS do nothing; the states that open a further instruction enter the session once.
The board-present input. -/
def Obligations.jtag_and_board_present : Prop :=
  (∀ (j : JtagInstr) (s : State), s.live → j = .idcode ∨ j = .bypass → exec (.jtagInstruction j) s = .next s) ∧
  (∀ (j : JtagInstr) (s : State), s.live → s.otp.lcState < 2 → s.otp.jtag = false →
    (j = .boundaryScan ∨ j = .debug ∨ j = .testMode) →
    ∃ t, exec (.jtagInstruction j) s = .next t ∧ t.otp = { s.otp with jtag := true } ∧
      t.m = raiseEv 1535 noCtx s.m ∧ t.pending = s.pending) ∧
  (∀ (image : Nat) (s : State), s.live → s.otp.lcState = 0 → s.otp.usable 0 = true → s.otp.busy = false →
    ∃ t, exec (.jtagInstruction (.writeG0 image)) s = .next t ∧ t.otp.burning = some 0 ∧ t.otp.jtag = true ∧
      t.otp.gens = s.otp.gens.modify 0 (Nat.lor · (blockFor 0 image)) ∧ t.m.rd Otp.OTP_STATUS = 1 ∧
      Mach.SameBut [Otp.OTP_STATUS] s.m t.m ∧ t.pending = s.pending) ∧
  (∀ (j : JtagInstr) (s : State), s.live → 2 ≤ s.otp.lcState → s.otp.lcState ≠ 4 → j ≠ .boundaryScan →
    exec (.jtagInstruction j) s = .next s) ∧
  (∀ (seated : Bool) (s : State), s.live →
    ∃ t, exec (.boardPresentFilter seated) s = .next t ∧ t.m.bit Strap.BOARD_PINS 6 = seated ∧
      Mach.SameBut [Strap.BOARD_PINS] s.m t.m ∧ s.SameOutside t)

/-! ### Management firmware, settings and windows -/

/-- A management reset ends every session and the volatile entries of the management subsystem, and leaves the fabric
running; the end of the boot brings the Pattern Book up; the watchdog counts a boot that is not confirmed within 60 s.
Activation at the next reset and at once, by Preoc and by PLDM; the confirmation; the commit of the security version. -/
def Obligations.management_boot_and_activation : Prop :=
  (∀ s : State, s.live → s.m.domOn 1 = true →
    ∃ t, exec .managementReset s = .next t ∧ t.m.mgmt.up = false ∧ t.m.mgmt.sessions = [] ∧
      (∀ k, pd1Entry k = true → t.m.rd k = dflt k) ∧ (∀ k, pd1Entry k = false → t.m.rd k = s.m.rd k) ∧
      t.m.core = s.m.core ∧ t.m.coh = s.m.coh ∧ t.m.edge = s.m.edge ∧ t.m.lanes = s.m.lanes ∧
      t.m.slots = s.m.slots ∧ t.m.noc = s.m.noc ∧ t.m.now.stitch = s.m.now.stitch ∧ s.SameOutside t) ∧
  (∀ s : State, s.live → s.m.mgmt.booting = true → s.m.domOn 1 = true →
    ∃ t, exec .bootComplete s = .next t ∧ t.m.mgmt.up = true ∧ t.m.mgmt.booting = false ∧ t.pending = s.pending) ∧
  (∀ s : State, s.live → s.m.domOn 1 = true → s.m.mgmt.confirmed = false →
    (s.m.mgmt.up = true ∨ s.m.mgmt.booting = true) → s.m.begun waitBoot + msStitches 60000 ≤ s.m.now.stitch →
    ∃ t, exec .managementWatchdog s = .next t ∧ t.m.mgmt.up = false ∧
      (t.m.flash.slot s.m.mgmt.active).unconfirmed = (s.m.flash.slot s.m.mgmt.active).unconfirmed + 1 ∧
      s.SameOutside t) ∧
  (∀ s : State, s.managed → s.m.rd Fw.FW_VERIFY = 2 →
    ∃ t, exec .fwActivateNext s = .next t ∧ t.m.flash.next = spareSlot s.m ∧ t.m.mgmt.up = true ∧
      s.SameOutside t) ∧
  (∀ s : State, s.managed → s.m.rd Fw.FW_VERIFY = 2 → s.m.domOn 1 = true →
    ∃ t, exec .fwActivateNow s = .next t ∧ t.m.flash.next = spareSlot s.m ∧ t.m.mgmt.up = false ∧
      s.SameOutside t) ∧
  (∀ s : State, s.managed →
    ∃ t, exec .fwConfirm s = .next t ∧ t.m.mgmt.confirmed = true ∧
      (t.m.flash.slot s.m.mgmt.active).unconfirmed = 0 ∧ Mach.SameBut [] s.m t.m ∧ s.SameOutside t) ∧
  (∀ s : State, s.managed → s.otp.busy = false → s.m.mgmt.runSvn ≤ 32 →
    ∃ t, exec .svnCommit s = .next t ∧ svnMin t.otp.ctrl = max (svnMin s.otp.ctrl) s.m.mgmt.runSvn ∧
      t.otp.gens = s.otp.gens ∧ t.otp.lcState = s.otp.lcState ∧ t.m = s.m.ok ∧ t.pending = s.pending) ∧
  (∀ (on : Medium) (s : State), s.managed → wfMedium on = true → mctpHeard on s.m = true →
    s.m.mgmt.pldm = true → s.m.rd Fw.FW_VERIFY = 2 →
    ∃ t, exec (.pldmActivateFirmware false on) s = .next t ∧ t.m.flash.next = spareSlot s.m ∧ t.m.mgmt.up = true ∧
      t.m.mgmt.pldm = false ∧ s.SameOutside t) ∧
  (∀ (on : Medium) (s : State), s.managed → wfMedium on = true → mctpHeard on s.m = true →
    s.m.mgmt.pldm = true → s.m.rd Fw.FW_VERIFY = 2 → s.m.domOn 1 = true →
    ∃ t, exec (.pldmActivateFirmware true on) s = .next t ∧ t.m.flash.next = spareSlot s.m ∧ t.m.mgmt.up = false ∧
      s.SameOutside t)

/-- Block writes of FW_IMAGE, by Preoc and by PLDM, and the judgement of the image.
The messages of a PLDM update. -/
def Obligations.firmware_images : Prop :=
  (∀ (o l d : Nat) (s : State), s.managed → d < 2 ^ (8 * l) → fwWriteCheck false o l s.m = none →
    ∃ t, exec (.fwImageWrite none o l d) s = .next t ∧ (t.m.flash.slot (spareSlot s.m)).written = o + l ∧
      (t.m.flash.slot (spareSlot s.m)).valid = false ∧ t.m.rd Fw.FW_VERIFY = 0 ∧ t.m.mgmt.preocFw = true ∧
      Mach.SameBut [Fw.FW_VERIFY] s.m t.m ∧ s.SameOutside t) ∧
  (∀ (on : Medium) (o l d : Nat) (s : State), s.managed → wfMedium on = true → mctpHeard on s.m = true →
    s.m.mgmt.pldm = true → d < 2 ^ (8 * l) → fwWriteCheck true o l s.m = none →
    ∃ t, exec (.fwImageWrite (some on) o l d) s = .next t ∧ (t.m.flash.slot (spareSlot s.m)).written = o + l ∧
      (t.m.flash.slot (spareSlot s.m)).valid = false ∧ t.m.rd Fw.FW_VERIFY = 0 ∧
      Mach.SameBut [Fw.FW_VERIFY] s.m t.m ∧ s.SameOutside t) ∧
  (∀ s : State, s.managed → s.m.rd Fw.FW_VERIFY ≠ 1 →
    ∃ t, exec .fwVerify s = .next t ∧ t.m.rd Fw.FW_VERIFY = 1 ∧ t.m.mgmt.preocFw = false ∧
      t.m.flash = s.m.flash ∧ Mach.SameBut [Fw.FW_VERIFY] s.m t.m ∧ s.SameOutside t) ∧
  (∀ (v svn : Nat) (s : State), s.live → s.m.rd Fw.FW_VERIFY = 1 → svn ≤ 32 → svnMin s.otp.ctrl ≤ svn →
    s.otp.vendorDigest ≠ 0 →
    ∃ t, exec (.fwVerifyDone true v svn) s = .next t ∧ t.m.rd Fw.FW_VERIFY = 2 ∧
      (t.m.flash.slot (spareSlot s.m)).valid = true ∧ (t.m.flash.slot (spareSlot s.m)).version = v % 2 ^ 32 ∧
      (t.m.flash.slot (spareSlot s.m)).svn = svn ∧ Mach.SameBut [Fw.FW_VERIFY] s.m t.m ∧ s.SameOutside t) ∧
  (∀ (v svn : Nat) (s : State), s.live → s.m.rd Fw.FW_VERIFY = 1 → svn < svnMin s.otp.ctrl →
    ∃ t, exec (.fwVerifyDone true v svn) s = .next t ∧ t.m.rd Fw.FW_VERIFY = 3 ∧
      (t.m.flash.slot (spareSlot s.m)).valid = false ∧ Mach.SameBut [Fw.FW_VERIFY] s.m t.m ∧ s.SameOutside t) ∧
  (∀ (on : Medium) (s : State), s.managed → wfMedium on = true → mctpHeard on s.m = true →
    s.m.mgmt.preocFw = false → s.m.mgmt.pldm = false →
    ∃ t, exec (.pldmFirmwareUpdate .start on) s = .next t ∧ t.m.mgmt = { s.m.mgmt with pldm := true } ∧
      Mach.SameBut [] s.m t.m ∧ s.SameOutside t) ∧
  (∀ (on : Medium) (o l d : Nat) (s : State), d < 2 ^ (8 * l) →
    exec (.pldmFirmwareUpdate (.component o l d) on) s = exec (.fwImageWrite (some on) o l d) s) ∧
  (∀ (on : Medium) (s : State), s.managed → wfMedium on = true → mctpHeard on s.m = true →
    s.m.mgmt.pldm = true → s.m.rd Fw.FW_VERIFY ≠ 1 →
    ∃ t, exec (.pldmFirmwareUpdate .finish on) s = .next t ∧ t.m.rd Fw.FW_VERIFY = 1 ∧
      Mach.SameBut [Fw.FW_VERIFY] s.m t.m ∧ s.SameOutside t) ∧
  (∀ (on : Medium) (s : State), s.managed → wfMedium on = true → mctpHeard on s.m = true →
    s.m.mgmt.pldm = true →
    ∃ t, exec (.pldmFirmwareUpdate .cancel on) s = .next t ∧ t.m.mgmt = { s.m.mgmt with pldm := false } ∧
      Mach.SameBut [] s.m t.m ∧ s.SameOutside t)

/-- A settings save and its end; the log's flush and its clearing.
An access through a management fabric window that is open and covers one line goes to the needle engine over the network; one
through a closed window is refused and counted; disabling a window with no access in flight closes it. -/
def Obligations.settings_log_and_windows : Prop :=
  (∀ s : State, s.managed → s.m.mgmt.saving = false →
    ∃ t, exec .settingsSave s = .next t ∧ t.m.mgmt = { s.m.mgmt with saving := true } ∧
      Mach.SameBut [] s.m t.m ∧ t.m.flash = s.m.flash ∧ s.SameOutside t) ∧
  (∀ s : State, s.live → s.m.mgmt.saving = true →
    ∃ t, exec .settingsSaveDone s = .next t ∧ t.m.mgmt.saving = false ∧
      (∃ c, (c = t.m.flash.copyA ∨ c = t.m.flash.copyB) ∧ c.valid = true ∧
        c.gen = (settingsGen s.m.flash + 1) % 2 ^ 32 ∧ ∀ k, isSaved k = true → Tab.get (dflt k) c.regs k = s.m.rd k) ∧
      Mach.SameBut [] s.m t.m ∧ s.SameOutside t) ∧
  (∀ s : State, s.managed → s.m.mgmt.page.first + msNs (s.m.rd Log.FLUSH_MS) ≤ s.m.now.ftime →
    ∃ t, exec (.logFlushTimer true) s = .next t ∧ t.m.mgmt.page.records = [] ∧
      (s.m.mgmt.page.records ≠ [] →
        t.m.flash.count = min ringRecords (s.m.flash.count + s.m.mgmt.page.records.length)) ∧
      Mach.SameBut [] s.m t.m ∧ s.SameOutside t) ∧
  (∀ s : State, s.managed →
    ∃ t, exec .logClear s = .next t ∧ t.m.mgmt.page.records = [] ∧ t.m.flash.ring = [] ∧ t.m.flash.count = 0 ∧
      t.m.flash.nextSeq = s.m.flash.nextSeq ∧ Mach.SameBut [] s.m t.m ∧ s.SameOutside t) ∧
  (∀ (k o len data : Nat) (write : Bool) (l : MwLine) (s : State), k < 16 → data < 2 ^ (8 * len) → s.managed →
    nocReach s.m needleEnd = true → mwShut s.m k o len = false →
    mwCause s.m k (if write then needWrite else needRead) false (mwLines s.m k o len) = none → mwLines s.m k o len = [l] →
    ∃ t x, exec (.mwAccess k write o len data) s = .next t ∧
      t.m.mgmt.accesses = s.m.mgmt.accesses ++ [⟨k, write, [⟨ownTagBase + s.m.free, l.at_⟩], 0, false, false⟩] ∧
      t.m.noc.msgs = s.m.noc.msgs ++ [x] ∧ x.src = bridgeEnd ∧
      x.body = .window k write (if write then needWrite else needRead) (ownTagBase + s.m.free) l.addr (l.bytes data) l.be ∧
      t.m.out = s.m.out ∧ Mach.SameBut [] s.m t.m ∧ s.SameOutside t) ∧
  (∀ (k o len data : Nat) (write : Bool) (s : State), k < 16 → data < 2 ^ (8 * len) → s.managed →
    mwShut s.m k o len = true → s.m.rd (Mw.MW_ERRORS k) + 1 < 2 ^ widthOf (Mw.MW_ERRORS k) →
    ∃ t, exec (.mwAccess k write o len data) s = .next t ∧ t.m.out = .busError k :: s.m.out ∧
      t.m.rd (Mw.MW_ERRORS k) = s.m.rd (Mw.MW_ERRORS k) + 1 ∧ Mach.SameBut [Mw.MW_ERRORS k] s.m t.m ∧ s.SameOutside t) ∧
  (∀ (k : Nat) (s : State), k < 16 → s.managed → s.m.on (Mw.MW_ENABLE k) = true →
    s.m.mgmt.accesses.any (·.m == k) = false →
    ∃ t, exec (.mwDisable k) s = .next t ∧ t.m.rd (Mw.MW_ENABLE k) = 0 ∧ s.SameOutside t)

/-! ### The Pattern Book and the FM API -/

/-- READ, WRITE, COMPARE_WRITE, BLOCK_READ and BLOCK_WRITE, and the read of an event counter: the effect and the answer OK where every
check of R517 passes, the first check that fails otherwise. -/
def Obligations.dictionary_operations : Prop :=
  (∀ (p : Path) (i b l : Nat) (s : State) (w : Who), s.Granted p [⟨.read, i, b, l, 0, 0, 0⟩] w →
    opFails w [] ⟨.read, i, b, l, 0, 0, 0⟩ s.toDev = none →
    exec (.read p i b l) s = .next (s.served w ⟨.read, i, b, l, 0, 0, 0⟩)) ∧
  (∀ (p : Path) (i b l v : Nat) (s : State) (w : Who), v < 2 ^ (8 * l) → s.Granted p [⟨.write, i, b, l, 0, 0, v⟩] w →
    opFails w [] ⟨.write, i, b, l, 0, 0, v⟩ s.toDev = none →
    exec (.write p i b l v) s = .next (s.served w ⟨.write, i, b, l, 0, 0, v⟩)) ∧
  (∀ (p : Path) (i b l x v : Nat) (s : State) (w : Who), x < 2 ^ (8 * l) → v < 2 ^ (8 * l) →
    s.Granted p [⟨.compareWrite, i, b, l, 0, x, v⟩] w → opFails w [] ⟨.compareWrite, i, b, l, 0, x, v⟩ s.toDev = none →
    exec (.compareWrite p i b l x v) s = .next (s.served w ⟨.compareWrite, i, b, l, 0, x, v⟩)) ∧
  (∀ (p : Path) (i b o l : Nat) (s : State) (w : Who), s.Granted p [⟨.blockRead, i, b, l, o, 0, 0⟩] w →
    opFails w [] ⟨.blockRead, i, b, l, o, 0, 0⟩ s.toDev = none →
    exec (.blockRead p i b o l) s = .next (s.served w ⟨.blockRead, i, b, l, o, 0, 0⟩)) ∧
  (∀ (p : Path) (i b o l v : Nat) (s : State) (w : Who), v < 2 ^ (8 * l) → s.Granted p [⟨.blockWrite, i, b, l, o, 0, v⟩] w →
    opFails w [] ⟨.blockWrite, i, b, l, o, 0, v⟩ s.toDev = none →
    exec (.blockWrite p i b o l v) s = .next (s.served w ⟨.blockWrite, i, b, l, o, 0, v⟩)) ∧
  (∀ (p : Path) (i b l : Nat), OperationRefused (.read p i b l) p ⟨.read, i, b, l, 0, 0, 0⟩) ∧
  (∀ (p : Path) (i b l v : Nat), v < 2 ^ (8 * l) → OperationRefused (.write p i b l v) p ⟨.write, i, b, l, 0, 0, v⟩) ∧
  (∀ (p : Path) (i b l x v : Nat), x < 2 ^ (8 * l) → v < 2 ^ (8 * l) →
    OperationRefused (.compareWrite p i b l x v) p ⟨.compareWrite, i, b, l, 0, x, v⟩) ∧
  (∀ (p : Path) (i b o l : Nat), OperationRefused (.blockRead p i b o l) p ⟨.blockRead, i, b, l, o, 0, 0⟩) ∧
  (∀ (p : Path) (i b o l v : Nat), v < 2 ^ (8 * l) →
    OperationRefused (.blockWrite p i b o l v) p ⟨.blockWrite, i, b, l, o, 0, v⟩) ∧
  (∀ (i : Nat) (s : State) (w : Who) (p : Path), i < 1024 →
    s.Granted p [⟨.read, Ctr.CTR_READ i / 256, Ctr.CTR_READ i % 256, 16, 0, 0, 0⟩] w →
    opFails w [] ⟨.read, Ctr.CTR_READ i / 256, Ctr.CTR_READ i % 256, 16, 0, 0, 0⟩ s.toDev = none →
    exec (.ctrRead p i) s = .next (s.put ((s.toDev.on (readEffect w (Ctr.CTR_READ i))).on
      (·.emit (.answer .ok (readValue (Ctr.CTR_READ i) s.toDev))))))

/-- A write, a comparing write or a block write that every check lets through leaves an ordinary entry reading the value written, and
every other entry as it was; a read or a block read answers with it and changes no entry. Six entries of five index groups, by a path
and by a direct write, and the OCTETS entry FM_ROOT_HASH. -/
def Obligations.ordinary_entries_hold_what_is_written : Prop :=
  (∀ k ∈ [Preoc.NOTIFY_RETRY_MS, Coh.WB_WAIT, Coh.SNP_TIMEOUT_US, Sched.REFILL_STITCHES, Hb.SENSE_HALF, Therm.TEMP_WARN_C],
    (∀ (p : Path) (s : State) (w : Who) (v : Nat), v < 2 ^ widthOf k →
      s.Granted p [⟨.write, k / 256, k % 256, widthOf k / 8, 0, 0, v⟩] w →
      opFails w [] ⟨.write, k / 256, k % 256, widthOf k / 8, 0, 0, v⟩ s.toDev = none →
      ∃ t, exec (.write p (k / 256) (k % 256) (widthOf k / 8) v) s = .next t ∧ t.m.rd k = v ∧
        Mach.SameBut [k] s.m t.m ∧ s.SameOutside t) ∧
    (∀ (p : Path) (s : State) (w : Who) (v : Nat), v < 2 ^ widthOf k → s.m.rd k < 2 ^ widthOf k →
      s.Granted p [⟨.compareWrite, k / 256, k % 256, widthOf k / 8, 0, s.m.rd k, v⟩] w →
      opFails w [] ⟨.compareWrite, k / 256, k % 256, widthOf k / 8, 0, s.m.rd k, v⟩ s.toDev = none →
      ∃ t, exec (.compareWrite p (k / 256) (k % 256) (widthOf k / 8) (s.m.rd k) v) s = .next t ∧ t.m.rd k = v ∧
        Mach.SameBut [k] s.m t.m ∧ s.SameOutside t) ∧
    (∀ (p : Path) (s : State) (w : Who), s.Granted p [⟨.read, k / 256, k % 256, widthOf k / 8, 0, 0, 0⟩] w →
      opFails w [] ⟨.read, k / 256, k % 256, widthOf k / 8, 0, 0, 0⟩ s.toDev = none →
      exec (.read p (k / 256) (k % 256) (widthOf k / 8)) s = .next (s.at (s.m.emit (.answer .ok (s.m.rd k))))) ∧
    (∀ (s : State) (v : Nat), v < 2 ^ widthOf k → s.managed →
      opFails (plainWho s.toDev) [] ⟨.write, k / 256, k % 256, widthOf k / 8, 0, 0, v⟩ s.toDev = none →
      ∃ t, exec (.registerWrite (k / 256) (k % 256) v) s = .next t ∧ t.m.rd k = v ∧
        Mach.SameBut [k] s.m t.m ∧ s.SameOutside t)) ∧
  (∀ (p : Path) (s : State) (w : Who) (v : Nat), v < 2 ^ 384 →
    s.Granted p [⟨.blockWrite, Spdm.FM_ROOT_HASH / 256, Spdm.FM_ROOT_HASH % 256, 48, 0, 0, v⟩] w →
    opFails w [] ⟨.blockWrite, Spdm.FM_ROOT_HASH / 256, Spdm.FM_ROOT_HASH % 256, 48, 0, 0, v⟩ s.toDev = none →
    ∃ t, exec (.blockWrite p (Spdm.FM_ROOT_HASH / 256) (Spdm.FM_ROOT_HASH % 256) 0 48 v) s = .next t ∧
      t.m.rd Spdm.FM_ROOT_HASH = v ∧ Mach.SameBut [Spdm.FM_ROOT_HASH] s.m t.m ∧ s.SameOutside t) ∧
  (∀ (p : Path) (s : State) (w : Who), s.m.rd Spdm.FM_ROOT_HASH < 2 ^ 384 →
    s.Granted p [⟨.blockRead, Spdm.FM_ROOT_HASH / 256, Spdm.FM_ROOT_HASH % 256, 48, 0, 0, 0⟩] w →
    opFails w [] ⟨.blockRead, Spdm.FM_ROOT_HASH / 256, Spdm.FM_ROOT_HASH % 256, 48, 0, 0, 0⟩ s.toDev = none →
    exec (.blockRead p (Spdm.FM_ROOT_HASH / 256) (Spdm.FM_ROOT_HASH % 256) 0 48) s =
      .next (s.at (s.m.emit (.answer .ok (s.m.rd Spdm.FM_ROOT_HASH)))))

/-- Datagrams: without a session and in one; a fragment is dropped, a datagram that fails authentication counts, and one
already answered gets the same answer. PB_ACCESS answers all its operations; another opcode is unsupported.
An atomic request of which one operation fails its checks carries none out: no operation answers OK, and every entry reads as
before, but for the count of refused counter reads. Writes whose refusal itself has an effect by a rule of their own (PD_REQ, WITNESS,
SWAP, LC_TOKEN) are not among its operations. -/
def Obligations.requests_of_several_operations : Prop :=
  (∀ (g : Datagram) (s : State) (w : Who), s.managed → s.m.mgmt.recovery = false → wfDatagram g = true →
    udpHeard g.udp s.m = true → g.sessionId = 0 → entrance .preocNone g.ops s.toDev = .go w →
    exec (.pbRequest g) s = .next (s.put ((request w g.atomic g.ops s.toDev).2.2.on
      (·.emit (.preoc (udpReply g.udp s.m) 255 g.seq (request w g.atomic g.ops s.toDev).1 (request w g.atomic g.ops s.toDev).2.1))))) ∧
  (∀ (g : Datagram) (s : State), s.managed → s.m.mgmt.recovery = false → wfDatagram g = true →
    s.m.on (Eth.ENABLE g.udp.sender.eth) = true → g.udp.fragmented = true →
    exec (.pbRequest g) s = .next (s.at (s.m.bump (Eth.RX_DROP g.udp.sender.eth) 1))) ∧
  (∀ (g : Datagram) (s : State), s.managed → s.m.mgmt.recovery = false → wfDatagram g = true →
    udpHeard g.udp s.m = true → 1 ≤ g.sessionId → g.sessionId ≤ 8 →
    sessionOpen (g.sessionId - 1) s.m = true → g.authentic = false →
    ∃ t, exec (.pbRequest g) s = .next t ∧
      (t.m.sess (g.sessionId - 1)).authFails = (s.m.sess (g.sessionId - 1)).authFails + 1 ∧
      Mach.SameBut [] s.m t.m ∧ t.m.out = s.m.out ∧ s.SameOutside t) ∧
  (∀ (g : Datagram) (s : State) (st : Status) (rs : List (Status × Nat)), s.managed → s.m.mgmt.recovery = false →
    wfDatagram g = true → udpHeard g.udp s.m = true → 1 ≤ g.sessionId → g.sessionId ≤ 8 →
    sessionOpen (g.sessionId - 1) s.m = true → g.authentic = true →
    (behind (s.m.sess (g.sessionId - 1)) g.seq).any (64 < ·) = false → seqTaken (s.m.sess (g.sessionId - 1)) g.seq = true →
    (s.m.sess (g.sessionId - 1)).responses.find? (·.1 == g.seq) = some (g.seq, st, rs) →
    exec (.pbRequest g) s = .next (s.at ((s.m.updSess (g.sessionId - 1) fun x => { x with heard := s.m.now.stitch }).emit
      (.preoc (udpReply g.udp s.m) (g.sessionId - 1) g.seq st rs)))) ∧
  (∀ (p : Path) (atomic : Bool) (ops : List DictOp) (s : State) (w : Who), s.Granted p ops w → fmPath p = true →
    wfOps ops = true →
    exec (.pbAccess p atomic ops) s = .next (s.put ((request w atomic ops s.toDev).2.2.on
      (·.emit (.reply (pathReply p s.m) (request w atomic ops s.toDev).1.cci (request w atomic ops s.toDev).2.1))))) ∧
  (∀ (p : Path) (opcode : Nat) (atomic : Bool) (ops : List DictOp) (s : State) (w : Who), s.Granted p [] w → fmPath p = true →
    wfOps ops = true → opcode < 65536 → fmOpcodes.contains opcode = false → opcode ≠ 0xC000 →
    exec (.pbAccess p atomic ops opcode) s = .next (s.at (fmAnswer p cciUnsupported 0 s.m))) ∧
  (∀ (p : Path) (ops : List DictOp) (s : State) (w : Who), s.Granted p ops w → fmPath p = true → wfOps ops = true →
    atomicFits ops = true →
    (∀ o ∈ ops, opKey o ≠ Twin.WITNESS ∧ opKey o ≠ Ct.SWAP ∧ opKey o ≠ Lc.LC_TOKEN ∧ (∀ n, n < 77 → opKey o ≠ Pd.PD_REQ n) ∧
      ∀ q, q < 64 → opKey o ≠ Gate.SWAP q) →
    (trialOps w ((ops.filter fun o => opWrites o.kind).map fun o => (opKey o, o.value)) ops s.toDev).1.all (·.1 == .ok) = false →
    ∃ t code rs, exec (.pbAccess p true ops) s = .next t ∧ t.m.out = .reply (pathReply p s.m) code rs :: s.m.out ∧
      rs.all (fun r => r.1 != .ok) = true ∧ Mach.SameBut [CtrAll.READ_REFUSED] s.m t.m ∧ s.SameOutside t)

/-- FM API commands that read: each answers Success with what it reports, and changes nothing else.
FM API commands that are operations on entries.
FM API commands with an effect of their own: the event records, the time, messages passed to a device, and the AER
message of a vPPB. -/
def Obligations.fm_api_commands : Prop :=
  (∀ (p : Path) (s : State) (w : Who), s.FmGranted p w →
    exec (.identify p) s = .next (s.fmRead p (packEntries s.toDev identityKeys)) ∧
    exec (.getEventRecords p) s = .next (s.fmRead p
      (s.m.col.records.length % 2 ^ 16 + 2 ^ 16 * packFields 328 (s.m.col.records.map recordBody))) ∧
    exec (.getFwInfo p) s = .next (s.fmRead p (packEntries s.toDev [Fw.FW_ACTIVE, Fw.FW_NEXT, Fw.FW_VER_A, Fw.FW_VER_B])) ∧
    exec (.getTimestamp p) s = .next (s.fmRead p (readValue Ident.FTIME_NOW s.toDev)) ∧
    exec (.getSupportedLogs p) s = .next (s.fmRead p (packEntries s.toDev [Log.COUNT, Log.NEXT_SEQ])) ∧
    exec (.identifySwitchDevice p) s = .next (s.fmRead p
      (packWide [(widthOf Ident.SERIAL, readValue Ident.SERIAL s.toDev), (8, 64), (64, portSet fun p => s.m.on (Port.ENABLE p)),
        (64, portSet fun p => s.m.linkUp p), (16, readValue Bridge.VCS_COUNT s.toDev), (16, readValue Bridge.VPPB_USED s.toDev)]))) ∧
  (∀ (p : Path) (port : Nat) (s : State) (w : Who), s.FmGranted p w → port < 64 →
    exec (.getPhysicalPortState p port) s = .next (s.fmRead p
      (packEntries s.toDev [Port.ENABLE port, Port.ROLE port, PortStat.LTSSM port, PortStat.RATE port, PortStat.WIDTH_NOW port,
        PortStat.PARTNER port, PortStat.LD_COUNT port]))) ∧
  (∀ (p : Path) (v : Nat) (s : State) (w : Who), s.FmGranted p w → v < 64 →
    ∃ x, exec (.getVirtualCxlSwitchInfo p v) s = .next (s.fmRead p x) ∧
      x % 2 ^ widthOf (Vcs.VCS_ENABLE v) = readValue (Vcs.VCS_ENABLE v) s.toDev % 2 ^ widthOf (Vcs.VCS_ENABLE v)) ∧
  (∀ (p : Path) (o l d : Nat) (s : State) (w : Who), s.FmGranted p w → d < 2 ^ (8 * l) →
    opFails w [] ⟨.blockWrite, 0x10A0, 7, l, o, 0, d⟩ s.toDev = none →
    exec (.transferFw p o l d) s = .next (s.fmServed p w ⟨.blockWrite, 0x10A0, 7, l, o, 0, d⟩)) ∧
  (∀ (p : Path) (a : Nat) (s : State) (w : Who), s.FmGranted p w → opFails w [] (writeOp Fw.FW_ACTIVATE a) s.toDev = none →
    exec (.activateFw p a) s = .next (s.fmServed p w (writeOp Fw.FW_ACTIVATE a))) ∧
  (∀ (p : Path) (o l : Nat) (s : State) (w : Who), s.FmGranted p w →
    opFails w [] ⟨.blockRead, 0x1080, 4, l, o, 0, 0⟩ s.toDev = none →
    exec (.getLog p o l) s = .next (s.fmServed p w ⟨.blockRead, 0x1080, 4, l, o, 0, 0⟩)) ∧
  (∀ (p : Path) (port action : Nat) (s : State) (w : Who), s.FmGranted p w → port < 64 → action < 2 →
    opFails w [] (writeOp (PortCtl.PERST port) (1 - action)) s.toDev = none →
    exec (.physicalPortControl p port action) s = .next (s.fmServed p w (writeOp (PortCtl.PERST port) (1 - action)))) ∧
  (∀ (p : Path) (port : Nat) (s : State) (w : Who), s.FmGranted p w → port < 64 →
    opFails w [] (writeOp (PortCtl.LINK_CTRL port) 2) s.toDev = none →
    exec (.physicalPortControl p port 2) s = .next (s.fmServed p w (writeOp (PortCtl.LINK_CTRL port) 2))) ∧
  (∀ (p : Path) (v i q ld : Nat) (valid : Bool) (s : State) (w : Who), s.FmGranted p w → v < 64 → i < 1024 → q < 64 → ld < 16 →
    opFails w [] (writeOp Bridge.BIND_REQ (bindValue 1 v i q ld valid 0)) s.toDev = none →
    exec (.bindVppb p v i q ld valid) s = .next (s.fmServed p w (writeOp Bridge.BIND_REQ (bindValue 1 v i q ld valid 0)))) ∧
  (∀ (p : Path) (v i mode : Nat) (s : State) (w : Who), s.FmGranted p w → v < 64 → i < 1024 →
    opFails w [] (writeOp Bridge.BIND_REQ (bindValue 2 v i 0 0 false mode)) s.toDev = none →
    exec (.unbindVppb p v i mode) s = .next (s.fmServed p w (writeOp Bridge.BIND_REQ (bindValue 2 v i 0 0 false mode)))) ∧
  (∀ p o l d, d < 2 ^ (8 * l) → FmRefused (.transferFw p o l d) p ⟨.blockWrite, 0x10A0, 7, l, o, 0, d⟩) ∧
  (∀ p a, FmRefused (.activateFw p a) p (writeOp Fw.FW_ACTIVATE a)) ∧
  (∀ p o l, FmRefused (.getLog p o l) p ⟨.blockRead, 0x1080, 4, l, o, 0, 0⟩) ∧
  (∀ p port, port < 64 → FmRefused (.physicalPortControl p port 2) p (writeOp (PortCtl.LINK_CTRL port) 2)) ∧
  (∀ p v i q ld valid, v < 64 → i < 1024 → q < 64 → ld < 16 →
    FmRefused (.bindVppb p v i q ld valid) p (writeOp Bridge.BIND_REQ (bindValue 1 v i q ld valid 0))) ∧
  (∀ p v i mode, v < 64 → i < 1024 →
    FmRefused (.unbindVppb p v i mode) p (writeOp Bridge.BIND_REQ (bindValue 2 v i 0 0 false mode))) ∧
  (∀ (p : Path) (js : List Nat) (s : State) (w : Who), s.FmGranted p w →
    ∃ t r, exec (.clearEventRecords p js) s = .next t ∧
      t.m.col.records = s.m.col.records.filter (fun r => !(js.filter (· < 1536)).contains r.source) ∧
      t.m.out.head? = some (.fmApi r 0 0) ∧ s.SameOutside t) ∧
  (∀ (p : Path) (time : Nat) (s : State) (w : Who), s.FmGranted p w → time < 2 ^ 64 → s.m.role = 0 →
    ∃ t, exec (.setTimestamp p time) s = .next t ∧ t.m.now = { s.m.now with ftime := time } ∧
      t.m.out = .fmApi (pathReply p s.m) 0 0 :: s.m.out ∧ Mach.SameBut [] s.m t.m ∧ s.SameOutside t) ∧
  (∀ (p : Path) (port x : Nat) (s : State) (w : Who), s.FmGranted p w → port < 64 → s.m.linkUp port = true →
    exec (.sendPpbCxlIoConfigurationRequest p port x) s = .next (s.at (fmAnswer p 0 0 (s.m.emit (.tunnel port 65535 x)))) ∧
    exec (.tunnelManagementCommand p port x) s = .next (s.at (fmAnswer p 0 0 (s.m.emit (.tunnel port 65535 x)))) ∧
    ∀ ld, ld < 16 →
      exec (.sendLdCxlIoConfigurationRequest p port ld x) s = .next (s.at (fmAnswer p 0 0 (s.m.emit (.tunnel port ld x)))) ∧
      exec (.sendLdCxlIoMemoryRequest p port ld x) s = .next (s.at (fmAnswer p 0 0 (s.m.emit (.tunnel port ld x))))) ∧
  (∀ (p : Path) (i v e : Nat) (s : State) (w : Who), s.FmGranted p w → i < 1024 →
    firstBelow 64 (fun v => s.m.on (Vcs.VCS_ENABLE v) && inVcs s.m v i) = some v →
    exec (.generateAerEvent p i e) s = .next (s.at (fmAnswer p 0 0 ((updVppb i (fun x => { x with aer := e })
      (s.m.updPort (s.m.rd (Vcs.USP v)) fun x => { x with aer := e })).emit (.route 255 (s.m.rd (Vcs.USP v)) none e)))))

/-! ### Sessions, notifications and management networks -/

/-- SPDM requests before a session: each carrier that is heard gets the answer of its request. -/
def Obligations.spdm_answers : Prop :=
  ∀ (via : Carrier) (s : State), s.managed → wfCarrier via = true → carrierHeard via s.m = true →
    exec (.spdmGetVersion via) s = .next (s.at (s.m.emit (.spdm (carrierReply via s.m) 4 spdmVersion))) ∧
    exec (.spdmGetCapabilities via) s = .next (s.at (s.m.emit (.spdm (carrierReply via s.m) 0x61 spdmCapabilities))) ∧
    exec (.spdmNegotiateAlgorithms via true) s = .next (s.at (s.m.emit (.spdm (carrierReply via s.m) 0x63 spdmAlgorithms))) ∧
    exec (.spdmNegotiateAlgorithms via false) s = .next (s.at (s.m.emit (.spdmError (carrierReply via s.m) spdmInvalid))) ∧
    (∃ f, exec (.spdmGetDigests via) s =
      .next (s.at ({ s.m with free := s.m.free + 1 }.emit (.spdm (carrierReply via s.m) 1 f)))) ∧
    (∀ slot o l, hasCert s.toDev slot = true →
      ∃ f, exec (.spdmGetCertificate via slot o l) s =
        .next (s.at ({ s.m with free := s.m.free + 1 }.emit (.spdm (carrierReply via s.m) 2 (f % 2 ^ (8 * l)))))) ∧
    (∀ slot o l, hasCert s.toDev slot = false →
      exec (.spdmGetCertificate via slot o l) s = .next (s.at (s.m.emit (.spdmError (carrierReply via s.m) spdmInvalid)))) ∧
    (∀ slot nonce, hasCert s.toDev slot = true →
      ∃ f, exec (.spdmChallenge via slot nonce) s =
        .next (s.at ({ s.m with free := s.m.free + 1 }.emit (.spdm (carrierReply via s.m) 3 f)))) ∧
    (∀ slot nonce, hasCert s.toDev slot = false →
      exec (.spdmChallenge via slot nonce) s = .next (s.at (s.m.emit (.spdmError (carrierReply via s.m) spdmInvalid)))) ∧
    exec (.spdmGetMeasurements via 0) s = .next (s.at (s.m.emit (.spdm (carrierReply via s.m) 0x60 6))) ∧
    (∀ n, 1 ≤ n → n ≤ 6 →
      exec (.spdmGetMeasurements via n) s = .next (s.at (s.m.emit (.spdm (carrierReply via s.m) 0x60 (measurement s.toDev n))))) ∧
    (∀ n, 6 < n → n ≠ 255 →
      exec (.spdmGetMeasurements via n) s = .next (s.at (s.m.emit (.spdmError (carrierReply via s.m) spdmInvalid))))

/-- A session opens in two steps: KEY_EXCHANGE takes the lowest closed session, and a FINISH whose chain ends in the FM root
opens it with privilege FM; a chain that does not verify closes it.
Messages inside a session, and the ways in which it ends: its number is closed and everything it held is gone. -/
def Obligations.sessions : Prop :=
  (∀ (u : Udp) (k slot exchange : Nat) (s : State), s.managed → wfUdp u = true → udpHeard u s.m = true → slot < 8 →
    exchange < 2 ^ 768 → hasCert s.toDev slot = true → firstBelow 8 (fun k => s.m.rd (Sess.STATE k) == 0) = some k →
    ∃ t f, exec (.keyExchange (.preoc u) slot exchange) s = .next t ∧ t.m.rd (Sess.STATE k) = 1 ∧
      t.m.rd (Sess.PEER_ADDR k) = u.sender.addr ∧ t.m.rd (Sess.PEER_PORT k) = u.sender.port ∧ t.m.rd (Sess.NOTIFY_LOST k) = 0 ∧
      t.m.sess k = { SessSt.reset with eth := u.sender.eth, heard := s.m.now.stitch } ∧
      t.m.out = .spdm (udpReply u s.m) 0x64 (k + 1 + 2 ^ 32 * f) :: s.m.out ∧
      Mach.SameBut [Sess.STATE k, Sess.PEER_ADDR k, Sess.PEER_PORT k, Sess.NOTIFY_LOST k] s.m t.m ∧ s.SameOutside t) ∧
  (∀ (u : Udp) (slot exchange : Nat) (s : State), s.managed → wfUdp u = true → udpHeard u s.m = true → slot < 8 →
    exchange < 2 ^ 768 → hasCert s.toDev slot = true → firstBelow 8 (fun k => s.m.rd (Sess.STATE k) == 0) = none →
    ∃ t, exec (.keyExchange (.preoc u) slot exchange) s = .next t ∧ t.m.out = .spdmError (udpReply u s.m) spdmBusy :: s.m.out ∧
      Mach.SameBut [] s.m t.m ∧ s.SameOutside t) ∧
  (∀ (via : Carrier) (slot exchange : Nat) (s : State), s.managed → wfCarrier via = true → carrierHeard via s.m = true → slot < 8 →
    exchange < 2 ^ 768 → hasCert s.toDev slot = false →
    exec (.keyExchange via slot exchange) s = .next (s.at (s.m.emit (.spdmError (carrierReply via s.m) spdmInvalid)))) ∧
  (∀ (on : Medium) (slot exchange : Nat) (s : State), s.managed → wfMedium on = true → mctpHeard on s.m = true → slot < 8 →
    exchange < 2 ^ 768 → hasCert s.toDev slot = true →
    ∃ t, exec (.keyExchange (.mctp on) slot exchange) s = .next t ∧ t.m.mgmt = { s.m.mgmt with mctpHs := true } ∧
      Mach.SameBut [] s.m t.m ∧ s.SameOutside t) ∧
  (∀ (u : Udp) (k root : Nat) (s : State), s.managed → wfUdp u = true → udpHeard u s.m = true → k < 8 → root < 2 ^ 384 →
    s.m.rd (Sess.STATE k) = 1 → root = s.m.rd Spdm.FM_ROOT_HASH → root ≠ 0 → root ≠ Config.factoryRoot →
    exec (.spdmFinish (.preoc u) k ⟨true, root⟩) s =
      .next (s.at (((s.m.wr (Sess.STATE k) 2).wr (Sess.PRIV k) 1).emit (.spdm (udpReply u s.m) 0x65 0)))) ∧
  (∀ (u : Udp) (k root : Nat) (s : State), s.managed → wfUdp u = true → udpHeard u s.m = true → k < 8 → root < 2 ^ 384 →
    s.m.rd (Sess.STATE k) = 1 →
    ∃ t, exec (.spdmFinish (.preoc u) k ⟨false, root⟩) s = .next t ∧ s.ClosesSession t k) ∧
  (∀ (on : Medium) (k root : Nat) (s : State), s.managed → wfMedium on = true → mctpHeard on s.m = true → k < 8 →
    root < 2 ^ 384 → s.m.mgmt.mctpHs = true →
    ∃ t, exec (.spdmFinish (.mctp on) k ⟨true, root⟩) s = .next t ∧ t.m.mgmt = { s.m.mgmt with mctpHs := false, secured := true } ∧
      Mach.SameBut [] s.m t.m ∧ s.SameOutside t) ∧
  (∀ (u : Udp) (k : Nat) (s : State), s.managed → wfUdp u = true → udpHeard u s.m = true → k < 8 →
    sessionOpen k s.m = true →
    exec (.keyUpdate ⟨.preoc u, k + 1, true⟩) s = .next (s.at ((s.m.updSess k fun x => { x with heard := s.m.now.stitch }).emit
      (.spdm (udpReply u s.m) 0x69 0))) ∧
    exec (.spdmHeartbeat ⟨.preoc u, k + 1, true⟩) s = .next (s.at ((s.m.updSess k fun x => { x with heard := s.m.now.stitch }).emit
      (.spdm (udpReply u s.m) 0x68 0))) ∧
    exec (.keepalive u ⟨k + 1, true⟩) s = .next (s.at ((s.m.updSess k fun x => { x with heard := s.m.now.stitch }).emit
      (.preoc (udpReply u s.m) k 0 .ok [])))) ∧
  (∀ (on : Medium) (sid : Nat) (s : State), s.managed → wfMedium on = true → mctpHeard on s.m = true → sid < 256 →
    s.m.mgmt.secured = true →
    exec (.keyUpdate ⟨.mctp on, sid, true⟩) s = .next (s.at (s.m.emit (.spdm (mctpReply on s.m) 0x69 0))) ∧
    exec (.spdmHeartbeat ⟨.mctp on, sid, true⟩) s = .next (s.at (s.m.emit (.spdm (mctpReply on s.m) 0x68 0))) ∧
    exec (.endSession ⟨.mctp on, sid, true⟩) s = .next (s.at ((s.m.emit (.spdm (mctpReply on s.m) 0x6C 0)).updMgmt
      fun x => { x with secured := false }))) ∧
  (∀ (u : Udp) (k : Nat) (s : State), s.managed → wfUdp u = true → udpHeard u s.m = true → k < 8 →
    sessionOpen k s.m = true →
    ∃ t, exec (.keepalive u ⟨k + 1, false⟩) s = .next t ∧ (t.m.sess k).authFails = (s.m.sess k).authFails + 1 ∧
      Mach.SameBut [] s.m t.m ∧ t.m.out = s.m.out ∧ s.SameOutside t) ∧
  (∀ (u : Udp) (sid seq : Nat) (authentic : Bool) (s : State), s.managed → wfUdp u = true → udpHeard u s.m = true → sid < 256 →
    sid = 0 ∨ 9 ≤ sid ∨ sessionOpen (sid - 1) s.m = false →
    exec (.keepalive u ⟨sid, authentic⟩) s = .next (s.at (s.m.emit (.preoc (udpReply u s.m) 255 0 .session []))) ∧
    exec (.notifyAck u ⟨seq, sid, authentic⟩) s = .next (s.at (s.m.emit (.preoc (udpReply u s.m) 255 0 .session [])))) ∧
  (∀ (u : Udp) (k : Nat) (s : State), s.managed → wfUdp u = true → udpHeard u s.m = true → k < 8 →
    sessionOpen k s.m = true →
    ∃ t, exec (.endSession ⟨.preoc u, k + 1, true⟩) s = .next t ∧ s.ClosesSession t k) ∧
  (∀ (k : Nat) (s : State), s.managed → k < 8 → s.m.rd (Sess.STATE k) ≠ 0 →
    (s.m.sess k).heard + msStitches (3 * s.m.rd Preoc.KEEPALIVE_MS) ≤ s.m.now.stitch →
    ∃ t, exec (.sessionTimeout k) s = .next t ∧ s.ClosesSession t k) ∧
  (∀ (k : Nat) (s : State), s.managed → k < 8 → ∃ t, exec (.sessionClose k) s = .next t ∧ s.ClosesSession t k)

/-- Notifications: an acknowledgement retires every one up to its sequence, and an expired retry sends the oldest again.
MCTP control, vendor messages on a port that is not the fabric manager's, and the Ethernet ports. -/
def Obligations.notifications_and_networks : Prop :=
  (∀ (u : Udp) (k seq : Nat) (s : State) (n : Sent) (rest : List Sent), s.managed → wfUdp u = true → udpHeard u s.m = true →
    k < 8 → s.m.rd (Sess.STATE k) = 2 → (s.m.sess k).unacked = n :: rest → n.seq = seq → (s.m.sess k).queue = [] →
    ∃ t, exec (.notifyAck u ⟨seq, k + 1, true⟩) s = .next t ∧ (t.m.sess k).unacked = rest ∧ t.m.out = s.m.out ∧
      Mach.SameBut [] s.m t.m ∧ s.SameOutside t) ∧
  (∀ (k : Nat) (s : State) (u : Sent) (rest : List Sent), s.live → k < 8 → (s.m.sess k).unacked = u :: rest →
    u.sent + msStitches (s.m.rd Preoc.NOTIFY_RETRY_MS) ≤ s.m.now.stitch → u.tries < s.m.rd Preoc.NOTIFY_TRIES →
    ∃ t, exec (.notifyRetryExpiry k) s = .next t ∧
      (t.m.sess k).unacked = { u with tries := u.tries + 1, sent := s.m.now.stitch } :: rest ∧
      t.m.out = .notify (sessEnd k s.m) k u.seq u.payload :: s.m.out ∧ Mach.SameBut [] s.m t.m ∧ s.SameOutside t) ∧
  (∀ (k : Nat) (s : State) (u : Sent) (rest : List Sent), s.live → k < 8 → (s.m.sess k).unacked = u :: rest →
    u.sent + msStitches (s.m.rd Preoc.NOTIFY_RETRY_MS) ≤ s.m.now.stitch →
    s.m.rd Preoc.NOTIFY_TRIES ≤ u.tries → (s.m.sess k).queue = [] →
    s.m.rd (Sess.NOTIFY_LOST k) + 1 < 2 ^ widthOf (Sess.NOTIFY_LOST k) →
    ∃ t, exec (.notifyRetryExpiry k) s = .next t ∧ (t.m.sess k).unacked = rest ∧
      t.m.rd (Sess.NOTIFY_LOST k) = s.m.rd (Sess.NOTIFY_LOST k) + 1 ∧
      Mach.SameBut [Sess.NOTIFY_LOST k] s.m t.m ∧ s.SameOutside t) ∧
  (∀ (on : Medium) (eid : Nat) (s : State), s.managed → wfMedium on = true → mctpHeard on s.m = true → 8 ≤ eid → eid < 255 →
    exec (.setEndpointId eid on) s = .next (s.at ((s.m.wr Mctp.EID eid).emit (.mctp (mctpReply on s.m) 1 (eid * 2 ^ 8))))) ∧
  (∀ (on : Medium) (eid : Nat) (s : State), s.managed → wfMedium on = true → mctpHeard on s.m = true → eid < 8 ∨ eid = 255 →
    exec (.setEndpointId eid on) s = .next (s.at (s.m.emit (.mctp (mctpReply on s.m) 1 2)))) ∧
  (∀ (on : Medium) (s : State), s.managed → wfMedium on = true → mctpHeard on s.m = true →
    exec (.getEndpointId on) s = .next (s.at (s.m.emit (.mctp (mctpReply on s.m) 2 (currentEid s.m * 2 ^ 8)))) ∧
    exec (.getMessageTypeSupport on) s = .next (s.at (s.m.emit (.mctp (mctpReply on s.m) 5 (messageTypes * 2 ^ 8)))) ∧
    ∃ f, exec (.getMctpVersionSupport on) s =
      .next (s.at ({ s.m with free := s.m.free + 1 }.emit (.mctp (mctpReply on s.m) 4 f)))) ∧
  (∀ (p : Nat) (s : State), s.managed → p < 64 → s.m.rd Mctp.FMH_PORT ≠ p →
    exec (.vdmDrop p) s = .next (s.at (s.m.bump Mctp.VDM_DROP 1)) ∧
    ∀ eid, eid < 256 → exec (.setEndpointId eid (.vdm p)) s = .next (s.at (s.m.bump Mctp.VDM_DROP 1))) ∧
  (∀ (i : Nat) (up : Bool) (s : State), s.live → i < 2 → s.m.domOn 1 = true → s.m.on (Eth.ENABLE i) = true →
    exec (.mgmtEthLink i up) s = .next (s.at (s.m.wr (Eth.LINK_UP i) (if up then 1 else 0)))) ∧
  (∀ (i a k g : Nat) (s : State), s.live → i < 2 → a < 2 ^ 32 → k < 2 ^ 32 → g < 2 ^ 32 → s.m.domOn 1 = true →
    s.m.on (Eth.ENABLE i) = true → s.m.rd (Eth.IPV4_ADDR i) = 0 → s.m.on (Eth.LINK_UP i) = true →
    ∃ t, exec (.dhcpv4 i a k g) s = .next t ∧ Tab.get (0, 0, 0) t.m.mgmt.dhcp i = (a, k, g) ∧
      Mach.SameBut [] s.m t.m ∧ s.SameOutside t)

/-! ### Faults, events and counters -/

/-- An occurrence of a source that is driven is put before the collector with its count, cause and context; wire and stuck
faults (a pair raised for STUCK_MS) set their status bit and raise an event of the collector's own, at most once in 100 ms.
The collector's window, captures (a context that comes over an idle network, a context that has not come for 1,024 stitches),
delivery, and the writes that clear and free. -/
def Obligations.event_collection : Prop :=
  (∀ (o : Occurrence) (s : State), s.live → wfOccurrence o = true → sourceClass o.source ≠ 255 →
    s.m.driven o.source = true →
    exec (.eventOccurrence o) s = .next (s.at { s.m with now := { s.m.now with raised :=
      ⟨o.source, o.count, sourceCause o.source, { o.ctx with gen := sliceGen s.m o.ctx.slice }⟩ :: s.m.now.raised } })) ∧
  (∀ (o : Occurrence) (s : State), s.live → wfOccurrence o = true → s.m.driven o.source = false →
    exec (.eventOccurrence o) s = .next s) ∧
  (∀ (j : Nat) (s : State), s.live → j < 1536 → sourceClass j ≠ 255 → s.m.driven j = true →
    s.m.bit (Src.SRC_STATUS j) 1 = false → s.m.rd Col.WIRE_FAULTS + 1 < 2 ^ widthOf Col.WIRE_FAULTS →
    ∃ t, exec (.wireFault j) s = .next t ∧ t.m.bit (Src.SRC_STATUS j) 1 = true ∧
      t.m.rd Col.WIRE_FAULTS = s.m.rd Col.WIRE_FAULTS + 1 ∧
      Mach.SameBut [Src.SRC_STATUS j, Col.WIRE_FAULTS] s.m t.m ∧ s.SameOutside t) ∧
  (∀ (j : Nat) (s : State), s.live → j < 1536 → sourceClass j ≠ 255 → s.m.driven j = true →
    s.m.bit (Src.SRC_STATUS j) 3 = false → stuckFor s.m j = true →
    ∃ t, exec (.sourceStuck j) s = .next t ∧ t.m.bit (Src.SRC_STATUS j) 3 = true ∧
      Mach.SameBut [Src.SRC_STATUS j] s.m t.m ∧ s.SameOutside t) ∧
  (∀ s : State, s.live → windowOver s.m = true →
    ∃ t, exec .threshWindow s = .next t ∧ (∀ j, (t.m.src j).window = 0 ∧ (t.m.src j).thresh = none) ∧
      t.m.col.winAt = s.m.now.ftime ∧ t.m.col.winMs = s.m.rd Col.THRESH_MS ∧ Mach.SameBut [] s.m t.m ∧ s.SameOutside t) ∧
  (∀ (e : Nat) (w : CapWait) (s : State), s.live → e < 64 → Tab.get none s.m.col.waits e = some w → s.m.noc = NocSt.reset →
    ∃ t, exec (.captureContext e) s = .next t ∧ Tab.get none t.m.col.waits e = none ∧
      t.m.words Col.CAP_DATA (16 * e) 16 = captureRecord w w.ctx % 2 ^ 512 ∧
      (∀ k, (∀ c, captureEnd w.source = some c → k ≠ NocStat.MSGS c ∧ k ≠ NocStat.FLITS c) → t.m.rd k = s.m.rd k) ∧
      s.SameOutside t) ∧
  (∀ (e : Nat) (w : CapWait) (s : State), s.live → e < 64 → Tab.get none s.m.col.waits e = some w →
    w.stitch + 1024 ≤ s.m.now.stitch →
    ∃ t, exec (.captureTimeout e) s = .next t ∧ Tab.get none t.m.col.waits e = none ∧
      t.m.words Col.CAP_DATA (16 * e) 16 = captureRecord w emptyCtx % 2 ^ 512 ∧ Mach.SameBut [] s.m t.m ∧ s.SameOutside t) ∧
  (∀ (j : Nat) (js : List Nat) (s : State), s.managed → deliveryOrder s.m = j :: js → hasToken s.m j = true →
    ∃ t, exec .eventDelivery s = .next t ∧ t.m.bit Col.PENDING j = false ∧ s.SameOutside t) ∧
  (∀ (j : Nat) (s : State), s.managed → j < 1536 →
    ∃ t, exec (.srcStatusWrite j 1) s = .next t ∧ t.m.bit (Src.SRC_STATUS j) 0 = false ∧
      (t.m.src j).stormed = false ∧ Mach.SameBut [Src.SRC_STATUS j] s.m t.m ∧ s.SameOutside t) ∧
  (∀ (bits : Nat) (s : State), s.managed → Nat.land (s.m.rd Col.CAP_VALID) bits ≠ 0 →
    ∃ t, exec (.capFree bits) s = .next t ∧
      t.m.rd Col.CAP_VALID = s.m.rd Col.CAP_VALID - Nat.land (s.m.rd Col.CAP_VALID) bits ∧
      (∀ e, e < 64 → bitAt (Nat.land (s.m.rd Col.CAP_VALID) bits) e = true → Tab.get none t.m.col.waits e = none) ∧
      t.m.col.capFull = false ∧ Mach.SameBut [Col.CAP_VALID] s.m t.m ∧ s.SameOutside t) ∧
  (∀ s : State, s.live → s.m.rd Mctp.BUS = 1 → s.m.col.malert = true →
    ∃ t, exec .alertResponse s = .next t ∧ t.m.out = .alertAddress (s.m.rd Mctp.BUS_ADDR) :: s.m.out ∧
      t.m.col = { s.m.col with alertReq := false, malert := false } ∧ Mach.SameBut [] s.m t.m ∧ s.SameOutside t)

/-- Injection in FACTORY: each mode acts on the pair of INJ_SOURCE and tells INJECTED; in every other state it answers
LIFECYCLE and does nothing else.
Event counters: selecting an event clears the counter and its overflow bit. -/
def Obligations.injection_and_counters : Prop :=
  (∀ s : State, s.managed → s.otp.lcState = 1 →
    exec .injectRaise s = .next (s.at (raiseEv 1511 { noCtx with kind := 10, unit := s.m.rd Col.INJ_SOURCE, level := 4 }
      (occur (s.m.rd Col.INJ_SOURCE) 1 (sourceCause (s.m.rd Col.INJ_SOURCE)) (injectCtx s.m) s.m)).ok)) ∧
  (∀ s : State, s.managed → s.otp.lcState = 1 →
    exec .injectWireFault s = .next (s.at (raiseEv 1511 { noCtx with kind := 10, unit := s.m.rd Col.INJ_SOURCE, level := 4 }
      (wireFault (s.m.rd Col.INJ_SOURCE) s.m)).ok)) ∧
  (∀ s : State, s.managed → s.otp.lcState = 1 →
    ∃ t, exec .injectStuck s = .next t ∧ (t.m.src (s.m.rd Col.INJ_SOURCE)).held = true ∧
      Mach.SameBut [] s.m t.m ∧ s.SameOutside t) ∧
  (∀ s : State, s.managed → s.otp.lcState = 1 →
    ∃ t, exec .injectRelease s = .next t ∧ (t.m.src (s.m.rd Col.INJ_SOURCE)).held = false ∧
      Mach.SameBut [] s.m t.m ∧ s.SameOutside t) ∧
  (∀ (c : Instr) (s : State), s.managed → s.otp.lcState ≠ 1 →
    (c = .injectRaise ∨ c = .injectWireFault ∨ c = .injectStuck ∨ c = .injectRelease) →
    exec c s = .next (s.at (s.m.emit (.answer .lifecycle 0)))) ∧
  (∀ (i e f : Nat) (s : State), s.managed → i < 1024 → ctrSelectCheck i e f (s.m.rd (Ctr.CTR_OWNER i)) = none →
    ∃ t, exec (.ctrSelect i e f) s = .next t ∧ t.m.rd (Ctr.CTR_EVENT i) = e ∧ t.m.rd (Ctr.CTR_FILTER i) = f ∧
      t.m.ctr i = 0 ∧ t.m.bit (Ctr.CTR_STATUS i) 0 = false ∧
      Mach.SameBut [Ctr.CTR_EVENT i, Ctr.CTR_FILTER i, Ctr.CTR_STATUS i] s.m t.m ∧ s.SameOutside t) ∧
  (∀ (i e f : Nat) (st : Status) (s : State), s.managed → i < 1024 →
    ctrSelectCheck i e f (s.m.rd (Ctr.CTR_OWNER i)) = some st →
    exec (.ctrSelect i e f) s = .next (s.at (s.m.emit (.answer st 0)))) ∧
  (∀ (i : Nat) (s : State), s.managed → i < 1024 →
    ∃ t, exec (.ctrClear i) s = .next t ∧ t.m.ctr i = 0 ∧ t.m.bit (Ctr.CTR_STATUS i) 0 = false ∧
      (∀ j, j ≠ i → t.m.ctr j = s.m.ctr j) ∧ Mach.SameBut [Ctr.CTR_STATUS i] s.m t.m ∧ s.SameOutside t) ∧
  (∀ (v : Nat) (s : State), s.managed → v < 2 ^ 64 →
    ∃ t, exec (.serviceSet v) s = .next t ∧ t.m.counters = { s.m.counters with service := v } ∧
      Mach.SameBut [] s.m t.m ∧ s.SameOutside t)

/-! ### Ports, links and binding -/

/-- What takes a link up: the enable of a port, training, a retrain, and a width change in L0p. -/
def Obligations.link_comes_up : Prop :=
  (∀ (p : Nat) (s : State), s.managed → p < 64 → s.m.domOn (portDomain p) = true → s.m.on (Port.ENABLE p) = false →
    portEnableCheck p s.m = none →
    ∃ t, exec (.portEnable p) s = .next t ∧ t.m.rd (Port.ENABLE p) = 1 ∧
      (t.m.port p).applied = s.m.rd (Port.WIDTH p) ∧
      ((t.m.port p).errDomain = false → t.m.rd (PortStat.LTSSM p) = 1) ∧ s.SameOutside t) ∧
  (∀ (p mode : Nat) (x : Trained) (s : State), s.live → p < 64 → wfTrained x = true → trains s.m p = true →
    commonMode (Nat.land (offeredModes s.m p) x.modes) = some mode →
    ∃ t, exec (.linkTrainingDone p x) s = .next t ∧ t.m.rd (PortStat.LTSSM p) = 4 ∧
      t.m.rd (PortStat.RATE p) = min (min x.rate (s.m.rd (Port.MAX_RATE p))) (if mode ≥ 3 then 4 else 6) ∧
      t.m.rd (PortStat.WIDTH_NOW p) = linkLanes (4 * positions s.m p) x.lanes ∧
      t.m.rd (PortStat.FLIT_NOW p) = mode ∧ t.m.rd (PortStat.PARTNER p) = x.partner ∧ t.m.rd (PortStat.PRESENT p) = 1 ∧
      s.SameOutside t) ∧
  (∀ (p : Nat) (x : Trained) (s : State), s.live → p < 64 → wfTrained x = true → trains s.m p = true → s.m.rd (PortStat.LTSSM p) ≠ 5 →
    commonMode (Nat.land (offeredModes s.m p) x.modes) = none →
    ∃ t, exec (.linkTrainingDone p x) s = .next t ∧ t.m.rd (PortStat.LTSSM p) = 1 ∧ (t.m.port p).resting = true ∧
      Mach.SameBut [PortStat.LTSSM p] s.m t.m ∧ s.SameOutside t) ∧
  (∀ (p : Nat) (s : State), s.managed → p < 64 → s.m.domOn (portDomain p) = true → s.m.on (Port.ENABLE p) = true →
    (s.m.rd (PortStat.LTSSM p) = 4 ∨ s.m.rd (PortStat.LTSSM p) = 6) →
    exec (.linkRetrain p) s = .next (s.at (s.m.wr (PortStat.LTSSM p) 5).ok)) ∧
  (∀ (p : Nat) (s : State), s.managed → p < 64 → s.m.domOn (portDomain p) = true → s.m.on (Port.ENABLE p) = true →
    s.m.rd (PortStat.LTSSM p) = 0 → portPowered s.m p = true →
    ∃ t, exec (.linkEnable p) s = .next t ∧ t.m.rd (PortStat.LTSSM p) = 1 ∧ (t.m.port p).resting = false ∧ s.SameOutside t) ∧
  (∀ (p n : Nat) (s : State), s.live → p < 64 → s.m.rd (PortStat.LTSSM p) = 4 → 1 ≤ s.m.rd (Port.L0P_MIN p) →
    (s.m.rd (PortStat.FLIT_NOW p) = 1 ∨ s.m.rd (PortStat.FLIT_NOW p) = 2) →
    (2 * n = s.m.rd (PortStat.WIDTH_NOW p) ∨ n = 2 * s.m.rd (PortStat.WIDTH_NOW p)) →
    2 ^ (s.m.rd (Port.L0P_MIN p) - 1) ≤ n → n ≤ (s.m.port p).full →
    ∃ t, exec (.l0pWidthChange p n) s = .next t ∧ t.m.rd (PortStat.WIDTH_NOW p) = n ∧ t.m.rd (PortStat.LTSSM p) = 4 ∧
      s.SameOutside t)

/-- What takes a link down, of a port that is up: disabling it, the commands of LINK_CTRL, a hot reset from the host, and the loss of
the link.
PERST_N of a group: its request while no port of the group is up or in hot reset, its release, and the end of a hold 100 ms
after power-good; receiver detection, which is told where the slot gives no presence of its own. -/
def Obligations.link_goes_down : Prop :=
  (∀ (p : Nat) (s : State), s.managed → p < 64 → s.m.domOn (portDomain p) = true → s.m.on (Port.ENABLE p) = true →
    ∃ t, exec (.portDisable p) s = .next t ∧ t.m.rd (Port.ENABLE p) = 0 ∧ (t.m.port p).resting = false ∧ s.SameOutside t) ∧
  (∀ (p : Nat) (s : State), s.managed → p < 64 → s.m.domOn (portDomain p) = true → s.m.on (Port.ENABLE p) = true →
    s.m.linkUp p = true →
    ∃ t, exec (.linkHotReset p) s = .next t ∧ t.m.rd (PortStat.LTSSM p) = 7 ∧ t.m.rd (PortStat.WIDTH_NOW p) = 0 ∧
      s.SameOutside t) ∧
  (∀ (p : Nat) (s : State), s.managed → p < 64 → s.m.domOn (portDomain p) = true → s.m.on (Port.ENABLE p) = true →
    s.m.rd (PortStat.LTSSM p) ≠ 0 →
    ∃ t, exec (.linkDisable p) s = .next t ∧ (t.m.port p).resting = false ∧
      t.m.rd (PortStat.LTSSM p) = 0 ∧ s.SameOutside t) ∧
  (∀ (p : Nat) (s : State), s.live → p < 64 → s.m.rd (Port.ROLE p) = 1 → s.m.linkUp p = true →
    ∃ t, exec (.inBandHotReset p) s = .next t ∧ t.m.rd (PortStat.LTSSM p) = 7 ∧ s.SameOutside t) ∧
  (∀ (p : Nat) (s : State), s.live → p < 64 → s.m.linkUp p = true → s.m.on (Port.ENABLE p) = true →
    ∃ t, exec (.linkLost p) s = .next t ∧ t.m.rd (PortStat.LTSSM p) = 1 ∧ s.SameOutside t) ∧
  (∀ (g : Nat) (v : Bool) (s : State), s.managed → g < 16 → s.m.domOn (portDomain (4 * g)) = true →
    (∀ i, i < 4 → s.m.linkUp (4 * g + i) = false ∧ s.m.rd (PortStat.LTSSM (4 * g + i)) ≠ 7) →
    ∃ t, exec (.perstRequest g v) s = .next t ∧ t.m.rd (PortCtl.PERST (4 * g)) = (if v then 1 else 0) ∧
      Mach.SameBut [PortCtl.PERST (4 * g)] s.m t.m ∧ s.SameOutside t) ∧
  (∀ (p : Nat) (s : State), s.live → p < 64 → s.m.begun (waitPerst p) + msStitches 100 ≤ s.m.now.stitch →
    ∃ t, exec (.perstHoldExpiry p) s = .next t ∧ Tab.get false t.m.edge.perst p = false ∧
      Mach.SameBut [] s.m t.m ∧ s.SameOutside t) ∧
  (∀ (p : Nat) (present : Bool) (s : State), s.live → p < 64 → 32 ≤ s.m.rd (PortCtl.SLOT p) →
    s.m.on (PortStat.PRESENT p) ≠ present → coverer s.m p = none →
    ∃ t, exec (.receiverDetection p present) s = .next t ∧ t.m.rd (PortStat.PRESENT p) = (if present then 1 else 0) ∧
      (t.m.port p).resting = false ∧ Mach.SameBut [PortStat.PRESENT p] s.m t.m ∧ s.SameOutside t)

/-- An IDE key is loaded for the stream and direction that KEY_SEL names, of a port that holds no traffic for want of a key.
Virtual switches: enabling one shows its state by the link of its upstream port, disabling it shows 0; a CXL.cache request of a
device behind it goes to that port.
A flit of a link that is up: counted, and what it carries is taken when its checks pass; a CRC error discards it whole and
asks for a replay, or takes the link to Recovery. -/
def Obligations.switches_flits_and_keys : Prop :=
  (∀ (p : Nat) (s : State), s.managed → p < 64 → s.m.domOn (portDomain p) = true → (s.m.port p).holding = 0 →
    ∃ t, exec (.keyGo p) s = .next t ∧
      Tab.get 0 (t.m.port p).loaded (s.m.rd (PortIde.KEY_SEL p)) = s.m.rd (PortIde.KEY p) + s.m.rd (PortIde.IV p) * 2 ^ 256 ∧
      t.m.rd (PortIde.IDE_STATE p) = setBit (s.m.rd (PortIde.IDE_STATE p)) (s.m.rd (PortIde.KEY_SEL p)) true ∧
      Mach.SameBut [PortIde.IDE_STATE p] s.m t.m ∧ s.SameOutside t) ∧
  (∀ (v : Nat) (s : State), s.managed → v < 64 → vcsEnableCheck v s.m = none →
    ∃ t, exec (.vcsEnable v) s = .next t ∧ t.m.rd (Vcs.VCS_ENABLE v) = 1 ∧
      t.m.rd (Vcs.VCS_STATE v) = (if s.m.rd (Vcs.USP v) < 64 && s.m.linkUp (s.m.rd (Vcs.USP v)) then 2 else 1) ∧
      Mach.SameBut [Vcs.VCS_ENABLE v, Vcs.VCS_STATE v] s.m t.m ∧ s.SameOutside t) ∧
  (∀ (v : Nat) (s : State), s.managed → v < 64 →
    ∃ t, exec (.vcsDisable v) s = .next t ∧ t.m.rd (Vcs.VCS_ENABLE v) = 0 ∧ t.m.rd (Vcs.VCS_STATE v) = 0 ∧
      (t.m.port (s.m.rd (Vcs.USP v))).busMaster = false ∧
      Mach.SameBut [Vcs.VCS_ENABLE v, Vcs.VCS_STATE v] s.m t.m ∧ s.SameOutside t) ∧
  (∀ (p ld cid a sl i u : Nat) (s : State), s.live → p < 64 → ld < 16 → cid < 16 → a < 2 ^ 52 → entryUp s.m p = true →
    ideBlocked s.m p 1 = false → s.m.rd (PortStat.PARTNER p) ≠ 5 → mapSlice s.m p .none none = some sl → sliceState s.m sl = 1 →
    s.m.rd (Pol.POL_MODE sl) = 0 → vppbOf s.m p none = some i → vState (s.m.rd (Vppb.VPPB i)) = 2 →
    s.m.on (Vcs.VCS_ENABLE (vVcs (s.m.rd (Vppb.VPPB i)))) = true → s.m.rd (Vcs.USP (vVcs (s.m.rd (Vppb.VPPB i)))) = u →
    unbinding s.m (vVcs (s.m.rd (Vppb.VPPB i))) p none = false → s.m.domOn (portDomain u) = true →
    (u < 64 → ideBlocked s.m u 1 = false) →
    exec (.cxlCacheRequest p ld cid a) s = .next (s.at ((s.m.count (16 * p + 6) sl 1).emit (.route p u (some cid) a)))) ∧
  (∀ (f : Flit) (s : State), wfFlit f = true → s.live → s.m.linkUp f.port = true → s.m.domOn (portDomain f.port) = true →
    f.corrected = 0 → f.fecOk = true → f.crcOk = true →
    s.m.on (if f.proto = 0 then PortIde.IO_IDE f.port else PortIde.CM_IDE f.port) = false →
    Tab.get none s.m.core.discard f.port = none →
    exec (.flitReceived f) s = .next (s.at (forAll f.items (takeItem f.port) (s.m.count (16 * f.port) 65535 1)))) ∧
  (∀ (f : Flit) (s : State), wfFlit f = true → s.live → s.m.linkUp f.port = true → s.m.domOn (portDomain f.port) = true →
    f.corrected = 0 → f.crcOk = false → f.retrain = false →
    exec (.flitReceived f) s =
      .next (s.at ((s.m.bump (PortErr.REPLAYS f.port) 1).count (16 * f.port + 9) 65535 1))) ∧
  (∀ (f : Flit) (s : State), wfFlit f = true → s.live → s.m.linkUp f.port = true → s.m.domOn (portDomain f.port) = true →
    f.corrected = 0 → f.crcOk = false → f.retrain = true →
    exec (.flitReceived f) s = .next (s.at
      (raiseEv (16 * f.port + 3) (portCtx f.port)
        (((s.m.bump (PortErr.REPLAYS f.port) 1).count (16 * f.port + 9) 65535 1).wr (PortStat.LTSSM f.port) 5))))

/-- Binding a vPPB and unbinding it. -/
def Obligations.binding : Prop :=
  (∀ (v i p ld : Nat) (valid : Bool) (s : State), s.managed → v < 64 → i < 1024 → p < 64 → ld < 16 →
    s.m.rd Bridge.BIND_STATUS ≠ 1 → bindCheck v i p (if valid then some ld else none) s.m = none →
    ∃ t, exec (.bind v i p ld valid) s = .next t ∧ t.m.rd Bridge.BIND_STATUS = 1 ∧
      t.m.rd (Vppb.VPPB i) = vppbDesc s.m 1 v p (if valid then some ld else none) ∧
      t.m.edge.job = some ⟨true, v, i, p, if valid then some ld else none, 0, false⟩ ∧
      Mach.SameBut [Bridge.BIND_STATUS, Vppb.VPPB i] s.m t.m ∧ s.SameOutside t) ∧
  (∀ (v i p ld : Nat) (valid : Bool) (st : Status) (s : State), s.managed → v < 64 → i < 1024 → p < 64 → ld < 16 →
    s.m.rd Bridge.BIND_STATUS ≠ 1 → bindCheck v i p (if valid then some ld else none) s.m = some st →
    ∃ t, exec (.bind v i p ld valid) s = .next t ∧ t.m.rd Bridge.BIND_STATUS = 3 ∧ t.m.rd Bridge.BIND_RESULT = st.code ∧
      Mach.SameBut [Bridge.BIND_STATUS, Bridge.BIND_RESULT] s.m t.m ∧ s.SameOutside t) ∧
  (∀ (v i mode : Nat) (s : State), s.managed → v < 64 → i < 1024 → mode ≤ 2 → s.m.rd Bridge.BIND_STATUS ≠ 1 →
    s.m.edge.job = none → unbindCheck v i s.m = none →
    ∃ t, exec (.unbind v i mode) s = .next t ∧ t.m.rd Bridge.BIND_STATUS = 1 ∧ vState (t.m.rd (Vppb.VPPB i)) = 3 ∧
      t.m.edge.job = some ⟨false, v, i, vPort (s.m.rd (Vppb.VPPB i)),
        if vKind (s.m.rd (Vppb.VPPB i)) = 1 then some (vLd (s.m.rd (Vppb.VPPB i))) else none, mode, mode == 2⟩ ∧
      Mach.SameBut [Bridge.BIND_STATUS, Vppb.VPPB i] s.m t.m ∧ s.SameOutside t) ∧
  (∀ (i bus : Nat) (s : State), s.live → i < 1024 → vState (s.m.rd (Vppb.VPPB i)) = 2 →
    ∃ t, exec (.secondaryBusWrite i bus) s = .next t ∧ (Tab.get VppbSt.reset t.m.edge.vppbs i).bus = some bus ∧
      Mach.SameBut [] s.m t.m ∧ s.SameOutside t) ∧
  (∀ (i : Nat) (s : State), s.live → i < 1024 →
    ∃ t, exec (.vppbLinkDown i) s = .next t ∧ (Tab.get VppbSt.reset t.m.edge.vppbs i).present = false ∧
      (∀ j, s.m.edge.job = some j → j.bind = false → j.vppb = i → t.m.edge.job = some { j with drain := true }) ∧
      Mach.SameBut [] s.m t.m ∧ s.SameOutside t) ∧
  (∀ (j : BindJob) (s : State), s.live → s.m.edge.job = some j → j.bind = false → j.mode = 1 → j.drain = false →
    s.m.begun waitRemoval + usStitches (s.m.rd (Port.CPL_TIMEOUT_US j.port)) ≤ s.m.now.stitch →
    ∃ t, exec .unbindRemovalTimeout s = .next t ∧ t.m.edge.job = some { j with drain := true } ∧
      (Tab.get VppbSt.reset t.m.edge.vppbs j.vppb).present = false ∧ Mach.SameBut [] s.m t.m ∧ s.SameOutside t) ∧
  (∀ (j : BindJob) (s : State), s.live → s.m.edge.job = some j → j.bind = false → j.drain = true →
    unbindBusy s.m j = false →
    ∃ t, exec .unbindDrainDone s = .next t ∧ t.m.rd (Vppb.VPPB j.vppb) = 0 ∧ t.m.rd Bridge.BIND_STATUS = 2 ∧
      t.m.rd Bridge.BIND_RESULT = 0 ∧ t.m.edge.job = none ∧
      Mach.SameBut [Vppb.VPPB j.vppb, Bridge.BIND_STATUS, Bridge.BIND_RESULT] s.m t.m ∧ s.SameOutside t)

/-! ### Requests and responses at the ports -/

/-- CXL.io requests to the pool: a direct one is forwarded and opens its transaction; a locked read from a host takes the
semaphore of its target too; an AtomicOp of a window whose atomics are done at the memory goes to its target.
CXL.mem reads: one of a private or uncached window that is allowed goes to its member, one of a tracked window is
sent on the network to the slice of its line, stamped by the central table. -/
def Obligations.pool_requests : Prop :=
  (∀ (r : IoReq) (s : State) (sl w p : Nat) (ld : Option Nat), s.IoPasses r sl → r.kind = 0 → s.PoolDirect r sl w p ld →
    ∃ t, exec (.cxlIoRequest r) s = .next t ∧
      s.SendsOnly t (.forward r.port r.tag p ld 16 (deviceAddr s.m w r.addr) r.len r.data (2 ^ r.len - 1) r.poison) ∧
      t.m.edge.txns = s.m.edge.txns ++
        [⟨r.port, r.tag, true, true, p, ld, r.vcs, sl, genOf s.m sl, r.addr, r.len, 0, 0, 1, r.ld, s.m.now.stitch⟩] ∧
      Mach.SameBut [] s.m t.m ∧ s.SameOutside t) ∧
  (∀ (r : IoReq) (s : State) (sl w p : Nat) (ld : Option Nat), s.IoPasses r sl → r.kind = 0 → s.PoolDirect r sl w p ld →
    isUsp s.m r.port = true → (∀ e ∈ s.m.edge.sems, e.2.holder ≠ some r.port) →
    ∃ t, exec (.lockedRead r) s = .next t ∧
      s.SendsOnly t (.forward r.port r.tag p ld 16 (deviceAddr s.m w r.addr) r.len r.data (2 ^ r.len - 1) r.poison) ∧
      (t.m.sem (targetKey p ld)).holder = some r.port ∧ (t.m.sem (targetKey p ld)).since = s.m.now.stitch ∧
      Mach.SameBut [] s.m t.m ∧ s.SameOutside t) ∧
  (∀ (r : IoReq) (s : State) (sl w p : Nat) (ld : Option Nat), s.IoPasses r sl → r.kind = 2 → s.PoolDirect r sl w p ld →
    s.m.rd (Win.W_ATOMIC_SITE w) ≠ 0 →
    ∃ t, exec (.atomicop r) s = .next t ∧
      s.SendsOnly t (.forward r.port r.tag p ld (24 + r.atomCode) (deviceAddr s.m w r.addr) r.len (ioPayload r)
        (2 ^ r.len - 1) r.poison) ∧
      Mach.SameBut [] s.m t.m ∧ s.SameOutside t) ∧
  (∀ (r : MemReq) (s : State) (sl w p : Nat) (ld : Option Nat), s.MemPasses r sl → r.op = .memRd → r.mval = .i →
    findWindow s.m r.addr = some w → winTracked s.m w = false → memberOff s.m w r.addr = false →
    checkAccess s.m (pieceSite s.m w r.addr) sl needRead (r.addr / 64 * 64) 64 = none →
    resolve s.m (winTarget s.m w (memberOf s.m w r.addr)) = .port p ld → takesMem s.m p = true →
    (p < 64 → ideBlocked s.m p 1 = false) →
    ∃ t, exec (.cxlMemRequest r) s = .next t ∧
      s.SendsOnly t (.forward r.port r.tag p ld 0 (deviceAddr s.m w r.addr) 64 r.data r.be r.poison) ∧
      t.m.edge.txns = s.m.edge.txns ++ [{ memTxn s.m r sl p ld 0 0 with since := s.m.now.stitch }] ∧
      Mach.SameBut [] s.m t.m ∧ s.SameOutside t) ∧
  (∀ (r : MemReq) (s : State) (sl w : Nat), s.MemPasses r sl → r.op = .memRd → r.mval = .i →
    findWindow s.m r.addr = some w → winTracked s.m w = true → actsHome s.m w = true → memberOff s.m w r.addr = false →
    checkAccess s.m 0 sl needRead (r.addr / 64 * 64) 64 = none →
    sliceRuns s.m (placeOfAddr s.m r.addr).c = true → ((portAgent s.m r.port).any fun a => agentDead s.m a) = false →
    nocReach s.m (sliceEnd (placeOfAddr s.m r.addr).c) = true →
    s.m.domOn (routerDomain (routerOf (endpointOf r.port))) = true →
    ∃ t, exec (.cxlMemRequest r) s = .next t ∧
      s.SendsOnly t (.noc (placeOfAddr s.m r.addr).c 2 (cohOfMem s.m r sl none)) ∧
      (∃ x, t.m.noc.msgs = s.m.noc.msgs ++ [x] ∧ x.body = .slice (.rdi (cohOfMem s.m r sl none)) ∧
        x.src = endpointOf r.port ∧ x.dst = sliceEnd (placeOfAddr s.m r.addr).c ∧ x.vn = 0 ∧ x.flits = 1) ∧
      t.m.edge.txns = s.m.edge.txns ++ [{ memTxn s.m r sl 255 none needRead 0 with since := s.m.now.stitch }] ∧
      t.m.protect.stamps = s.m.protect.stamps ++ [⟨0, s.m.rd Ct.EPOCH, r.port, r.tag, r.addr⟩] ∧
      Mach.SameBut [] s.m t.m ∧ s.SameOutside t)

/-- The end of a locked sequence, by the holder's Unlock or at the time limit of its port.
Responses: one that fits an open transaction closes it and reaches its requester; an error ends it with a
completion of its status; one that fits nothing is counted as late; a timeout discards the context without an answer. -/
def Obligations.responses_and_locks : Prop :=
  (∀ (p k n : Nat) (s : State), p < 67 → s.live → s.m.sem k = ⟨some p, [], n⟩ → s.m.edge.served = [] →
    ∃ t, exec (.unlock p k) s = .next t ∧ t.m.sem k = ⟨none, [], s.m.now.stitch⟩ ∧
      Mach.SameBut [] s.m t.m ∧ s.SameOutside t) ∧
  (∀ (p k : Nat) (s : State), p < 67 → s.live → (s.m.sem k).holder ≠ some p → exec (.unlock p k) s = .next s) ∧
  (∀ (p k n : Nat) (s : State), p < 64 → s.live → s.m.sem k = ⟨some p, [], n⟩ → s.m.edge.served = [] →
    n + usStitches (s.m.rd (PortCtl.LOCK_LIMIT_US p)) ≤ s.m.now.stitch →
    s.m.rd (PortErr.LOCK_TIMEOUT p) + 1 < 2 ^ widthOf (PortErr.LOCK_TIMEOUT p) →
    ∃ t, exec (.lockLimitExpiry k) s = .next t ∧ t.m.sem k = ⟨none, [], s.m.now.stitch⟩ ∧
      t.m.rd (PortErr.LOCK_TIMEOUT p) = s.m.rd (PortErr.LOCK_TIMEOUT p) + 1 ∧
      Mach.SameBut [PortErr.LOCK_TIMEOUT p] s.m t.m ∧ s.SameOutside t) ∧
  (∀ (p k : Nat) (s : State), p < 64 → s.live → (s.m.sem k).holder = some p →
    s.m.now.stitch < (s.m.sem k).since + usStitches (s.m.rd (PortCtl.LOCK_LIMIT_US p)) →
    exec (.lockLimitExpiry k) s = .next s) ∧
  (∀ (p tag : Nat) (r : Response) (s : State) (x : Txn), p < 67 → r.status = 0 → s.live → entryUp s.m p = true →
    findEgress s.m p tag = some x → x.io = true → x.port < 255 → (x.port < 64 → ideBlocked s.m x.port 0 = false) →
    ∃ t, exec (.targetResponse p tag r) s = .next t ∧ s.SendsOnly t (.complete x.port x.tag 0 r.data r.poison) ∧
      t.m.edge.txns = dropTxn x.port x.tag s.m.edge.txns ∧ s.SameOutside t) ∧
  (∀ (p tag status : Nat) (s : State) (x : Txn), p < 67 → s.live → entryUp s.m p = true → (status = 1 ∨ status = 2) →
    findEgress s.m p tag = some x → x.io = true → x.port < 255 → (x.port < 64 → ideBlocked s.m x.port 0 = false) →
    ∃ t, exec (.farErrorOpen p tag status) s = .next t ∧ s.SendsOnly t (.complete x.port x.tag status 0 false) ∧
      t.m.edge.txns = dropTxn x.port x.tag s.m.edge.txns ∧ s.SameOutside t) ∧
  (∀ (p tag : Nat) (s : State), p < 64 → s.live → findEgress s.m p tag = none →
    exec (.farErrorClosed p tag) s =
      .next (s.at (raiseEv (16 * p + 11) (portCtx p) (s.m.bump (PortErr.LATE_CPL p) 1)))) ∧
  (∀ (p tag : Nat) (s : State) (x : Txn), p < 67 → s.live → findEgress s.m p tag = some x → x.io = true → x.port < 256 →
    cplDue s.m p x.since = true →
    ∃ t, exec (.cplTimeout p tag) s = .next t ∧ t.m.out = s.m.out ∧
      t.m.edge.txns = dropTxn x.port x.tag s.m.edge.txns ∧ s.SameOutside t) ∧
  (∀ (p tag : Nat) (s : State) (x : Txn), p < 67 → s.live → findEgress s.m p tag = some x →
    cplDue s.m p x.since = false → exec (.cplTimeout p tag) s = .next s) ∧
  (∀ (p tag : Nat) (s : State) (h : HeldRsp) (x : Txn), p < 67 → s.live → s.m.noc = NocSt.reset →
    (p < 64 → ideBlocked s.m p 0 = false) →
    (s.m.coh.heldRsp.find? fun h => h.port == p && h.tag == tag) = some h → findTxn s.m p tag = some x → x.io = true →
    ∃ t, exec (.releaseNotice p tag) s = .next t ∧ s.SendsOnly t (.complete p tag 0 h.data h.poison) ∧
      t.m.coh.heldRsp = s.m.coh.heldRsp.erase h ∧
      Mach.SameBut [NocStat.MSGS (tagSlice s.m tag), NocStat.FLITS (tagSlice s.m tag)] s.m t.m ∧ s.SameOutside t)

/-! ### Pool windows and protection rules -/

/-- A window that passes its checks is enabled; one that is disabled drains until nothing of it is left. -/
def Obligations.windows : Prop :=
  (∀ (w : Nat) (s : State), w < 1024 → s.managed → windowEnableCheck w s.m = none →
    ∃ t, exec (.windowEnable w) s = .next t ∧ t.m.rd (Win.W_ENABLE w) = 1 ∧ t.m.rd (Win.W_STATE w) = 1 ∧
      Mach.SameBut [Win.W_ENABLE w, Win.W_STATE w] s.m t.m ∧ s.SameOutside t) ∧
  (∀ (w : Nat) (s : State), w < 1024 → s.managed → s.m.rd (Win.W_STATE w) = 1 →
    ∃ t, exec (.windowDisable w) s = .next t ∧ t.m.rd (Win.W_ENABLE w) = 0 ∧ t.m.rd (Win.W_STATE w) = 2 ∧
      Mach.SameBut [Win.W_ENABLE w, Win.W_STATE w] s.m t.m ∧ s.SameOutside t) ∧
  (∀ (w : Nat) (s : State), w < 1024 → s.live → s.m.rd (Win.W_STATE w) = 2 → winTracked s.m w = false →
    (windowBusy s.m w = false → exec (.windowDrainDone w) s = .next (s.at (s.m.wr (Win.W_STATE w) 0))) ∧
    (windowBusy s.m w = true → exec (.windowDrainDone w) s = .next s)) ∧
  (∀ (w : Nat) (s : State), w < 1024 → s.live → s.m.rd (Win.W_STATE w) = 2 → winTracked s.m w = true →
    s.m.coh.dir = [] → s.m.coh.tlt = [] →
    ∃ t, exec (.windowDrainDone w) s = .next t ∧ t.m.rd (Win.W_STATE w) = 0 ∧
      Mach.SameBut [Win.W_STATE w] s.m t.m ∧ s.SameOutside t)

/-- The check of a basted bank shows its verdict, and a copy makes the basted bank equal to the sewn one.
SWAP exchanges the banks, and ends when no access of the previous epoch is outstanding. -/
def Obligations.rules_and_swaps : Prop :=
  (∀ (x : Site) (s : State), wfSite x = true → s.live → s.m.rd (setStateKey (siteNo x)) = 1 →
    (s.m.site (siteNo x)).copying = false → bankOverlap s.m (siteNo x) (1 - s.m.rd (sewnKey (siteNo x))) = none →
    exec (.ruleCheckDone x) s =
      .next (s.at ((s.m.wr (setStateKey (siteNo x)) 0).wr (pairKey (siteNo x)) 0))) ∧
  (∀ (x : Site) (s : State) (r q : Nat), wfSite x = true → s.live → s.m.rd (setStateKey (siteNo x)) = 1 →
    (s.m.site (siteNo x)).copying = false → bankOverlap s.m (siteNo x) (1 - s.m.rd (sewnKey (siteNo x))) = some (r, q) →
    ∃ t, exec (.ruleCheckDone x) s = .next t ∧ t.m.rd (setStateKey (siteNo x)) = 2 ∧
      t.m.rd (pairKey (siteNo x)) = r + q * 2 ^ 16 + 2 ^ 31 ∧
      Mach.SameBut [setStateKey (siteNo x), pairKey (siteNo x)] s.m t.m ∧ s.SameOutside t) ∧
  (∀ (x : Site) (s : State), wfSite x = true → s.managed → ruleCopyCheck (siteNo x) s.m = none →
    (∀ p, x = .gate p → s.m.domOn (portDomain p) = true) →
    ∃ t, exec (.ruleCopy x) s = .next t ∧ t.m.rd (setStateKey (siteNo x)) = 1 ∧
      (t.m.site (siteNo x)).copying = true ∧ Mach.SameBut [setStateKey (siteNo x)] s.m t.m ∧ s.SameOutside t) ∧
  (∀ (x : Site) (s : State) (r : Nat), wfSite x = true → s.live → (s.m.site (siteNo x)).copying = true →
    s.m.rd (sewnKey (siteNo x)) < 2 → Tab.wf (fun _ => 0) s.m.ram = true → r < bankRules (siteNo x) →
    ∃ t, exec (.ruleCopyDone x) s = .next t ∧ (t.m.site (siteNo x)).copying = false ∧
      ruleOf t.m (siteNo x) (1 - s.m.rd (sewnKey (siteNo x))) r =
        ruleOf s.m (siteNo x) (s.m.rd (sewnKey (siteNo x))) r ∧ s.SameOutside t) ∧
  (∀ (x : Site) (s : State), wfSite x = true → s.managed → swapCheck (siteNo x) s.m = none →
    (∀ p, x = .gate p → s.m.domOn (portDomain p) = true) →
    ∃ t, exec (.swap x) s = .next t ∧ t.m.rd (sewnKey (siteNo x)) = 1 - s.m.rd (sewnKey (siteNo x)) ∧
      t.m.rd (setStateKey (siteNo x)) =
        (if s.m.protect.stamps.any (fun y => y.site == siteNo x && y.epoch == s.m.rd (epochKey (siteNo x)))
         then 3 else 0) ∧
      (x = .central → t.m.rd (setStateKey (siteNo x)) = 0 → t.m.rd Ct.SWAP_STITCH = s.m.now.stitch - 1) ∧
      s.SameOutside t) ∧
  (∀ (x : Site) (s : State), wfSite x = true → s.live → s.m.rd (setStateKey (siteNo x)) = 3 →
    (s.m.rd (drainKey (siteNo x)) = 0 →
      ∃ t, exec (.swapDone x) s = .next t ∧ t.m.rd (setStateKey (siteNo x)) = 0 ∧
        (x = .central → t.m.rd Ct.SWAP_STITCH = s.m.now.stitch) ∧
        Mach.SameBut [setStateKey (siteNo x), Ct.SWAP_STITCH] s.m t.m ∧ s.SameOutside t) ∧
    (s.m.rd (drainKey (siteNo x)) ≠ 0 → exec (.swapDone x) s = .next s))

/-! ### Tenant slices, gate lists and needle channels -/

/-- SLC_CTRL: activation, reset, declaration of death and free; and the end of the reset sequence. -/
def Obligations.slice_life : Prop :=
  (∀ (n : Nat) (s : State), n < 4096 → s.managed → sliceCtrlCheck n 1 s.m = none →
    exec (.slcActivate n) s = .next (s.at ((s.m.wr (Slc.SLC_STATE n) 1).ok))) ∧
  (∀ (n : Nat) (s : State), n < 4096 → s.managed → sliceCtrlCheck n 2 s.m = none →
    ∃ t, exec (.slcReset n) s = .next t ∧ t.m.rd (Slc.SLC_STATE n) = 2 ∧
      t.m.rd (Slc.SLC_GEN n) = (s.m.rd (Slc.SLC_GEN n) + 1) % 2 ^ widthOf (Slc.SLC_GEN n) ∧
      t.m.rd (Slc.SLC_CAUSE n) = 0 ∧ (t.m.slice n).ending = 1 ∧
      t.m.rd (Slc.SLC_RESET_START n) = s.m.now.stitch - 1 ∧
      (∀ x ∈ t.m.edge.txns, x.slice ≠ n) ∧ s.SameOutside t) ∧
  (∀ (n : Nat) (s : State), n < 4096 → s.managed → sliceCtrlCheck n 3 s.m = none →
    ∃ t, exec (.slcDeclareDead n) s = .next t ∧ t.m.rd (Slc.SLC_CAUSE n) = 0 ∧
      t.m.rd (Slc.SLC_STATE n) = 2 ∧ (t.m.slice n).ending = 3 ∧
      (∀ a, sliceAgent s.m n = some a → agentDead s.m a = false → agentDying s.m a = false →
        (a, s.m.now.stitch) ∈ t.m.coh.dying) ∧
      s.SameOutside t) ∧
  (∀ (n : Nat) (s : State), n < 4096 → s.managed → sliceCtrlCheck n 4 s.m = none → sliceState s.m n = 3 →
    ∃ t, exec (.slcFree n) s = .next t ∧ t.m.rd (Slc.SLC_STATE n) = 0 ∧ t.m.rd (Slc.SLC_KEYS n) = 0 ∧
      t.m.rd (Slc.SLC_PORT n) = 255 ∧ t.m.rd (Slc.SLC_DIR_QUOTA n) = 0 ∧ t.m.rd (Slc.SLC_BS_QUOTA n) = 0 ∧
      t.m.rd (Slc.SLC_NEEDLE n) = 0 ∧ t.m.rd (Slc.SLC_BOOT n) = 0 ∧ s.SameOutside t) ∧
  (∀ (n : Nat) (s : State), n < 4096 → s.managed → sliceCtrlCheck n 4 s.m = none → sliceState s.m n = 1 →
    ∃ t, exec (.slcFree n) s = .next t ∧ t.m.rd (Slc.SLC_STATE n) = 2 ∧ (t.m.slice n).ending = 0 ∧ s.SameOutside t) ∧
  (∀ (n : Nat) (s : State), n < 4096 → s.live → sliceState s.m n = 2 → (s.m.slice n).began < s.m.now.stitch →
    (s.m.slice n).moves < s.m.now.stitch →
    (s.m.slice n).ending ≠ 3 → s.m.coh.dir = [] → s.m.rd (Slc.SLC_BS_HELD n) = 0 → oldGenGone s.m n = true →
    ∃ t, exec (.sliceResetEnd n) s = .next t ∧ t.m.rd (Slc.SLC_STATE n) = (s.m.slice n).ending ∧
      t.m.rd (Slc.SLC_RESET_END n) = s.m.now.stitch - 1 ∧ s.SameOutside t)

/-- The other writes of a slice's record, and the end of a class hold.
Gate lists: a commit waits for its start time, and at it the administrative and operational lists change places. -/
def Obligations.slice_records_and_gate_lists : Prop :=
  (∀ (n v : Nat) (s : State), n < 4096 → v < 2 ^ 32 → s.managed → classesCheck n v s.m = none →
    ∃ t, exec (.slcClassesWrite n v) s = .next t ∧ t.m.rd (Slc.SLC_CLASSES n) = Nat.land v 0x3F3F3F3F ∧
      s.SameOutside t) ∧
  (∀ (n kind cls : Nat) (s : State), n < 4096 → s.live →
    ((s.m.slice n).hold.find? fun h => h.1 == kind) = some (kind, cls) →
    (∀ x ∈ s.m.core.pkts, x.slice = n → x.kind = kind → x.cls = cls → x.path = 0) →
    ∃ t, exec (.classHoldEnd n kind) s = .next t ∧ (∀ h ∈ (t.m.slice n).hold, h.1 ≠ kind) ∧
      Mach.SameBut [Slc.SLC_PEND n] s.m t.m ∧ s.SameOutside t) ∧
  (∀ (n v : Nat) (s : State), n < 4096 → v < 2 ^ 128 → s.managed → slcNeedleCheck n v s.m = none →
    (∀ c, c < 128 → bitAt (s.m.rd (Slc.SLC_NEEDLE n)) c = true → bitAt v c = true) →
    ∃ t, exec (.slcNeedleWrite n v) s = .next t ∧ t.m.rd (Slc.SLC_NEEDLE n) = v ∧ s.SameOutside t) ∧
  (∀ (n v : Nat) (s : State), n < 4096 → v < 2 ^ 32 → s.managed →
    ∃ t, exec (.slcCauseWrite n v) s = .next t ∧
      t.m.rd (Slc.SLC_CAUSE n) = s.m.rd (Slc.SLC_CAUSE n) - Nat.land (s.m.rd (Slc.SLC_CAUSE n)) v ∧ s.SameOutside t) ∧
  (∀ (n v : Nat) (s : State), n < 4096 → v < 2 ^ 1024 → s.managed → vectorsCheck v = none →
    ∃ t, exec (.slcVectorsWrite n v) s = .next t ∧
      (∀ i, i < 8 → getBits (t.m.rd (Slc.SLC_VECTORS n)) (128 * i) 97 = getBits v (128 * i) 97) ∧ s.SameOutside t) ∧
  (∀ (p : Nat) (s : State), p < 64 → s.managed → s.m.domOn (portDomain p) = true → tgCommitCheck p s.m = none →
    ∃ t, exec (.tgCommit p) s = .next t ∧ t.m.rd (Tg.TG_STATE p) = 2 ∧
      (t.m.gate p).due = some (max (s.m.now.stitch + ceilDiv (s.m.rd (Tg.TG_START_TIME p) - s.m.now.ftime) 8)
        (s.m.now.stitch + 1)) ∧ Mach.SameBut [Tg.TG_STATE p] s.m t.m ∧ s.SameOutside t) ∧
  (∀ (p at_ : Nat) (s : State), p < 64 → s.live → (s.m.gate p).due = some at_ → at_ ≤ s.m.now.stitch + 1 →
    s.m.now.lost = false →
    ∃ t, exec (.tgTakeover p) s = .next t ∧ t.m.rd (Tg.TG_STATE p) = 1 ∧ t.m.rd (Tg.TG_TAKEOVER_STITCH p) = at_ ∧
      t.m.rd (Tg.TG_OPER_LIST p) = s.m.rd (Tg.TG_LIST p) ∧ t.m.rd (Tg.TG_LIST p) = s.m.rd (Tg.TG_OPER_LIST p) ∧
      t.m.rd (Tg.TG_OPER_LEN p) = s.m.rd (Tg.TG_LEN p) ∧ t.m.rd (Tg.TG_LEN p) = s.m.rd (Tg.TG_OPER_LEN p) ∧
      s.SameOutside t)

/-- A needle channel starts, stops, and moves its tail.
Descriptors: fetch, the verdict of the checks, the end with success and the end with an error. -/
def Obligations.needle_channels : Prop :=
  (∀ (c : Nat) (s : State), c < 128 → s.managed → s.m.domOn 62 = true → chStartCheck c s.m = none →
    ∃ t, exec (.chStart c) s = .next t ∧ t.m.rd (Chan.CH_STATE c) = 2 ∧
      Mach.SameBut [Chan.CH_STATE c] s.m t.m ∧ s.SameOutside t) ∧
  (∀ (c : Nat) (s : State), c < 128 → s.managed → s.m.domOn 62 = true → chStopCheck c s.m = none →
    ∃ t, exec (.chStop c) s = .next t ∧ t.m.rd (Chan.CH_STATE c) = (if s.m.rd (Chan.CH_STATE c) = 4 then 1 else 3) ∧
      (s.m.rd (Chan.CH_STATE c) ≠ 4 → (t.m.chan c).next = none) ∧
      ((s.m.chan c).next = none → Mach.SameBut [Chan.CH_STATE c] s.m t.m) ∧ s.SameOutside t) ∧
  (∀ (c : Nat) (s : State), c < 128 → s.live → s.m.rd (Chan.CH_STATE c) = 3 → (s.m.chan c).moving = none →
    (s.m.chan c).before = [] →
    ∃ t, exec (.chStopDone c) s = .next t ∧ t.m.rd (Chan.CH_STATE c) = 1 ∧ s.SameOutside t) ∧
  (∀ (c tail : Nat) (s : State), c < 128 → s.managed → s.m.domOn 62 = true →
    exec (.ringTailDoorbell c tail) s =
      .next (s.at (if tail < ringSize s.m c then (s.m.wr (Chan.RING_TAIL c) tail).ok else s.m.emit (.answer .range 0)))) ∧
  (∀ (c host : Nat) (s : State) (sl : Nat), c < 128 → s.live → mayFetch s.m c = true → chanSlice s.m c = some sl →
    ∃ t, exec (.descFetch c host) s = .next t ∧
      (t.m.chan c).next = some ⟨fetchIndex s.m c,
        (if s.m.rd (Chan.RING_LOC c) = 0 then ringRead s.m c (fetchIndex s.m c) else host % 2 ^ 512), sl,
        s.m.rd (Slc.SLC_GEN sl), none, s.m.rd (Chan.HOST_BASE c), s.m.rd (Chan.HOST_SIZE c), s.m.rd (Chan.OUT_MAX c)⟩ ∧
      Mach.SameBut [] s.m t.m ∧ s.SameOutside t) ∧
  (∀ (c : Nat) (s : State), c < 128 → s.live → mayFetch s.m c = true →
    ∃ t, exec (.fetchFail c) s = .next t ∧ t.m.rd (Chan.CH_STATE c) = 4 ∧
      Mach.SameBut [Chan.CH_STATE c] s.m t.m ∧ s.SameOutside t) ∧
  (∀ (c : Nat) (s : State) (d : NDesc), c < 128 → s.live → s.m.domOn 62 = true → s.m.rd (Chan.CH_STATE c) = 2 →
    (s.m.chan c).moving = none → (s.m.chan c).before = [] → (s.m.chan c).next = some d → d.verdict = none → dOp d.raw = 0 → badDesc d.raw = false →
    ringOutside s.m c d = false →
    ∃ t, exec (.descCheckVerdict c) s = .next t ∧ (t.m.chan c).moving = some { d with verdict := some none } ∧
      (t.m.chan c).next = none ∧ t.m.rd (Chan.RING_HEAD c) = (s.m.rd (Chan.RING_HEAD c) + 1) % ringSize s.m c ∧
      Mach.SameBut [Chan.RING_HEAD c] s.m t.m ∧ s.SameOutside t) ∧
  (∀ (c : Nat) (s : State) (d : NDesc), c < 128 → s.live → s.m.domOn 62 = true → s.m.rd (Chan.CH_STATE c) = 2 →
    (s.m.chan c).moving = none → (s.m.chan c).before = [] → (s.m.chan c).next = some d → d.verdict = none → badDesc d.raw = true →
    ∃ t, exec (.descCheckVerdict c) s = .next t ∧ t.m.rd (Chan.LAST_ERR c) = 1 ∧
      t.m.rd (Chan.LAST_ERR_INDEX c) = d.index ∧ (t.m.chan c).next = none ∧ s.SameOutside t) ∧
  (∀ (c result : Nat) (s : State) (d : NDesc), c < 128 → s.live → (s.m.chan c).moving = some d →
    (s.m.chan c).before = [] → (s.m.chan c).run.fail = none → (s.m.chan c).run.wpos = descBytes d.raw →
    (s.m.chan c).next = none → d.slice < 4096 → s.m.rd (Chan.DESC_DONE c) + 1 < 2 ^ widthOf (Chan.DESC_DONE c) →
    ∃ t, exec (.descComplete c result) s = .next t ∧ t.m.rd (Chan.DESC_DONE c) = s.m.rd (Chan.DESC_DONE c) + 1 ∧
      (t.m.chan c).moving = none ∧ s.SameOutside t) ∧
  (∀ (c written : Nat) (poison : Bool) (s : State) (d : NDesc), c < 128 → s.live → (s.m.chan c).moving = some d →
    (s.m.chan c).before = [] → (s.m.chan c).next = none →
    ∃ t, exec (.descFail c poison written) s = .next t ∧ t.m.rd (Chan.LAST_ERR c) = (if poison then 4 else 5) ∧
      t.m.rd (Chan.LAST_ERR_INDEX c) = d.index ∧ t.m.rd (Chan.LAST_ERR_OFFSET c) = written ∧
      (t.m.chan c).moving = none ∧ s.SameOutside t)

/-! ### Lanes -/

/-- The PLL of a lane block, and its reference.
Doze of a lane in raw test mode, and of a lane of a link in L0 that enters L1.2 or a lighter state; its exit. -/
def Obligations.reference_and_doze : Prop :=
  (∀ (b : Nat) (ppm : Int) (s : State), s.live → b < 36 → s.m.domOn (blockDomain b) = true → (s.m.blk b).fault = false →
    -5600 ≤ ppm → ppm ≤ 600 →
    exec (.refclkWindow b ppm) s = .next (s.at (s.m.wr (Blk.REFCLK_PPM b) (ofSigned 32 ppm)))) ∧
  (∀ (b : Nat) (ppm : Int) (s : State), s.live → b < 36 → s.m.domOn (blockDomain b) = true → (s.m.blk b).fault = true →
    -5600 ≤ ppm → ppm ≤ 600 → (s.m.blk b).good < 9 →
    ∃ t, exec (.refclkWindow b ppm) s = .next t ∧ (t.m.blk b).good = (s.m.blk b).good + 1 ∧ (t.m.blk b).fault = true ∧
      t.m.rd (Blk.REFCLK_PPM b) = ofSigned 32 ppm ∧ Mach.SameBut [Blk.REFCLK_PPM b] s.m t.m ∧ s.SameOutside t) ∧
  (∀ (b : Nat) (s : State), s.live → b < 36 → s.m.domOn (blockDomain b) = true → (s.m.blk b).fault = true →
    ∃ t, exec (.refclkEdgeLoss b) s = .next t ∧ (t.m.blk b).good = 0 ∧ (t.m.blk b).fault = true ∧
      Mach.SameBut [] s.m t.m ∧ s.SameOutside t) ∧
  (∀ (b : Nat) (s : State), s.live → b < 36 → s.m.domOn (blockDomain b) = true → (s.m.blk b).fault = false →
    blockPorts s.m b = [] → seamOfBlock s.m b = none →
    ∃ t, exec (.refclkEdgeLoss b) s = .next t ∧ (t.m.blk b).fault = true ∧ t.m.rd (Blk.PLL_STATE b) = 3 ∧ s.SameOutside t) ∧
  (∀ (b : Nat) (s : State), s.live → b < 36 → s.m.domOn (blockDomain b) = true → s.m.rd (Blk.PLL_STATE b) = 2 →
    blockPorts s.m b = [] → seamOfBlock s.m b = none →
    ∃ t, exec (.pllUnlock b) s = .next t ∧ t.m.rd (Blk.PLL_STATE b) = 1 ∧ s.SameOutside t) ∧
  (∀ (b : Nat) (s : State), s.live → b < 36 → s.m.domOn (blockDomain b) = true → s.m.rd (Blk.PLL_STATE b) = 1 →
    ∃ t, exec (.pllRelock b) s = .next t ∧ t.m.rd (Blk.PLL_STATE b) = 2 ∧
      (∀ p ∈ blockPorts s.m b, s.m.linkUp p = false → s.m.rd (PortStat.LTSSM p) ≠ 0 → t.m.rd (PortStat.LTSSM p) = 1) ∧
      (∀ i, i < 8 → rawLane s.m (8 * b + i) = true → s.m.rd (Lane.LANE_STATE (8 * b + i)) = 3 →
        t.m.rd (Lane.LANE_STATE (8 * b + i)) = 5) ∧
      s.SameOutside t) ∧
  (∀ (n level : Nat) (pm : Bool) (s : State), s.live → n < 288 → level < 3 → s.m.domOn (laneDomain n) = true →
    (s.m.lane n).wake = false → (s.m.lane n).exitAt ≠ some s.m.now.stitch → s.m.rd (Lane.LANE_STATE n) ≠ 1 →
    rawLane s.m n = true → s.m.on (Lane.DOZE n) = true →
    ∃ t, exec (.dozeEntry n level pm) s = .next t ∧ t.m.rd (Lane.LANE_STATE n) = 1 ∧
      Mach.SameBut [Lane.LANE_STATE n, Blk.PLL_STATE (laneBlock n), PdAll.PREWARNS, PdAll.STAGE_PENDING, PdAll.STAGE_STATE] s.m t.m ∧ s.SameOutside t) ∧
  (∀ (n level : Nat) (pm : Bool) (s : State), s.live → n < 256 → level < 3 → s.m.domOn (laneDomain n) = true →
    (s.m.lane n).wake = false → (s.m.lane n).exitAt ≠ some s.m.now.stitch → s.m.rd (Lane.LANE_STATE n) ≠ 1 →
    rawLane s.m n = false → s.m.on (Port.ENABLE (lanePort s.m n)) = true →
    s.m.rd (PortStat.LTSSM (lanePort s.m n)) = 4 → (pm = true ∨ level < s.m.rd (Port.ASPM (lanePort s.m n))) →
    ∃ t, exec (.dozeEntry n level pm) s = .next t ∧ t.m.rd (PortStat.LTSSM (lanePort s.m n)) = 6 ∧
      (level = 2 → t.m.rd (Lane.LANE_STATE n) = 1) ∧
      Mach.SameBut [Lane.LANE_STATE n, PortStat.LTSSM (lanePort s.m n), Blk.PLL_STATE (laneBlock n), PdAll.PREWARNS, PdAll.STAGE_PENDING, PdAll.STAGE_STATE] s.m t.m ∧
      s.SameOutside t) ∧
  (∀ (n : Nat) (s : State), s.live → n < 288 → s.m.domOn (laneDomain n) = true → s.m.rd (Lane.LANE_STATE n) = 1 →
    (rawLane s.m n = false ∨ s.m.on (Lane.DOZE n) = false) → (∀ w, (s.m.lane n).entered = some w → w.stitch ≠ s.m.now.stitch) →
    ∃ t, exec (.dozeExitRequest n) s = .next t ∧ t.m.rd (Lane.LANE_STATE n) = 2 ∧ (t.m.lane n).wake = true ∧
      (t.m.lane n).pllRan = (s.m.rd (Blk.PLL_STATE (laneBlock n)) == 2) ∧
      (s.m.rd (Blk.PLL_STATE (laneBlock n)) = 0 → pllRamp (laneBlock n) ∈ t.m.power.batch) ∧ s.SameOutside t) ∧
  (∀ (n us : Nat) (s : State), s.live → n < 288 → us < 65536 → s.m.domOn (laneDomain n) = true → rawLane s.m n = true →
    s.m.rd (Lane.LANE_STATE n) = 2 → s.m.rd (Blk.PLL_STATE (laneBlock n)) = 2 →
    s.m.rd (Blk.DOZE_EXITS (laneBlock n)) + 1 < 2 ^ widthOf (Blk.DOZE_EXITS (laneBlock n)) →
    ∃ t, exec (.dozeExitDone n us) s = .next t ∧ t.m.rd (Lane.LANE_STATE n) = 5 ∧ (t.m.lane n).wake = false ∧
      t.m.rd (Blk.DOZE_EXITS (laneBlock n)) = s.m.rd (Blk.DOZE_EXITS (laneBlock n)) + 1 ∧
      t.m.rd (Blk.DOZE_EXIT_MAX_US (laneBlock n)) = max us (s.m.rd (Blk.DOZE_EXIT_MAX_US (laneBlock n))) ∧
      Mach.SameBut [Lane.LANE_STATE n, Blk.DOZE_EXITS (laneBlock n), Blk.DOZE_EXIT_MAX_US (laneBlock n)] s.m t.m ∧
      s.SameOutside t)

/-- Raw test mode of a lane and what works in it: the checker's lock, the counters, the injection, the slip and the alignment. -/
def Obligations.lane_test_mode : Prop :=
  (∀ (n : Nat) (s : State), s.managed → n < 288 → s.m.domOn (laneDomain n) = true → rawLane s.m n = false →
    laneModeCheck n true s.m = none →
    ∃ t, exec (.laneModeSet n true) s = .next t ∧ t.m.rd (Lane.LANE_MODE n) = 1 ∧ t.m.rd (Lane.LANE_STATE n) = 5 ∧
      Mach.SameBut [Lane.LANE_MODE n, Lane.LANE_STATE n, Blk.PLL_STATE (laneBlock n), PdAll.PREWARNS, PdAll.STAGE_PENDING, PdAll.STAGE_STATE] s.m t.m ∧ s.SameOutside t) ∧
  (∀ (n : Nat) (s : State), s.managed → n < 288 → s.m.domOn (laneDomain n) = true → rawLane s.m n = true →
    ∃ t, exec (.laneModeSet n false) s = .next t ∧ t.m.rd (Lane.LANE_MODE n) = 0 ∧ t.m.rd (Lane.LOOP n) = 0 ∧
      t.m.rd (Lane.PRBS_GEN n) = 0 ∧ t.m.rd (Lane.PRBS_CHK n) = 0 ∧ t.m.rd (Lane.CHK_LOCK n) = 0 ∧
      t.m.rd (Lane.DOZE n) = 0 ∧ t.m.rd (Lane.LANE_STATE n) = 0 ∧ s.SameOutside t) ∧
  (∀ (n : Nat) (s : State), s.live → n < 288 → rawLane s.m n = true → s.m.rd (Lane.CHK_LOCK n) = 1 →
    exec (.chkLock n) s = .next (s.at ((s.m.wr (Lane.CHK_LOCK n) 2).updLane n fun x => { x with run := 0, errs := 0 }))) ∧
  (∀ (n : Nat) (s : State), s.live → n < 288 → rawLane s.m n = true → s.m.rd (Lane.CHK_LOCK n) = 2 →
    s.m.rd (Lane.CHK_LOST n) + 1 < 2 ^ widthOf (Lane.CHK_LOST n) →
    ∃ t, exec (.chkLost n) s = .next t ∧ t.m.rd (Lane.CHK_LOCK n) = 1 ∧
      t.m.rd (Lane.CHK_LOST n) = s.m.rd (Lane.CHK_LOST n) + 1 ∧
      Mach.SameBut [Lane.CHK_LOCK n, Lane.CHK_LOST n] s.m t.m ∧ s.SameOutside t) ∧
  (∀ (n : Nat) (s : State), s.live → n < 288 → rawLane s.m n = true → s.m.rd (Lane.PRBS_BITS n) = prbsMax →
    (s.m.lane n).stopped = false →
    ∃ t, exec (.prbsCountersStop n) s = .next t ∧ t.m.lane n = { s.m.lane n with stopped := true } ∧
      Mach.SameBut [] s.m t.m ∧ s.SameOutside t) ∧
  (∀ (n : Nat) (s : State), s.managed → n < 288 → s.m.domOn (laneDomain n) = true →
    (∃ t, exec (.prbsClear n) s = .next t ∧ t.m.rd (Lane.PRBS_ERR n) = 0 ∧ t.m.rd (Lane.PRBS_BITS n) = 0 ∧
      (t.m.lane n).stopped = false ∧ Mach.SameBut [Lane.PRBS_ERR n, Lane.PRBS_BITS n] s.m t.m ∧ s.SameOutside t) ∧
    (∃ t, exec (.prbsSnap n) s = .next t ∧ t.m.rd (Lane.SNAP_ERR n) = s.m.rd (Lane.PRBS_ERR n) ∧
      t.m.rd (Lane.SNAP_BITS n) = s.m.rd (Lane.PRBS_BITS n) ∧ t.m.rd (Lane.SNAP_STITCH n) = s.m.now.stitch - 1 ∧
      Mach.SameBut [Lane.SNAP_ERR n, Lane.SNAP_BITS n, Lane.SNAP_STITCH n] s.m t.m ∧ s.SameOutside t) ∧
    ∃ t, exec (.prbsInject n) s = .next t ∧ (t.m.lane n).inverted = (s.m.lane n).inverted + 1 ∧
      Mach.SameBut [] s.m t.m ∧ s.SameOutside t) ∧
  (∀ (n : Nat) (s : State), s.managed → n < 288 → s.m.domOn (laneDomain n) = true → slipCheck n s.m = none →
    ∃ t, exec (.slip n) s = .next t ∧ t.m.lane n = { s.m.lane n with slipping := true } ∧
      Mach.SameBut [] s.m t.m ∧ s.SameOutside t) ∧
  (∀ (n : Nat) (s : State), s.live → n < 288 → (s.m.lane n).slipping = true →
    ∃ t, exec (.slipDone n) s = .next t ∧ (t.m.lane n).slipping = false ∧ t.m.rd (Lane.ALIGN_STATE n) = 0 ∧
      t.m.rd (Lane.SLIP_POS n) = (s.m.rd (Lane.SLIP_POS n) + 1) % (if pam4 (slipRate s.m n) then 32 else 64) ∧
      s.SameOutside t) ∧
  (∀ (n w : Nat) (words : List Nat) (s : State), s.live → n < 288 → rawLane s.m n = true → s.m.rd (Lane.ALIGN_STATE n) = 0 →
    w ≠ s.m.rd (Lane.ALIGN_PATTERN n) →
    ∃ t, exec (.alignDetect n w words) s = .next t ∧ t.m.rd (Lane.ALIGN_STATE n) = 2 ∧ t.m.lane n = s.m.lane n ∧
      Mach.SameBut [Lane.ALIGN_STATE n] s.m t.m ∧ s.SameOutside t) ∧
  (∀ (n w : Nat) (words : List Nat) (s : State), s.live → n < 288 → rawLane s.m n = true → s.m.rd (Lane.ALIGN_STATE n) = 0 →
    (∀ x ∈ w :: words, x = s.m.rd (Lane.ALIGN_PATTERN n)) →
    ∃ t, exec (.alignDetect n w words) s = .next t ∧
      t.m.rd (Lane.ALIGN_STATE n) = (if 16 ≤ (s.m.lane n).matches_ + (words.length + 1) then 1 else 0) ∧
      (t.m.lane n).matches_ = min 16 ((s.m.lane n).matches_ + (words.length + 1)) ∧
      Mach.SameBut [Lane.ALIGN_STATE n] s.m t.m ∧ s.SameOutside t)

/-! ### The Epyaro link -/

/-- Frames that arrive: a good payload frame in sequence advances EXPECT, a bad frame asks for a replay, a good idle frame ends a run
of bad ones, and in training a good INIT frame is counted that any other frame breaks.
What a seam sends: an INIT frame while it trains, an IDLE frame with nothing to send, an acknowledgement when one is
wanted and no payload frame can carry it; the replay timer starts a replay from OLDEST when REPLAY_NS have passed. -/
def Obligations.seam_frames : Prop :=
  (∀ (n bits : Nat) (outs : List Nat) (f : Frame) (s : State), s.live → n < 2 → wfFrame bits = true → wfOuts outs = true →
    seamsOn s.m = true → linkOf s.m n = 3 → readFrame bits = (some f, []) → f.nak = false → f.lcmd = 0 →
    (s.m.seam n).switching = none → (s.m.seam n).cmd = none → (f.ack + 4096 - seamOldest s.m n) % 4096 = 4095 →
    (∀ v, v < 8 → (vcGet f.credit v + 65536 - vcGet (s.m.seam n).returned v) % 65536 = 0) →
    s.m.rd (SeamCnt.FRAMES_RX n) + 1 < 2 ^ widthOf (SeamCnt.FRAMES_RX n) →
    (f.ty = 1 → f.seq = seamExpect s.m n → f.seq < 4096 →
      ∃ t, exec (.payloadFrame n ⟨bits, outs⟩) s = .next t ∧ seamExpect t.m n = (seamExpect s.m n + 1) % 4096 ∧
        s.SameOutside t) ∧
    (f.ty = 2 →
      ∃ t, exec (.controlFrame n bits) s = .next t ∧ t.m.rd (SeamCnt.FRAMES_RX n) = s.m.rd (SeamCnt.FRAMES_RX n) + 1 ∧
        seamExpect t.m n = seamExpect s.m n ∧ (t.m.seam n).badRun = 0 ∧
        Mach.SameBut [SeamCnt.FRAMES_RX n, SeamStat.OUTSTANDING n, SeamStat.CREDITS n] s.m t.m ∧ s.SameOutside t)) ∧
  (∀ (n bits : Nat) (s : State), s.live → n < 2 → wfFrame bits = true → seamsOn s.m = true → linkOf s.m n = 3 →
    readFrame bits = (none, []) → (s.m.seam n).switching = none → (s.m.seam n).badRun < 15 →
    s.m.rd (SeamCnt.BAD_FRAMES n) + 1 < 2 ^ widthOf (SeamCnt.BAD_FRAMES n) →
    ∃ t, exec (.idleFrame n bits) s = .next t ∧ t.m.rd (SeamCnt.BAD_FRAMES n) = s.m.rd (SeamCnt.BAD_FRAMES n) + 1 ∧
      (t.m.seam n).badRun = (s.m.seam n).badRun + 1 ∧ (t.m.seam n).nakPending = true ∧
      Mach.SameBut [SeamCnt.BAD_FRAMES n] s.m t.m ∧ s.SameOutside t) ∧
  (∀ (n bits : Nat) (f : Frame) (s : State), s.live → n < 2 → wfFrame bits = true → seamsOn s.m = true → linkOf s.m n = 3 →
    readFrame bits = (some f, []) → f.ty = 0 → (s.m.seam n).switching = none →
    ∃ t, exec (.idleFrame n bits) s = .next t ∧ t.m.seam n = { s.m.seam n with badRun := 0 } ∧
      Mach.SameBut [] s.m t.m ∧ s.SameOutside t) ∧
  (∀ (n bits : Nat) (f : Frame) (s : State), s.live → n < 2 → wfFrame bits = true → seamsOn s.m = true →
    (linkOf s.m n = 1 ∨ linkOf s.m n = 4) → readFrame bits = (some f, []) → f.ty = 3 → initMismatch s.m n f.init = false →
    (s.m.seam n).resume = false → (s.m.seam n).final = true →
    s.m.rd (SeamCnt.FRAMES_RX n) + 1 < 2 ^ widthOf (SeamCnt.FRAMES_RX n) →
    ∃ t, exec (.initFrame n bits) s = .next t ∧ t.m.rd (SeamStat.PEER_SERIAL n) = f.init.serial ∧
      (t.m.seam n).peer = some f.init ∧ (t.m.seam n).inits = (s.m.seam n).inits + 1 ∧
      t.m.rd (SeamCnt.FRAMES_RX n) = s.m.rd (SeamCnt.FRAMES_RX n) + 1 ∧
      Mach.SameBut [SeamStat.PEER_SERIAL n, SeamCnt.FRAMES_RX n] s.m t.m ∧ s.SameOutside t) ∧
  (∀ (n bits : Nat) (s : State), s.live → n < 2 → wfFrame bits = true → seamsOn s.m = true →
    (linkOf s.m n = 1 ∨ linkOf s.m n = 4) → (readFrame bits).2 = [] → (∀ f, (readFrame bits).1 = some f → f.ty ≠ 3) →
    ∃ t, exec (.initFrame n bits) s = .next t ∧ (t.m.seam n).inits = 0 ∧ (t.m.seam n).peer = (s.m.seam n).peer ∧
      Mach.SameBut [SeamCnt.BAD_FRAMES n] s.m t.m ∧ s.SameOutside t) ∧
  (∀ (n : Nat) (s : State), s.live → n < 2 → seamsOn s.m = true → (linkOf s.m n = 1 ∨ linkOf s.m n = 4) →
    ((s.m.seam n).peer = none ∨ (s.m.seam n).final = true) →
    s.m.rd (SeamCnt.FRAMES_TX n) + 1 < 2 ^ widthOf (SeamCnt.FRAMES_TX n) →
    ∃ t, exec (.seamFrameSlot n) s = .next t ∧
      s.SendsOnly t (sealFrame s.m n (frameHeader 3 0 0 ((seamExpect s.m n + 4095) % 4096) false 0 ⟨0, 0, 0⟩)
        (framePayload 0 0 (s.m.seam n).freed [] + initBits s.m n * 2 ^ 144)) ∧
      (t.m.seam n).initSent = true ∧ t.m.rd (SeamCnt.FRAMES_TX n) = s.m.rd (SeamCnt.FRAMES_TX n) + 1 ∧
      Mach.SameBut [SeamCnt.FRAMES_TX n] s.m t.m ∧ s.SameOutside t) ∧
  (∀ (n : Nat) (s : State), s.live → n < 2 → seamsOn s.m = true → linkOf s.m n = 3 → (s.m.seam n).cursor = none →
    arbitrate s.m (7 + n) ((openVcs s.m n).map fun v => (v, s.m.now.stitch)) = none → controlWanted s.m n = false →
    exec (.seamFrameSlot n) s = .next (s.at (s.m.emit (sealFrame s.m n 0 0)))) ∧
  (∀ (n : Nat) (s : State), s.live → n < 2 → seamsOn s.m = true → linkOf s.m n = 3 → ackWanted s.m n = true →
    (s.m.seam n).cursor = none → openVcs s.m n = [] → (s.m.seam n).switching = none → (s.m.seam n).nakDue = false →
    s.m.rd (SeamCnt.FRAMES_TX n) + 1 < 2 ^ widthOf (SeamCnt.FRAMES_TX n) →
    ∃ t o, exec (.ackTimer n) s = .next t ∧ t.m.out = o :: s.m.out ∧ (t.m.seam n).ackDue = false ∧
      (t.m.seam n).framedAt = s.m.now.stitch ∧
      t.m.rd (SeamCnt.FRAMES_TX n) = s.m.rd (SeamCnt.FRAMES_TX n) + 1 ∧
      Mach.SameBut [SeamCnt.FRAMES_TX n] s.m t.m ∧ s.SameOutside t) ∧
  (∀ (n : Nat) (s : State), s.live → n < 2 → linkOf s.m n = 3 → outstanding s.m n ≠ 0 → (s.m.seam n).replays < 4 →
    (s.m.seam n).timerAt + s.m.rd (SeamCfg.REPLAY_NS n) ≤ s.m.now.ftime →
    s.m.rd (SeamCnt.REPLAY_TIMER n) + 1 < 2 ^ widthOf (SeamCnt.REPLAY_TIMER n) →
    ∃ t, exec (.replayTimer n) s = .next t ∧ (t.m.seam n).cursor = some (seamOldest s.m n) ∧
      (t.m.seam n).replays = (s.m.seam n).replays + 1 ∧ (t.m.seam n).timerAt = s.m.now.ftime ∧
      t.m.rd (SeamCnt.REPLAY_TIMER n) = s.m.rd (SeamCnt.REPLAY_TIMER n) + 1 ∧
      Mach.SameBut [SeamCnt.REPLAY_TIMER n] s.m t.m ∧ s.SameOutside t) ∧
  (∀ (n : Nat) (s : State), s.live → n < 2 → s.m.now.ftime < (s.m.seam n).timerAt + s.m.rd (SeamCfg.REPLAY_NS n) →
    exec (.replayTimer n) s = .next s)

/-- Lane commands: a proposal and its answers, the switch, the wake and the doze of blocks, and the timer.
The commands of LINK_CMD on an active seam without a command in progress. -/
def Obligations.lane_and_link_commands : Prop :=
  (∀ (n mask tag : Nat) (al : Bool) (s : State), s.live → n < 2 → mask < 16 → linkOf s.m n = 3 →
    (s.m.seam n).switching = none → (s.m.seam n).cmd = none →
    ∃ t, exec (.lcmdPropose n mask tag al) s = .next t ∧
      (t.m.seam n).answer = some ⟨if validMask s.m n mask && Nat.land mask (s.m.rd (SeamCfg.LANE_MASK n)) == mask &&
        masksAligned s.m n mask && al then 2 else 3, mask, tag⟩ ∧
      Mach.SameBut [] s.m t.m ∧ s.SameOutside t) ∧
  (∀ (n mask tag : Nat) (s : State), s.live → n < 2 → mask < 16 → linkOf s.m n = 3 →
    (s.m.seam n).cmd = some ⟨1, mask, tag⟩ → s.m.waited (waitLcmd n) 256 = true →
    (∃ t, exec (.lcmdAccept n mask tag) s = .next t ∧ (t.m.seam n).cmd = none ∧
      (t.m.seam n).switching = some ⟨mask, tag, some 7, false, none, false⟩ ∧ t.m.rd (SeamStat.LCMD_STATE n) = 2 ∧
      Mach.SameBut [SeamStat.LCMD_STATE n] s.m t.m ∧ s.SameOutside t) ∧
    (∃ t, exec (.lcmdRefuse n mask tag) s = .next t ∧ (t.m.seam n).cmd = none ∧ t.m.rd (SeamStat.LCMD_STATE n) = 3 ∧
      Mach.SameBut [SeamStat.LCMD_STATE n] s.m t.m ∧ s.SameOutside t) ∧
    ∃ t, exec (.lcmdTimeout n) s = .next t ∧ (t.m.seam n).cmd = none ∧ t.m.rd (SeamStat.LCMD_STATE n) = 3 ∧
      Mach.SameBut [SeamStat.LCMD_STATE n] s.m t.m ∧ s.SameOutside t) ∧
  (∀ (n mask tag left : Nat) (s : State), s.live → n < 2 → mask < 16 → linkOf s.m n = 3 → (s.m.seam n).switching = none →
    left ≠ 0 →
    ∃ t, exec (.lcmdSwitch n mask ⟨tag, left⟩) s = .next t ∧
      (t.m.seam n).switching = some ⟨mask, tag, some 7, false, some left, false⟩ ∧ t.m.rd (SeamStat.LCMD_STATE n) = 2 ∧
      Mach.SameBut [SeamStat.LCMD_STATE n] s.m t.m ∧ s.SameOutside t) ∧
  (∀ (n mask k : Nat) (s : State), s.live → n < 2 → mask < 16 → linkOf s.m n = 3 →
    k = Nat.land (mask - Nat.land mask (s.m.rd (SeamStat.MASK_NOW n))) (2 ^ seamBlocks s.m n - 1) →
    (∃ t, exec (.lcmdWake n mask) s = .next t ∧ (t.m.seam n).standby = Nat.lor (s.m.seam n).standby k ∧ s.SameOutside t) ∧
    ∃ t, exec (.lcmdDoze n mask) s = .next t ∧
      (t.m.seam n).standby = (s.m.seam n).standby - Nat.land (s.m.seam n).standby k ∧ s.SameOutside t) ∧
  (∀ (n : Nat) (s : State), s.managed → n < 2 → s.m.domOn 63 = true → linkOf s.m n = 3 →
    ∃ t, exec (.linkCmdRetrain n) s = .next t ∧ linkOf t.m n = 4 ∧ s.SameOutside t) ∧
  (∀ (n : Nat) (s : State), s.managed → n < 2 → s.m.domOn 63 = true → linkOf s.m n = 3 → commandPending s.m n = false →
    mayPropose s.m n (s.m.rd (SeamCfg.LANE_SET n)) = true →
    ∃ t, exec (.linkCmdPropose n) s = .next t ∧
      (t.m.seam n).cmd = some ⟨1, s.m.rd (SeamCfg.LANE_SET n), ((s.m.seam n).tag + 1) % 16⟩ ∧
      t.m.rd (SeamStat.LCMD_STATE n) = 1 ∧ Mach.SameBut [SeamStat.LCMD_STATE n] s.m t.m ∧ s.SameOutside t) ∧
  (∀ (n : Nat) (s : State), s.managed → n < 2 → s.m.domOn 63 = true → linkOf s.m n = 3 → commandPending s.m n = false →
    (∃ t, exec (.linkCmdWake n) s = .next t ∧
      (t.m.seam n).cmd = some ⟨5, s.m.rd (SeamCfg.LANE_SET n) % 16, 0⟩ ∧ s.SameOutside t) ∧
    ∃ t, exec (.linkCmdDoze n) s = .next t ∧
      (t.m.seam n).cmd = some ⟨6, s.m.rd (SeamCfg.LANE_SET n) % 16, 0⟩ ∧ s.SameOutside t) ∧
  (∀ (n : Nat) (c : Instr) (s : State), s.managed → n < 2 → s.m.domOn 63 = true → linkOf s.m n ≠ 3 →
    (c = .linkCmdPropose n ∨ c = .linkCmdWake n ∨ c = .linkCmdDoze n) →
    exec c s = .next (s.at (s.m.emit (.answer .state 0))))

/-- The error window of the lanes, and a lane without a signal.
The training of a seam from its enable to the active state, its retrain, its failures and its disable. -/
def Obligations.seam_training : Prop :=
  (∀ (n : Nat) (s : State), s.live → n < 2 → seamsOn s.m = true → s.m.on (SeamCfg.AUTO_DEGRADE n) = false →
    s.m.waited (waitLaneErr n) (msStitches 1) = true →
    ∃ t, exec (.laneErrWindow n) s = .next t ∧ t.m.rd (SeamStat.LANE_CORR n) = packFields 32 (s.m.seam n).corr ∧
      t.m.seam n = { s.m.seam n with corr := SeamSt.reset.corr } ∧ Mach.SameBut [SeamStat.LANE_CORR n] s.m t.m ∧
      s.SameOutside t) ∧
  (∀ (n lane : Nat) (s : State), s.live → n < 2 → lane < 32 → linkOf s.m n ≠ 3 → linkOf s.m n ≠ 4 →
    s.m.domOn (blockDomain (seamBlock n (lane / 8))) = true →
    exec (.laneSignalLoss n lane) s = .next (s.at (s.m.wr (Lane.RX_DETECT (256 + 16 * n + lane)) 0))) ∧
  (∀ (n lane : Nat) (s : State), s.live → n < 2 → lane < 32 → linkOf s.m n = 3 →
    s.m.bit (SeamStat.MASK_NOW n) (lane / 8) = true →
    ∃ t, exec (.laneSignalLoss n lane) s = .next t ∧ linkOf t.m n = 4 ∧ t.m.bit (SeamStat.MARGINAL n) (lane / 8) = true ∧
      s.SameOutside t) ∧
  (∀ (n : Nat) (s : State), s.managed → n < 2 → s.m.domOn 63 = true → s.m.on (SeamCfg.SEAM_ENABLE n) = false →
    seamEnableCheck n s.m = none → s.m.rd Col.FATAL_STATE = 0 →
    ∃ t, exec (.seamEnable n) s = .next t ∧ t.m.rd (SeamCfg.SEAM_ENABLE n) = 1 ∧
      linkOf t.m n = (if s.m.on (SeamCfg.MANUAL n) then 2 else 1) ∧ t.m.rd (SeamStat.MASK_NOW n) = 0 ∧ s.SameOutside t) ∧
  (∀ (n : Nat) (s : State), s.managed → n < 2 → s.m.domOn 63 = true → s.m.on (SeamCfg.SEAM_ENABLE n) = true →
    ∃ t, exec (.seamDisable n) s = .next t ∧ linkOf t.m n = 0 ∧
      ((linkOf s.m n = 0 ∨ linkOf s.m n = 5) → t.m.rd (SeamCfg.SEAM_ENABLE n) = 0) ∧ s.SameOutside t) ∧
  (∀ (n : Nat) (s : State), s.managed → n < 2 → s.m.domOn 63 = true → linkOf s.m n = 2 →
    exec (.manualGo n) s = .next (s.at (s.m.wr (SeamStat.LINK_STATE n) 1).ok)) ∧
  (∀ (n mask : Nat) (f : InitRecord) (s : State), s.live → n < 2 → seamsOn s.m = true →
    (linkOf s.m n = 1 ∨ linkOf s.m n = 4) → s.m.rd Col.FATAL_STATE = 0 → (s.m.seam n).peer = some f →
    64 ≤ (s.m.seam n).inits →
    mask = widestMask s.m n (Nat.land (Nat.land (usableMask s.m n) (trainMask s.m n)) f.mask) → mask ≠ 0 →
    (∀ b ∈ bitsSet 4 mask, blockReady s.m n b = true) →
    ∃ t, exec (.seamActive n) s = .next t ∧ linkOf t.m n = 3 ∧ t.m.rd (SeamStat.MASK_NOW n) = mask ∧
      t.m.rd (SeamStat.WIDTH_NOW n) = 8 * popCount 4 mask ∧ (t.m.seam n).resume = true ∧ (t.m.seam n).fails = 0 ∧
      s.SameOutside t) ∧
  (∀ (n : Nat) (s : State), s.live → n < 2 → (linkOf s.m n = 1 ∨ linkOf s.m n = 2) → (s.m.seam n).fails < 2 →
    s.m.waited (waitTraining n) (msStitches 10) = true →
    ∃ t, exec (.trainingTimeout n) s = .next t ∧ linkOf t.m n = (if s.m.on (SeamCfg.MANUAL n) then 2 else 1) ∧
      (t.m.seam n).fails = (s.m.seam n).fails + 1 ∧ s.SameOutside t) ∧
  (∀ (n : Nat) (s : State), s.live → n < 2 → (linkOf s.m n = 1 ∨ linkOf s.m n = 2) → 2 ≤ (s.m.seam n).fails →
    s.m.waited (waitTraining n) (msStitches 10) = true →
    ∃ t, exec (.trainingTimeout n) s = .next t ∧ linkOf t.m n = 5 ∧ s.SameOutside t) ∧
  (∀ (n : Nat) (s : State), s.live → n < 2 → linkOf s.m n = 5 → s.m.on (SeamCfg.SEAM_ENABLE n) = true →
    seamsOn s.m = true → s.m.rd Col.FATAL_STATE = 0 → s.m.waited (waitDown n) (msStitches 100) = true →
    ∃ t, exec (.seamDownRetry n) s = .next t ∧ linkOf t.m n = (if s.m.on (SeamCfg.MANUAL n) then 2 else 1) ∧
      s.SameOutside t) ∧
  (∀ (n : Nat) (s : State), s.live → n < 2 → linkOf s.m n = 3 →
    s.m.rd (SeamCnt.RETRAINS n) + 1 < 2 ^ widthOf (SeamCnt.RETRAINS n) →
    ∃ t, exec (.seamRetrain n) s = .next t ∧ linkOf t.m n = 4 ∧ (t.m.seam n).peer = none ∧ (t.m.seam n).cmd = none ∧
      t.m.rd (SeamCnt.RETRAINS n) = s.m.rd (SeamCnt.RETRAINS n) + 1 ∧
      Mach.SameBut [SeamStat.LINK_STATE n, SeamStat.LCMD_STATE n, SeamCnt.RETRAINS n] s.m t.m ∧ s.SameOutside t) ∧
  (∀ (n : Nat) (s : State), s.live → n < 2 → linkOf s.m n = 4 →
    s.m.waited (waitRetrain n) (usStitches 50) = true →
    ∃ t, exec (.retrainTimeout n) s = .next t ∧ linkOf t.m n = (if s.m.on (SeamCfg.MANUAL n) then 2 else 1) ∧
      t.m.rd (SeamStat.MASK_NOW n) = 0 ∧ s.SameOutside t)

/-! ### The fabric core and the on-chip network -/

/-- A packet is presented: its first swatches queue it at its input, later ones add to it; one that stalls past the limit is ended. -/
def Obligations.packets : Prop :=
  (∀ (k : Present) (s : State), s.live → wfPresent k = true → Tab.get none s.m.core.discard k.input ≠ some k.id →
    s.m.pkt k.id = none → outputOff s.m k.output = false → k.input < 64 → s.m.domOn (portDomain k.input) = true →
    (∀ i, i < 8 → s.m.on (Mir.MIR_ENABLE i) = false) →
    ∃ t x, exec (.packetPresent k) s = .next t ∧ t.m.core.pkts = s.m.core.pkts ++ [x] ∧ x.id = k.id ∧ x.input = k.input ∧
      x.output = k.output ∧ x.cls = k.cls ∧ x.slice = k.slice ∧ x.len = k.len ∧ x.held = min k.len (max 1 k.count) ∧
      x.path = 0 ∧ x.since = s.m.now.stitch ∧ x.stall = 1 ∧ Mach.SameBut [] s.m t.m ∧ s.SameOutside t) ∧
  (∀ (k : Present) (x : Pkt) (s : State), s.live → wfPresent k = true → Tab.get none s.m.core.discard k.input ≠ some k.id →
    s.m.pkt k.id = some x → k.input ≠ 65 → k.input ≠ 66 →
    ∃ t, exec (.packetPresent k) s = .next t ∧
      t.m.core.pkts = s.m.core.pkts.map (fun y => if y.id = k.id then
        { y with held := min y.len (y.held + max 1 k.count), stall := 0, failed := Nat.lor y.failed k.failed } else y) ∧
      Mach.SameBut [] s.m t.m ∧ s.SameOutside t) ∧
  (∀ (k : Present) (s : State), s.live → wfPresent k = true → (k.input = 65 ∨ k.input = 66) →
    (s.m.seam (k.input - 65)).arrived = [] → exec (.packetPresent k) s = .next s) ∧
  (∀ (id : Nat) (x : Pkt) (s : State), s.live → s.m.pkt id = some x → x.held < x.len → x.ending = none →
    x.input < 64 → s.m.rd Fab.STALL_LIMIT ≤ x.stall → x.path = 1 →
    ∃ t, exec (.packetStall id) s = .next t ∧ t.m.out = .abort x.output id x.io :: s.m.out ∧
      t.m.pkt id = some { x with ending := some (s.m.now.stitch + 1) } ∧
      Tab.get none t.m.core.discard x.input = some id ∧ s.SameOutside t) ∧
  (∀ (id : Nat) (x : Pkt) (s : State), s.live → s.m.pkt id = some x → x.held < x.len → x.ending = none →
    x.input < 64 → s.m.rd Fab.STALL_LIMIT ≤ x.stall → x.path = 2 →
    ∃ t, exec (.packetStall id) s = .next t ∧ t.m.out = s.m.out ∧
      t.m.pkt id = some { x with ending := some s.m.now.stitch } ∧
      Tab.get none t.m.core.discard x.input = some id ∧ s.SameOutside t)

/-- The share of the home line cache on each die: a change that grows it runs as CARVE_STATUS 1, one that shrinks it with nothing
held as 2, and it ends when it fits; a die that fails.
The figures of the on-chip network and of the queues: an age alarm, the snapshot, the cleared maximum, and the end of a sample
period. -/
def Obligations.shares_and_figures : Prop :=
  (∀ (steps : Nat) (s : State), s.managed → steps < 2 ^ 64 → s.m.domOn 54 = true → hlcStepsCheck steps s.m = none →
    (List.range 8).any (fun d => byteAt steps d > byteAt (s.m.rd Fab.HLC_STEPS) d) = true →
    ∃ t, exec (.hlcStepsWrite steps) s = .next t ∧ t.m.rd Fab.HLC_STEPS = steps ∧ t.m.rd Fab.CARVE_STATUS = 1 ∧
      t.m.core.carveAt = s.m.now.stitch ∧ s.SameOutside t) ∧
  (∀ (steps : Nat) (s : State), s.managed → steps < 2 ^ 64 → s.m.domOn 54 = true → hlcStepsCheck steps s.m = none →
    steps ≠ s.m.rd Fab.HLC_STEPS → s.m.coh.hlcTag = [] →
    (List.range 8).any (fun d => byteAt steps d > byteAt (s.m.rd Fab.HLC_STEPS) d) = false →
    ∃ t, exec (.hlcStepsWrite steps) s = .next t ∧ t.m.rd Fab.HLC_STEPS = steps ∧ t.m.rd Fab.CARVE_STATUS = 2 ∧
      s.SameOutside t) ∧
  (∀ s : State, s.live → s.m.now.stitch ≠ s.m.core.carveAt → s.m.rd Fab.CARVE_STATUS = 2 → releasedWays s.m = [] →
    ∃ t, exec .carveDone s = .next t ∧ t.m.rd Fab.CARVE_STATUS = 0 ∧ t.m.core.carved = s.m.rd Fab.HLC_STEPS ∧
      s.SameOutside t) ∧
  (∀ (d : Nat) (s : State), s.live → d < 8 → s.m.domOn (64 + d) = true → s.m.rd (Die.DIE_STATE d) ≠ 2 → s.m.coh.hlcTag = [] →
    ∃ t, exec (.boltDieIfFail d) s = .next t ∧ t.m.rd (Die.DIE_STATE d) = 2 ∧
      t.m.core.pkts = s.m.core.pkts.map (failOnDie d) ∧ s.SameOutside t) ∧
  (∀ s : State, s.managed → s.m.domOn 54 = true →
    exec .freeMinClear s = .next (s.at (s.m.wr Fab.FREE_MIN (s.m.rd Fab.FREE_SLOTS)).ok)) ∧
  (∀ (id : Nat) (x : NocMsg) (s : State), s.live →
    s.m.noc.msgs.find? (fun y => (y.id == id && alarmDue s.m y) && y.place != .source) = some x →
    s.m.rd Noc.STUCK + 1 < 2 ^ widthOf Noc.STUCK →
    ∃ t, exec (.nocAgeAlarm id) s = .next t ∧ t.m.rd Noc.STUCK = s.m.rd Noc.STUCK + 1 ∧
      t.m.noc.msgs = s.m.noc.msgs.map (fun y => if y.id = id then { y with alarmed := true } else y) ∧
      Mach.SameBut [Noc.STUCK] s.m t.m ∧ s.SameOutside t) ∧
  (∀ (id : Nat) (s : State), s.live → (∀ y ∈ s.m.noc.msgs, y.id = id → alarmDue s.m y = false) →
    (∀ y ∈ s.m.noc.arrived, y.msg.id = id → alarmDue s.m y.msg = false) → exec (.nocAgeAlarm id) s = .next s) ∧
  (∀ s : State, s.managed →
    ∃ t, exec .statSnap s = .next t ∧ t.m.rd Noc.SNAP_STITCH = s.m.now.stitch - 1 ∧
      (∀ e, e < 32 → t.m.rd (NocStat.SNAP_MSGS e) = s.m.rd (NocStat.MSGS e) ∧
        t.m.rd (NocStat.SNAP_FLITS e) = s.m.rd (NocStat.FLITS e) ∧
        t.m.rd (NocStat.SNAP_LAT_SUM e) = s.m.rd (NocStat.LAT_SUM e)) ∧ s.SameOutside t) ∧
  (∀ (e : Nat) (s : State), s.managed → e < 32 →
    exec (.latMaxClear e) s = .next (s.at (s.m.wr (NocStat.LAT_MAX e) 0).ok)) ∧
  (∀ s : State, s.live → sampleDue s.m (s.m.now.stitch - 1) = true →
    ∃ t, exec .samplePeriodEnd s = .next t ∧ t.m.core.figures = [] ∧
      (∀ p, p < 64 → s.m.domOn (54 + portQuadrant p) = true → t.m.rd (QStat.SAMPLE_STITCH p) = s.m.now.stitch - 1) ∧
      s.SameOutside t) ∧
  (∀ s : State, s.live → sampleDue s.m (s.m.now.stitch - 1) = false → exec .samplePeriodEnd s = .next s)

/-! ### Twin operation -/

/-- Twin operation is enabled and disabled, and pairs by HELLO, the flush, and the time exchange.
The mirror at the receiving twin, and the handback: its start, the record of each slice, and its end. -/
def Obligations.twin_pairing_and_mirror : Prop :=
  (∀ s : State, s.managed → twinEnableCheck s.m = none →
    ∃ t, exec .twinEnable s = .next t ∧ t.m.rd Twin.TWIN_ENABLE = 1 ∧ twinState t.m = 1 ∧
      Mach.SameBut [Twin.TWIN_ENABLE, Twin.TWIN_STATE, Twin.OWN_AGENTS] s.m t.m ∧ s.SameOutside t) ∧
  (∀ s : State, s.managed → twinDisableCheck s.m = none → s.m.rd Coh.DIR_MODE ≠ 1 →
    ∃ t, exec .twinDisable s = .next t ∧ t.m.rd Twin.TWIN_ENABLE = 0 ∧ twinState t.m = 0 ∧ t.m.rd Twin.HOME_ALL = 0 ∧
      Mach.SameBut [Twin.TWIN_ENABLE, Twin.TWIN_STATE, Twin.HOME_ALL] s.m t.m ∧ s.SameOutside t) ∧
  (∀ (h : PairMsg) (s : State), s.live → s.m.on Twin.TWIN_ENABLE = true → pairLinked s.m = true → twinState s.m = 1 →
    helloRefused s.m h = true → exec (.hello h) s = .next (s.at (twinEvent 1 s.m))) ∧
  (∀ (h : PairMsg) (s : State), s.live → s.m.on Twin.TWIN_ENABLE = true → pairLinked s.m = true → twinState s.m = 1 →
    helloRefused s.m h = false → s.m.coh.hlcTag = [] →
    ∃ t, exec (.hello h) s = .next t ∧ t.m.twin.hello = some h ∧ t.m.rd Twin.PEER_AGENTS = h.agents ∧
      t.m.rd Twin.PEER_DIGEST = h.digest ∧ Mach.SameBut [Twin.PEER_AGENTS, Twin.PEER_DIGEST, Hlc.HLC_STATE] s.m t.m ∧
      s.SameOutside t) ∧
  (∀ (h : PairMsg) (s : State), s.live → s.m.twin.hello = some h → twinState s.m = 1 → s.m.twin.flushed = false →
    s.m.rd Hlc.HLC_DIRTY = 0 →
    ∃ t, exec .pairingFlushDone s = .next t ∧ t.m.twin.flushed = true ∧ t.m.rd Coh.DIR_MODE = 1 ∧
      t.m.rd Coh.INDEX_BITS = 23 ∧ s.SameOutside t) ∧
  (∀ (h : PairMsg) (s : State), s.live → s.m.twin.hello = some h → twinState s.m = 1 → h.state = 5 →
    s.m.twin.flushed = true → s.m.twin.timed = true →
    ∃ t, exec .syncDone s = .next t ∧ twinState t.m = 2 ∧ t.m.rd Hb.SYNC_STATE = 2 ∧ t.m.twin.peerAll = true ∧
      Mach.SameBut [Twin.TWIN_STATE, Hb.SYNC_STATE] s.m t.m ∧ s.SameOutside t) ∧
  (∀ (r : MirrorRec) (s : State), s.live → wfMirrors [r] = true → s.m.rd Coh.DIR_MODE = 1 → r.ty = 6 → r.entry ≠ 0 →
    (∀ n, (s.m.seam n).rx = []) →
    ∃ t, exec (.mirrorSwatch [r]) s = .next t ∧
      t.m.slotEntry ⟨r.ce, r.slot % 2 ^ 23 + 2 ^ 23 * Nat.xor (r.home % 2) (s.m.role % 2), r.tag⟩ = r.entry ∧
      s.SameOutside t) ∧
  (∀ (c : Nat) (s : State), s.live → c < 4 → s.m.twin.peerAll = true →
    ∃ t, exec (.handover c) s = .next t ∧
      (setBit s.m.twin.handed c true % 16 = 15 → t.m.twin.peerAll = false ∧ t.m.twin.handed = 0) ∧
      (setBit s.m.twin.handed c true % 16 ≠ 15 → t.m.twin.peerAll = true ∧
        t.m.twin.handed = setBit s.m.twin.handed c true) ∧ Mach.SameBut [] s.m t.m ∧ s.SameOutside t) ∧
  (∀ s : State, s.managed → handbackCheck s.m = none → s.m.twin.handing = false →
    ∃ t, exec .handback s = .next t ∧ t.m.twin = { s.m.twin with handing := true, handed := 0 } ∧
      Mach.SameBut [] s.m t.m ∧ s.SameOutside t) ∧
  (∀ s : State, s.live → s.m.twin.handing = true → s.m.twin.handed = 16 → s.m.coh.mq = [] →
    ∃ t, exec .handbackDone s = .next t ∧ t.m.rd Twin.HOME_ALL = 0 ∧ t.m.twin.handing = false ∧
      Mach.SameBut [Twin.HOME_ALL] s.m t.m ∧ s.SameOutside t)

/-- Heartbeats, the time exchange and the second marks of a pair in operation. -/
def Obligations.twin_heartbeat_and_time : Prop :=
  (∀ (h : PairMsg) (s : State), s.live → pairLinked s.m = true → s.m.on Twin.TWIN_ENABLE = true → twinState s.m = 7 →
    exec (.heartbeat h) s = .next (s.at
      (((s.m.wr Hb.SEAM_HB_OK 1).wr Twin.PEER_DIGEST h.digest).updTwin fun x => { x with hbHeard := s.m.now.stitch }))) ∧
  (∀ s : State, s.live → pairLinked s.m = true → (twinState s.m = 1 ∨ twinState s.m = 2 ∨ twinState s.m = 7) →
    (s.m.twin.hbSent + 125 * s.m.rd Hb.HB_PERIOD_US ≤ s.m.now.stitch →
      exec .heartbeatTimer s = .next (s.at ((s.m.emit (.pair 1 (pairMsg s.m))).updTwin fun x =>
        { x with hbSent := s.m.now.stitch }))) ∧
    (s.m.role = 1 → s.m.twin.treqSent + 125000 * s.m.rd Time.TIME_PERIOD_MS ≤ s.m.now.stitch →
      exec .treqTimer s = .next (s.at ((s.m.emit (.treq s.m.now.ftime)).updTwin fun x =>
        { x with treqSent := s.m.now.stitch }))) ∧
    (∀ t1, s.m.role = 0 → s.m.twin.hello = none →
      ∃ t, exec (.treq t1) s = .next t ∧ t.m.out = .trsp t1 s.m.now.ftime s.m.now.ftime :: s.m.out ∧
        Mach.SameBut [] s.m t.m ∧ s.SameOutside t)) ∧
  (∀ s : State, s.live → s.m.now.stitch < s.m.twin.hbSent + 125 * s.m.rd Hb.HB_PERIOD_US →
    exec .heartbeatTimer s = .next s) ∧
  (∀ (t1 t2 t3 : Nat) (off : Int) (s : State), s.live → pairLinked s.m = true → s.m.role = 1 →
    (twinState s.m = 2 ∨ twinState s.m = 7) →
    off = (((t2 : Int) - t1) + ((t3 : Int) - s.m.now.ftime)) / 2 →
    ∃ t, exec (.trsp t1 t2 t3) s = .next t ∧ t.m.rd Time.TIME_OFFSET_NS = ofSigned 32 off ∧ t.m.twin.slew = off ∧
      t.m.twin.within = (if off.natAbs ≤ 50 then min 8 (s.m.twin.within + 1) else 0) ∧
      t.m.rd Time.TIME_LOCKED = (if 8 ≤ t.m.twin.within then 1 else 0) ∧ t.m.now = s.m.now ∧
      Mach.SameBut [Time.TIME_OFFSET_NS, Time.TIME_LOCKED] s.m t.m ∧ s.SameOutside t) ∧
  (∀ (ns r : Nat) (off : Int) (s : State), s.live → ns < 8 → ppsAccepted s.m = true → twinState s.m = 2 →
    r = (s.m.now.ftime + ns) % secondNs → off = (if 2 * r < secondNs then (r : Int) else (r : Int) - secondNs) →
    ∃ t, exec (.ppsInEdge ns) s = .next t ∧ t.m.rd Time.PPS_OFFSET_NS = ofSigned 32 off ∧
      t.m.twin = { s.m.twin with ppsAt := some s.m.now.stitch } ∧
      Mach.SameBut [Time.PPS_OFFSET_NS] s.m t.m ∧ s.SameOutside t) ∧
  (∀ (ns : Nat) (s : State), s.live → ns < 8 → ppsAccepted s.m = false → exec (.ppsInEdge ns) s = .next s) ∧
  (∀ s : State, s.live → s.m.now.ftime % secondNs < 1000000 →
    ∃ t, exec .ppsOut s = .next t ∧ t.m.twin = { s.m.twin with ppsOut := true } ∧ Mach.SameBut [] s.m t.m ∧ s.SameOutside t)

/-- The loss of heartbeats, the twin-sense input, and the decisions that follow. -/
def Obligations.twin_loss_and_decision : Prop :=
  (∀ s : State, s.live → s.m.on Hb.SEAM_HB_OK = true → twinState s.m = 2 →
    s.m.twin.hbHeard + 125 * s.m.rd Hb.SEAM_HB_MISS_US ≤ s.m.now.stitch →
    s.m.rd Twin.INCIDENT + 1 < 2 ^ widthOf Twin.INCIDENT → s.m.rd Hb.HB_LOST + 1 < 2 ^ widthOf Hb.HB_LOST →
    ∃ t, exec .seamHbLost s = .next t ∧ t.m.rd Hb.SEAM_HB_OK = 0 ∧
      twinState t.m = (if s.m.rd Hb.SENSE_STATE = 0 then 4 else 3) ∧
      t.m.rd Twin.INCIDENT = s.m.rd Twin.INCIDENT + 1 ∧ t.m.rd Hb.HB_LOST = s.m.rd Hb.HB_LOST + 1 ∧
      Mach.SameBut [Hb.SEAM_HB_OK, Hb.HB_LOST, Twin.TWIN_STATE, Twin.INCIDENT] s.m t.m ∧ s.SameOutside t) ∧
  (∀ s : State, s.live → s.m.rd Hb.SENSE_STATE = 0 → s.m.on Hb.SEAM_HB_OK = true →
    s.m.rd Hb.SENSE_MISS ≤ s.m.twin.quiet → s.m.twin.equal < 2 → s.m.twin.masked = false →
    s.m.rd Hb.HB_LOST + 1 < 2 ^ widthOf Hb.HB_LOST →
    ∃ t, exec .senseLost s = .next t ∧ t.m.rd Hb.SENSE_STATE = 1 ∧ t.m.twin = s.m.twin ∧
      t.m.rd Hb.HB_LOST = s.m.rd Hb.HB_LOST + 1 ∧
      Mach.SameBut [Hb.SENSE_STATE, Hb.HB_LOST] s.m t.m ∧ s.SameOutside t) ∧
  (∀ s : State, s.managed → s.m.twin.masked = true →
    (∃ t, exec (.senseRearm true) s = .next t ∧ t.m.twin.masked = true ∧ Mach.SameBut [] s.m t.m ∧ s.SameOutside t) ∧
    (s.m.on Hb.SEAM_HB_OK = false → twinState s.m = 0 → s.m.rd Hb.SENSE_STATE ≠ 0 →
      ∃ t, exec (.senseRearm false) s = .next t ∧ t.m.twin.masked = false ∧ t.m.twin.fast = [] ∧
        t.m.rd Hb.SENSE_STATE = senseNow t.m ∧ Mach.SameBut [Hb.SENSE_STATE] s.m t.m ∧ s.SameOutside t)) ∧
  (∀ (i : Nat) (s : State), s.managed → witnessOk s.m i = true →
    (∃ t, exec (.witnessSurvive i) s = .next t ∧ twinState t.m = 5 ∧ t.m.rd Twin.HOME_ALL = 1 ∧
      t.m.rd Twin.FAILOVER_STITCH = s.m.now.stitch - 1 ∧ s.SameOutside t) ∧
    ∃ t, exec (.witnessYield i) s = .next t ∧ twinState t.m = 6 ∧ s.SameOutside t) ∧
  (∀ (i : Nat) (s : State), s.managed → witnessOk s.m i = false →
    exec (.witnessSurvive i) s = .next (s.at ((twinEvent 11 s.m).emit (.answer .state 0))) ∧
    exec (.witnessYield i) s = .next (s.at ((twinEvent 11 s.m).emit (.answer .state 0)))) ∧
  (∀ s : State, s.live → twinState s.m = 3 → s.m.on Twin.AUTO_SURVIVE = true → s.m.role = 0 →
    s.m.twin.suspectAt + 125000 * s.m.rd Twin.WITNESS_WAIT_MS ≤ s.m.now.stitch →
    ∃ t, exec .witnessTimeout s = .next t ∧ twinState t.m = 5 ∧ t.m.rd Twin.HOME_ALL = 1 ∧
      t.m.rd Twin.FAILOVER_STITCH = s.m.now.stitch ∧ s.SameOutside t)

/-! ### Slot power -/

/-- Writes of the slot controller's entries wait for the next slot tick, which applies them.
The attention inputs of a slot, the masking of one that chatters or is stuck, and the phase of the indicators. -/
def Obligations.slot_writes_and_inputs : Prop :=
  (∀ (n : Nat) (s : State), s.managed → n < 32 → s.m.domOn 76 = true →
    (∀ v, ∃ t, exec (.pwrEnWrite n v) s = .next t ∧
      t.m.slots.writes = s.m.slots.writes ++ [(Slot.PWR_EN n, if v then 1 else 0)] ∧ Mach.SameBut [] s.m t.m ∧
      s.SameOutside t) ∧
    (∃ t, exec (.fetRecheck n) s = .next t ∧ t.m.slots.writes = s.m.slots.writes ++ [(Slot.SLOT_CMD n, 1)] ∧
      Mach.SameBut [] s.m t.m ∧ s.SameOutside t) ∧
    (∃ t, exec (.auxRestore n) s = .next t ∧ t.m.slots.writes = s.m.slots.writes ++ [(Slot.SLOT_CMD n, 2)] ∧
      Mach.SameBut [] s.m t.m ∧ s.SameOutside t) ∧
    (∀ bits, ∃ t, exec (.inputRearm n bits) s = .next t ∧
      t.m.slots.writes = s.m.slots.writes ++ [(Slot.INPUT_REARM n, bits)] ∧ Mach.SameBut [] s.m t.m ∧ s.SameOutside t)) ∧
  (∀ (n : Nat) (s : State), s.live → n < 32 → slotsOn s.m = true → slotIn s.m n 1 = false → slotIn s.m n 9 = false →
    filterDue n 1 s.m = true →
    ∃ t, exec (.button n) s = .next t ∧ slotIn t.m n 1 = true ∧ Mach.SameBut [Slot.INPUTS n] s.m t.m ∧ s.SameOutside t) ∧
  (∀ (n : Nat) (s : State), s.live → n < 32 → slotsOn s.m = true → slotIn s.m n 2 = false → slotIn s.m n 10 = false →
    filterDue n 2 s.m = true →
    ∃ t, exec (.alert n) s = .next t ∧ slotIn t.m n 2 = true ∧ Mach.SameBut [Slot.INPUTS n] s.m t.m ∧ s.SameOutside t) ∧
  (∀ (n i : Nat) (s : State), s.live → n < 32 → slotsOn s.m = true → 1 ≤ i → i ≤ 2 → slotIn s.m n (8 + i) = false →
    (inputChatters s.m n i = true → ∃ t, exec (.slotInputChatter n i) s = .next t ∧ slotIn t.m n (8 + i) = true ∧ Mach.SameBut [Slot.INPUTS n] s.m t.m ∧
      s.SameOutside t) ∧
    (slotIn s.m n i = true → stuckDue n i s.m = true →
      ∃ t, exec (.slotInputStuck n i) s = .next t ∧ slotIn t.m n (8 + i) = true ∧ Mach.SameBut [Slot.INPUTS n] s.m t.m ∧
        s.SameOutside t)) ∧
  (∀ s : State, s.live → slotsOn s.m = true → s.m.slots.blinkAt + 250000 ≤ s.m.now.tick →
    ∃ t, exec .ledBlinkToggle s = .next t ∧
      t.m.slots = { s.m.slots with blink := !s.m.slots.blink, blinkAt := s.m.now.tick } ∧
      Mach.SameBut [] s.m t.m ∧ s.SameOutside t)

/-- Presence: its filter, the end of the insertion debounce, and a declared removal.
A slot ramps up when a place is free, and has its power good when the supply has been clean. -/
def Obligations.slot_presence_and_ramp : Prop :=
  (∀ (n : Nat) (s : State), s.live → n < 32 → slotsOn s.m = true → slotIn s.m n 0 = false → slotIn s.m n 8 = false →
    slotState s.m n = 0 → (s.m.slot n).inserted = false →
    filterDue n 0 s.m = true →
    ∃ t, exec (.presenceFilter n true) s = .next t ∧ slotIn t.m n 0 = true ∧ slotState t.m n = 1 ∧
      (t.m.slot n).debounce = some 0 ∧ (t.m.slot n).absent = 0 ∧
      Mach.SameBut [Slot.INPUTS n, Slot.RETRY_COUNT n, Slot.RETRY_LEFT_MS n, Slot.SLOT_STATE n, SlotAll.RAMPING] s.m t.m ∧
      s.SameOutside t) ∧
  (∀ (n : Nat) (s : State), s.live → n < 32 → slotsOn s.m = true → slotIn s.m n 0 = true → slotIn s.m n 8 = false →
    filterDue n 0 s.m = true →
    ∃ t, exec (.presenceFilter n false) s = .next t ∧ slotIn t.m n 0 = false ∧
      slotState t.m n = (if slotState s.m n = 1 then 0 else slotState s.m n) ∧ (t.m.slot n).debounce = none ∧
      (t.m.slot n).absent = 0 ∧ Mach.SameBut [Slot.INPUTS n, Slot.SLOT_STATE n, SlotAll.RAMPING] s.m t.m ∧ s.SameOutside t) ∧
  (∀ (n : Nat) (s : State), s.live → n < 32 → slotsOn s.m = true → debounceDue n s.m = true →
    slotState s.m n = 1 →
    ∃ t, exec (.insertionDebounceEnd n) s = .next t ∧ (t.m.slot n).inserted = true ∧ (t.m.slot n).debounce = none ∧
      slotState t.m n = (if s.m.rd (Slot.RETRY_MAX n) < s.m.rd (Slot.RETRY_COUNT n) then 6 else 2) ∧ s.SameOutside t) ∧
  (∀ (n : Nat) (s : State), s.live → n < 32 → slotsOn s.m = true → slotIn s.m n 0 = false → (s.m.slot n).inserted = true →
    slotState s.m n ≠ 8 →
    removalDue n s.m = true →
    ∃ t, exec (.removalDeclared n) s = .next t ∧ slotState t.m n = 0 ∧ (t.m.slot n).inserted = false ∧
      (t.m.slot n).running = false ∧ s.SameOutside t) ∧
  (∀ (n : Nat) (s : State), s.live → n < 32 → slotsOn s.m = true → asksRamp s.m n = true →
    s.m.rd SlotAll.RAMPING < s.m.rd SlotAll.RAMP_CONC →
    ∃ t, exec (.rampAdmit n) s = .next t ∧ slotState t.m n = 3 ∧ (t.m.slot n).gate = true ∧ (t.m.slot n).ramp = 0 ∧
      Mach.SameBut [Slot.SLOT_STATE n, SlotAll.RAMPING, Slot.INPUTS n] s.m t.m ∧ s.SameOutside t) ∧
  (∀ (n : Nat) (s : State), s.live → n < 32 → slotsOn s.m = true → slotState s.m n = 3 → cleanTick s.m n = true →
    goodDue n s.m = true →
    ∃ t, exec (.powerGood n) s = .next t ∧ slotState t.m n = 4 ∧ slotIn t.m n 5 = true ∧
      t.m.rd (Slot.PG_STITCH n) = s.m.now.stitch ∧
      Mach.SameBut [Slot.SLOT_STATE n, SlotAll.RAMPING, Slot.INPUTS n, Slot.PG_STITCH n] s.m t.m ∧ s.SameOutside t) ∧
  (∀ (n : Nat) (s : State), s.live → n < 32 → slotsOn s.m = true → retryDue n s.m = true → slotState s.m n = 5 →
    ∃ t, exec (.retryTimerExpiry n) s = .next t ∧ slotState t.m n = 2 ∧ (t.m.slot n).running = false ∧
      t.m.rd (Slot.RETRY_LEFT_MS n) = 0 ∧
      Mach.SameBut [Slot.SLOT_STATE n, SlotAll.RAMPING, Slot.RETRY_LEFT_MS n] s.m t.m ∧ s.SameOutside t) ∧
  (∀ (n : Nat) (s : State), s.live → n < 32 → slotsOn s.m = true → slotIn s.m n 5 = true →
    goodHeld n s.m = true →
    exec (.retryCountReset n) s = .next (s.at (s.m.wr (Slot.RETRY_COUNT n) 0))) ∧
  (∀ (n : Nat) (s : State), s.live → n < 32 → slotsOn s.m = true → slotState s.m n = 7 →
    uvGone n s.m = true →
    ∃ t, exec (.uvRecovery n) s = .next t ∧ slotState t.m n = 2 ∧
      Mach.SameBut [Slot.SLOT_STATE n, SlotAll.RAMPING] s.m t.m ∧ s.SameOutside t)

/-- What trips a slot: its cause is recorded, and it waits for a retry while it has one left and is latched off otherwise.
Short circuit, under-voltage, and the checks of the power switch and of the auxiliary output. -/
def Obligations.slot_trips_and_protection : Prop :=
  (∀ (n : Nat) (s : State), s.live → n < 32 → slotsOn s.m = true → rampDue n s.m = true → slotState s.m n = 3 →
    slotIn s.m n 3 = false → ∃ t, exec (.rampTimeout n) s = .next t ∧ s.Tripped t n 7) ∧
  (∀ (n : Nat) (s : State), s.live → n < 32 → slotsOn s.m = true → faultDue n s.m = true → powered s.m n = true →
    ∃ t, exec (.faultTimerExpiry n) s = .next t ∧ s.Tripped t n 5) ∧
  (∀ (n : Nat) (s : State), s.live → n < 32 → slotsOn s.m = true → pgLostDue n s.m = true → slotIn s.m n 5 = true →
    ∃ t, exec (.pgLost n) s = .next t ∧ s.Tripped t n 8) ∧
  (∀ (n : Nat) (s : State), s.live → n < 32 → faultDue n s.m = false → exec (.faultTimerExpiry n) s = .next s) ∧
  (∀ (n uv : Nat) (s : State), s.live → n < 32 → slotsOn s.m = true → s.m.rd (Slot.SC_UV n) < uv →
    exec (.shortCircuit n uv) s =
      .next (s.at (s.m.updSlot n fun x => { x with gate := false, shorted := powered s.m n }))) ∧
  (∀ (n : Nat) (s : State), s.live → n < 32 → slotsOn s.m = true → powered s.m n = true →
    uvDue n s.m = true →
    ∃ t, exec (.uvHold n) s = .next t ∧ slotState t.m n = 7 ∧ (t.m.slot n).up = 0 ∧ s.SameOutside t) ∧
  (∀ (n : Nat) (s : State), s.live → n < 32 → slotsOn s.m = true → slotState s.m n ≠ 8 →
    fetDue n s.m = true →
    ∃ t, exec (.fetCheckFail n) s = .next t ∧ slotState t.m n = 8 ∧ s.SameOutside t) ∧
  (∀ (n : Nat) (s : State), s.live → n < 32 → slotsOn s.m = true → slotState s.m n = 8 →
    recheckDue n s.m = true →
    (∃ t, exec (.fetRecheckDone n true) s = .next t ∧ slotState t.m n = (if slotIn s.m n 0 then 2 else 0) ∧
      (t.m.slot n).recheck = none ∧ Mach.SameBut [Slot.SLOT_STATE n, SlotAll.RAMPING] s.m t.m ∧ s.SameOutside t) ∧
    ((s.m.slot n).rebad = true → ∃ t, exec (.fetRecheckDone n false) s = .next t ∧ (t.m.slot n).recheck = none ∧ Mach.SameBut [] s.m t.m ∧
      s.SameOutside t)) ∧
  (∀ (n : Nat) (s : State), s.live → n < 32 → slotsOn s.m = true → slotIn s.m n 6 = true →
    auxDue n s.m = true →
    ∃ t, exec (.auxFault n) s = .next t ∧ (t.m.slot n).auxOff = true ∧ slotIn t.m n 6 = false ∧
      Mach.SameBut [Slot.INPUTS n] s.m t.m ∧ s.SameOutside t)

/-! ### Coherence -/

/-- Requests on a line that nothing else holds: a read is forwarded to the target of its line, an ownership request without data
is granted E at once, and a write goes to the target with its data. -/
def Obligations.requests_on_a_free_line : Prop :=
  (∀ (q : CohReq) (s : State) (e : Nat) (ld : Option Nat) (d : Nat), s.CohReady q → s.Plain q → s.LineTarget q e ld d →
    stableOf s.m (s.placeOf q) (lineOf q) = 1 → s.Comes (.rds q) →
    ∃ t, exec (.rds q) s = .next t ∧ t.Sends (.target (s.placeOf q).c e ld d 0 q.tag 0 0 false)) ∧
  (∀ (q : CohReq) (s : State) (e : Nat) (ld : Option Nat) (d : Nat), s.CohReady q → s.Plain q → s.LineTarget q e ld d →
    stableOf s.m (s.placeOf q) (lineOf q) = 1 → anyOwned s.m (s.placeOf q) = false →
    (∀ a ∈ sharersOf s.m (s.placeOf q), agentOf q.who = some a) → s.Comes (.rda q) →
    ∃ t, exec (.rda q) s = .next t ∧ t.Sends (.target (s.placeOf q).c e ld d 0 q.tag 0 0 false)) ∧
  (∀ (q : CohReq) (s : State) (e : Nat) (ld : Option Nat) (d : Nat), s.CohReady q → s.Plain q → s.LineTarget q e ld d →
    stableOf s.m (s.placeOf q) (lineOf q) ≤ 1 → s.Comes (.rdi q) →
    ∃ t, exec (.rdi q) s = .next t ∧ t.Sends (.target (s.placeOf q).c e ld d 0 q.tag 0 0 false)) ∧
  (∀ (q : CohReq) (s : State) (a : Nat), s.CohReady q → q.who = .agent a →
    stableOf s.m (s.placeOf q) (lineOf q) = 1 → anyOwned s.m (s.placeOf q) = false →
    (∀ b ∈ sharersOf s.m (s.placeOf q), b = a) → s.Comes (.inva q) →
    ∃ t, exec (.inva q) s = .next t ∧ t.Sends (.coherent q.port q.tag 2 0 false)) ∧
  (∀ (q : CohReq) (s : State) (e : Nat) (ld : Option Nat) (d : Nat), s.CohReady q → s.Plain q → s.LineTarget q e ld d →
    stableOf s.m (s.placeOf q) (lineOf q) = 0 → s.Comes (.write q) →
    ∃ t, exec (.ncw q) s = .next t ∧
      t.Sends (.target (s.placeOf q).c e ld d (if q.partialW then 2 else 1) q.tag q.data q.be q.poison)) ∧
  (∀ (q : CohReq) (s : State) (a e : Nat) (ld : Option Nat) (d : Nat), s.CohReady q → s.Plain q → s.LineTarget q e ld d →
    q.who = .agent a → stableOf s.m (s.placeOf q) (lineOf q) = 2 → ownerOf s.m (s.placeOf q) = some a → s.Comes (.write q) →
    ∃ t, exec (.wb q) s = .next t ∧
      t.Sends (.target (s.placeOf q).c e ld d (if q.partialW then 2 else 1) q.tag q.data q.be q.poison))

/-- A request on a line that another agent owns first sends that agent one BISnp: BISnpData for RdS, BISnpCur for RdI,
BISnpInv for every request that leaves the owner nothing. One that takes the ownership snoops every line of the sector that the owner
has. -/
def Obligations.requests_on_an_owned_line : Prop :=
  ∀ (q : CohReq) (s : State) (y : Nat), s.CohReady q → s.OwnedBy q y →
    (s.Comes (.rds q) → ∃ t, exec (.rds q) s = .next t ∧ s.Snoops t q y 1 (2 ^ lineOf q)) ∧
    (s.Comes (.rdi q) → ∃ t, exec (.rdi q) s = .next t ∧ s.Snoops t q y 2 (2 ^ lineOf q)) ∧
    (s.Comes (.rda q) → ∃ t, exec (.rda q) s = .next t ∧ s.Snoops t q y 0 (ownedMask s q)) ∧
    (s.Comes (.inva q) → ∃ t, exec (.inva q) s = .next t ∧ s.Snoops t q y 0 (ownedMask s q)) ∧
    (s.Comes (.write q) → ∃ t, exec (.ncw q) s = .next t ∧ s.Snoops t q y 0 (2 ^ lineOf q)) ∧
    (s.Comes (.atomHome q) → ∃ t, exec (.atomicAtHome q) s = .next t ∧ s.Snoops t q y 0 (2 ^ lineOf q)) ∧
    (s.Comes (.atomMem q) → ∃ t, exec (.atomicAtMemory q) s = .next t ∧ s.Snoops t q y 0 (2 ^ lineOf q))

/-- Atomics on a line that nothing holds: at home the slice reads the old value, at the memory the operation itself goes to the
target; a line in L answers an atomic and a read with poison. -/
def Obligations.atomics_and_lost_lines : Prop :=
  (∀ (q : CohReq) (s : State) (e : Nat) (ld : Option Nat) (d : Nat), s.CohReady q → s.Plain q →
    stableOf s.m (s.placeOf q) (lineOf q) = 0 → eligible s.m (lineAddr s.m (s.placeOf q) (lineOf q)) = false →
    s.LineTarget q e ld d → s.Comes (.atomHome q) →
    ∃ t, exec (.atomicAtHome q) s = .next t ∧ t.Sends (.target (s.placeOf q).c e ld d 0 q.tag 0 0 false)) ∧
  (∀ (q : CohReq) (s : State) (e : Nat) (ld : Option Nat) (d : Nat), s.CohReady q → s.Plain q →
    stableOf s.m (s.placeOf q) (lineOf q) = 0 → targetOf s.m q.addr = (some e, ld, d) →
    (e < 64 → ideBlocked s.m e 0 = false) → s.Comes (.atomMem q) →
    ∃ t, exec (.atomicAtMemory q) s = .next t ∧
      t.Sends (.target (s.placeOf q).c e ld d 3 q.tag q.operand (atomBe q.addr q.atomSize) false)) ∧
  (∀ (q : CohReq) (s : State) (a : Nat), s.CohReady q → q.who = .agent a →
    stableOf s.m (s.placeOf q) (lineOf q) = 3 →
    (s.Comes (.rds q) → ∃ t, exec (.rds q) s = .next t ∧ t.Sends (.coherent q.port q.tag 4 0 true)) ∧
    (s.Comes (.rda q) → ∃ t, exec (.rda q) s = .next t ∧ t.Sends (.coherent q.port q.tag 4 0 true)) ∧
    (s.Comes (.rdi q) → ∃ t, exec (.rdi q) s = .next t ∧ t.Sends (.coherent q.port q.tag 4 0 true)) ∧
    (s.Comes (.atomHome q) → ∃ t, exec (.atomicAtHome q) s = .next t ∧ t.Sends (.coherent q.port q.tag 7 0 true)) ∧
    (s.Comes (.atomMem q) → ∃ t, exec (.atomicAtMemory q) s = .next t ∧ t.Sends (.coherent q.port q.tag 7 0 true)))

/-- Completions: a write's completion is told to its requester, by a target or by the home line cache; a clean eviction is
always completed; a BIConflict of a requester that has nothing admitted is acknowledged. -/
def Obligations.coherent_completions : Prop :=
  (∀ (q : CohReq) (s : State) (sector line tag a : Nat), s.Waits sector line .m q → q.tag = tag → q.who = .agent a →
    (s.m.tline (placeOfSector s.m sector) line).need ≤ 1 → (s.m.tline (placeOfSector s.m sector) line).step ≠ 9 →
    (s.m.tline (placeOfSector s.m sector) line).wbs = [] → tag < 2 ^ 47 →
    s.Comes (.cmpn (placeOfSector s.m sector).c sector line tag false 0) →
    ∃ t, exec (.cmpn (placeOfSector s.m sector).c sector line tag false 0) s = .next t ∧
      t.Sends (.coherent q.port q.tag 0 0 false)) ∧
  (∀ (q : CohReq) (s : State) (sector line a old : Nat) (h : HPend), s.Waits sector line .m q → q.who = .agent a →
    old < 2 ^ 512 → (s.m.tline (placeOfSector s.m sector) line).need ≤ 1 →
    (s.m.tline (placeOfSector s.m sector) line).step ≠ 9 →
    (s.m.tline (placeOfSector s.m sector) line).wbs = [] →
    (findPend s.m sector line fun h => h.op = 1 || 3 ≤ h.op) = some h → h.op = 1 → h.req = some q →
    (wayOf s.m (sector * 256 + 64 * line)).isSome = true → s.Comes (.hcmp (placeOfSector s.m sector).c sector line old) →
    ∃ t, exec (.hcmp (placeOfSector s.m sector).c sector line old) s = .next t ∧
      t.Sends (.coherent q.port q.tag 0 0 false)) ∧
  (∀ (q : CohReq) (s : State) (sector line a data : Nat) (h : HPend), s.live → sector < 2 ^ 46 → line < 4 → data < 2 ^ 512 →
    s.m.SliceReady (placeOfSector s.m sector).c → s.m.tline (placeOfSector s.m sector) line = TLine.idleLine →
    stableOf s.m (placeOfSector s.m sector) line ≠ 3 →
    (findPend s.m sector line fun h => h.op = 0 || (2 ≤ h.op && h.op ≤ 4)) = some h → h.op = 0 → h.req = some q →
    q.who = .agent a → s.Comes (.hdata (placeOfSector s.m sector).c sector line data false) →
    ∃ t, exec (.hdata (placeOfSector s.m sector).c sector line data false) s = .next t ∧
      s.SendsOnly t (.coherent q.port q.tag 4 data false)) ∧
  (∀ (q : CohReq) (s : State) (a : Nat), s.live → wfCoh q = true → s.m.SliceReady (s.placeOf q).c → q.who = .agent a →
    q.ecc ≠ 2 → s.Comes (.clnEv q) →
    ∃ t, exec (.clnEv q) s = .next t ∧ t.Sends (.coherent q.port q.tag 0 0 false)) ∧
  (∀ (q : CohReq) (s : State) (a : Nat), s.live → wfCoh q = true → s.m.SliceReady (s.placeOf q).c → q.who = .agent a →
    admittedFrom s.m q = [] → s.Comes (.conflict q) →
    ∃ t, exec (.biconflict q) s = .next t ∧ t.Sends (.coherent q.port q.tag 3 0 false))

/-- Snoop answers: a write that waits for its last snooped agent goes to the target when that agent answers BIRspI; a line whose
writeback has not come in WB_WAIT is Lost, and the read that waits for it is answered with poison; an agent that leaves a snoop
unanswered is declared dead. -/
def Obligations.snoop_answers : Prop :=
  (∀ (q : CohReq) (r : BiRsp) (s : State) (due sector line e : Nat) (ld : Option Nat) (d : Nat),
    wfBiRsp r = true → s.Waits sector line .bI q →
    (s.m.tline (placeOfSector s.m sector) line).step = 0 → (s.m.tline (placeOfSector s.m sector) line).base < 3 →
    (s.m.tline (placeOfSector s.m sector) line).transfer = false →
    (s.m.tline (placeOfSector s.m sector) line).snoops = [⟨r.agent, none, 0, none, false⟩] →
    r.bitag / 1024 % 4 = (placeOfSector s.m sector).c → r.kind = 0 → r.wbAhead = 0 →
    s.m.coh.snoops = [⟨r.bitag, true, (placeOfSector s.m sector).c, (placeOfSector s.m sector).slot, (placeOfSector s.m sector).tag,
      r.agent, 0, 2 ^ line, 0, due⟩] →
    hlcBit s.m (placeOfSector s.m sector) line = false →
    targetOf s.m (lineAddr s.m (placeOfSector s.m sector) line) = (some e, ld, d) → takesMem s.m e = true →
    (e < 64 → ideBlocked s.m e 1 = false) → s.Comes (.birsp r) →
    ∃ t, exec (.birsp r) s = .next t ∧ t.m.coh.snoops = [] ∧
      t.Sends (.target (placeOfSector s.m sector).c e ld d (if q.partialW then 2 else 1) q.tag q.data q.be q.poison)) ∧
  (∀ (q : CohReq) (s : State) (sector line a y : Nat), s.Waits sector line .w q → q.who = .agent a →
    (s.m.tline (placeOfSector s.m sector) line).due ≤ s.m.now.stitch →
    ((s.m.tline (placeOfSector s.m sector) line).came = .bS ∨ (s.m.tline (placeOfSector s.m sector) line).came = .bC) →
    (s.m.tline (placeOfSector s.m sector) line).owner = some y →
    (∀ z ∈ (s.m.tline (placeOfSector s.m sector) line).snoops, z.agent = y) →
    (s.m.tline (placeOfSector s.m sector) line).transfer = false →
    mustWait s.m s.pending (placeOfSector s.m sector).c 4 = false →
    ∃ t, exec (.wbTimeout (placeOfSector s.m sector).c sector line) s = .next t ∧
      t.Sends (.coherent q.port q.tag 4 0 true)) ∧
  (∀ (bitag : Nat) (s : State) (x : SnoopRec), s.live →
    (s.m.coh.snoops.find? fun y => y.sent && y.bitag == bitag && y.due ≤ s.m.now.stitch) = some x →
    agentDead s.m x.agent = false → agentDying s.m x.agent = false →
    mustWait s.m s.pending (bitag / 1024 % 4) 4 = false →
    ∃ t, exec (.snoopTimeout bitag) s = .next t ∧ (x.agent, s.m.now.stitch + 1) ∈ t.m.coh.dying ∧ s.SameOutside t)

/-- Requesters: a NAK makes the requester keep its request and double its backoff up to BACKOFF_MAX; at its end, or at
GO, it is presented again where it is still allowed; a reservation that lapses is given up. -/
def Obligations.retries : Prop :=
  (∀ (tag : Nat) (rsv : Bool) (s : State) (r : Retry), s.live → s.m.edge.streams = [] →
    (s.NoneOnItsWay fun b => match b with
      | .nak _ t v _ _ _ => t == tag && v == rsv
      | _ => false) → s.m.coh.retries = [r] → r.tag = tag →
    ∃ t, exec (.nak tag rsv) s = .next t ∧
      t.m.coh.retries = [{ r with naks := min 15 (r.naks + 1), rsv := rsv, sent := false,
                                  due := s.m.now.stitch + min (2 ^ (min 15 (r.naks + 1) - 1)) s.m.coh.backoff }] ∧
      Mach.SameBut [NocStat.MSGS (tagSlice s.m tag), NocStat.FLITS (tagSlice s.m tag)] s.m t.m ∧ s.SameOutside t) ∧
  (∀ (tag : Nat) (s : State) (r : Retry), s.live →
    (s.m.coh.retries.find? fun r => r.tag == tag && !r.rsv && !r.sent && r.due ≤ s.m.now.stitch) = some r → r.req = none →
    (∀ x, findTxn s.m r.port r.tag = some x → checkAccess s.m 0 x.slice x.need x.addr (max 1 x.len) = none) →
    ∃ t, exec (.backoffExpiry tag) s = .next t ∧ s.SendsOnly t (.again r.port r.tag r.naks none) ∧
      { r with sent := true } ∈ t.m.coh.retries ∧ s.SameOutside t) ∧
  (∀ (tag : Nat) (s : State), s.live →
    (s.m.coh.retries.find? fun r => r.tag == tag && !r.rsv && !r.sent && r.due ≤ s.m.now.stitch) = none →
    exec (.backoffExpiry tag) s = .next s) ∧
  (∀ (tag : Nat) (s : State) (r : Retry), s.live →
    (s.NoneOnItsWay fun b => match b with
      | .go _ t => t == tag
      | _ => false) →
    (s.m.coh.retries.find? fun r => r.tag == tag && r.rsv) = some r → r.req = none →
    (∀ x, findTxn s.m r.port r.tag = some x → checkAccess s.m 0 x.slice x.need x.addr (max 1 x.len) = none) →
    ∃ t, exec (.go tag) s = .next t ∧ s.SendsOnly t (.again r.port r.tag r.naks none) ∧
      (∀ y ∈ t.m.coh.retries, y.tag = tag → y.rsv = false) ∧ s.SameOutside t) ∧
  (∀ (c slot : Nat) (s : State) (r : Rsv) (rs : List Rsv), c < 4 → slot < 2 ^ 24 → s.live →
    mustWait s.m s.pending c 4 = false →
    Tab.get [] s.m.coh.rsv (c * 2 ^ 24 + slot) = r :: rs → r.go = true → r.due ≤ s.m.now.stitch →
    ∃ t, exec (.rsvLapse c slot) s = .next t ∧
      (∀ y ∈ t.m.coh.retries, y.tag = r.tag → y.port = r.port → y.rsv = false ∧ y.naks = 8) ∧
      (rs = [] → Tab.get [] t.m.coh.rsv (c * 2 ^ 24 + slot) = []) ∧ s.SameOutside t)

/-- The home line cache: its controllers answer reads, writes, atomics, recalls and fills of held lines.
The home line cache is drained, flushed, and idle again. -/
def Obligations.home_line_cache : Prop :=
  (∀ (h : HlcMsg) (s : State), wfHlc h = true → s.live → (s.NoneOnItsWay fun b => match b with
      | .home _ g => g.addr / 64 == h.addr / 64
      | _ => false) →
    (∀ k, wayOf s.m h.addr = some k →
      ∃ t, exec (.hrd h) s = .next t ∧
        s.SendsOnly t (.hlcAnswer (placeOfAddr s.m h.addr).c 0 (h.addr / 64 * 64) (wayData s.m k) (h.failed || wayBad s.m k)) ∧
        t.m.coh = s.m.coh ∧ s.SameOutside t) ∧
    (wayOf s.m h.addr = none →
      ∃ t, exec (.hrd h) s = .next t ∧
        s.SendsOnly t (.hlcAnswer (placeOfAddr s.m h.addr).c 0 (h.addr / 64 * 64) 0 true) ∧ t.m.coh = s.m.coh ∧ s.SameOutside t) ∧
    (∀ k, wayOf s.m h.addr = some k →
      ∃ t, exec (.hwr h) s = .next t ∧ wayData t.m k = mergeBytes 64 (wayData s.m k) h.data h.be ∧
        (s.m.rd Hlc.HLC_MODE = 0 → wayDirty t.m k = true) ∧
        s.SendsOnly t (.hlcAnswer (placeOfAddr s.m h.addr).c 1 (h.addr / 64 * 64) 0 false) ∧ s.SameOutside t) ∧
    (∀ k, wayOf s.m h.addr = some k → h.failed = false → wayBad s.m k = false →
      ∃ t, exec (.hatom h) s = .next t ∧
        wayData t.m k = (atomLine (wayData s.m k) h.addr h.atomCode h.atomSize h.operand h.compare).2 ∧
        s.SendsOnly t (.hlcAnswer (placeOfAddr s.m h.addr).c 0 (h.addr / 64 * 64)
          (getBits (wayData s.m k) (8 * (h.addr % 64)) (8 * h.atomSize)) false) ∧ s.SameOutside t) ∧
    (∀ k, wayOf s.m h.addr = some k → h.failed = false → wayBad s.m k = false →
      ∃ t, exec (.hrecall h) s = .next t ∧
        s.SendsOnly t (.hlcAnswer (placeOfAddr s.m h.addr).c (if wayDirty s.m k then 0 else 1) (h.addr / 64 * 64)
          (if wayDirty s.m k then wayData s.m k else 0) false) ∧
        wayDirty t.m k = false ∧ (h.keep = false → wayValid t.m k = false) ∧ s.SameOutside t) ∧
    (∀ y, (findPend s.m (h.addr / 64 * 64 / 256) (h.addr / 64 * 64 / 64 % 4) fun y => 5 ≤ y.op) = some y → y.op = 5 →
      y.spoiled = false → h.failed = false →
      stableOf s.m (placeOfAddr s.m (h.addr / 64 * 64)) (h.addr / 64 * 64 / 64 % 4) ≠ 3 →
      s.m.rd (Die.DIE_STATE (hlcPlace s.m (h.addr / 64 * 64)).1) = 1 →
      ∃ t, exec (.fill h) s = .next t ∧ wayData t.m y.way = h.data ∧ wayDirty t.m y.way = false ∧
        wayValid t.m y.way = true ∧
        s.SendsOnly t (.hlcAnswer (placeOfAddr s.m (h.addr / 64 * 64)).c 1 (h.addr / 64 * 64) 0 false) ∧ s.SameOutside t)) ∧
  (∀ s : State, s.managed → s.m.rd Hlc.HLC_STATE ≠ 0 →
    ∃ t, exec .hlcEnableClear s = .next t ∧ t.m.rd Hlc.HLC_STATE = 3 ∧ t.m.rd Hlc.HLC_ENABLE = 0 ∧ s.SameOutside t) ∧
  (∀ s : State, s.managed → hlcFlushCheck s.m = none →
    ∃ t, exec .hlcFlush s = .next t ∧ t.m.rd Hlc.HLC_STATE = 2 ∧ s.SameOutside t) ∧
  (∀ s : State, s.live → s.m.rd Hlc.HLC_STATE = 2 → s.m.rd Hlc.HLC_DIRTY = 0 → (∀ h ∈ s.m.coh.hpend, h.op ≠ 3 ∧ h.op ≠ 4) →
    s.m.coh.recallWait = [] →
    exec .hlcFlushDone s = .next (s.at (s.m.wr Hlc.HLC_STATE (if s.m.on Hlc.HLC_ENABLE then 1 else 0)))) ∧
  (∀ s : State, s.live → s.m.rd Hlc.HLC_STATE = 3 → validWays s.m = [] → (∀ h ∈ s.m.coh.hpend, h.op ≠ 3 ∧ h.op ≠ 4) →
    s.m.coh.recallWait = [] →
    exec .hlcFlushDone s = .next (s.at (s.m.wr Hlc.HLC_STATE 0))) ∧
  (∀ s : State, s.live → s.m.rd Hlc.HLC_STATE = 2 → s.m.rd Hlc.HLC_DIRTY ≠ 0 → exec .hlcFlushDone s = .next s)

/-- Loss of an agent: it is declared dead, which takes effect in the next stitch; the walk ends in every slice; the agent is revived. And
a slice's own life: initialised, its die's interface lost, an entry read for diagnosis.
The coherence engine's own actions on entries: the diagnostic read, and the clears of the lost-line log and of the
discard counts. -/
def Obligations.agents_walks_and_diagnosis : Prop :=
  (∀ (a : Nat) (s : State), a < 64 → s.managed → agentDead s.m a = false → agentDying s.m a = false →
    ∃ t, exec (.declareDead a) s = .next t ∧ (a, s.m.now.stitch) ∈ t.m.coh.dying ∧ s.SameOutside t) ∧
  (∀ s : State, s.live → s.m.rd Agents.WALK_AGENTS ≠ 0 → mirrorOn s.m = false →
    (∀ c, c < 4 → Tab.get 0 s.m.coh.walkEnd c ≤ 2 ^ 24 ∧ Tab.get 0 s.m.coh.walkNext c ≤ 2 ^ 24) →
    ∃ t, exec .walkDone s = .next t ∧ t.m.rd Agents.WALK_AGENTS = 0 ∧ t.m.rd Agents.WALK_END = s.m.now.stitch ∧
      (∀ c, c < 4 → t.m.rd (Ce.CE_STATE c) ≠ 3) ∧ t.m.twin.promoting = false ∧ s.SameOutside t) ∧
  (∀ (a : Nat) (s : State), a < 64 → s.managed → reviveCheck a s.m = none → s.m.twin.hello = none →
    exec (.revive a) s = .next (s.at ((s.m.putBit Agents.DEAD_AGENTS a false).ok))) ∧
  (∀ (a : Nat) (s : State) (st : Status), a < 64 → s.managed → reviveCheck a s.m = some st →
    exec (.revive a) s = .next (s.at (s.m.emit (.answer st 0)))) ∧
  (∀ (c : Nat) (s : State), c < 4 → s.live → s.m.rd (Ce.CE_STATE c) = 1 →
    exec (.ceInitDone c) s = .next (s.at (s.m.wr (Ce.CE_STATE c) 2))) ∧
  (∀ (c : Nat) (s : State), c < 4 → s.live → s.m.domOn (72 + c) = true → bitAt s.m.coh.dirBad c = false →
    ∃ t, exec (.dirDieIfFail c) s = .next t ∧ t.m.coh = { s.m.coh with dirBad := setBit s.m.coh.dirBad c true } ∧
      Mach.SameBut [] s.m t.m ∧ s.SameOutside t) ∧
  (∀ s : State, s.managed → diagCheck s.m = none →
    exec .diagEntryRead s = .next (s.at (s.m.emit (.answer .ok (diagEntry s.m))))) ∧
  (∀ (s : State) (st : Status), s.managed → diagCheck s.m = some st →
    exec .diagEntryRead s = .next (s.at (s.m.emit (.answer st 0)))) ∧
  (∀ s : State, s.managed →
    ∃ t, exec .llClear s = .next t ∧ t.m.rd LostLog.LL_SLOTS = 0 ∧ t.m.rd LostLog.LL_PROD = 0 ∧
      t.m.rd LostLog.LL_CONS = 0 ∧ Mach.SameBut [LostLog.LL_SLOTS, LostLog.LL_PROD, LostLog.LL_CONS] s.m t.m ∧
      s.SameOutside t) ∧
  (∀ (s : State) (w : Nat), s.managed → w < 1024 →
    ∃ t, exec .specClear s = .next t ∧ t.m.word Spec.SPEC_DISCARD w = 0 ∧ Mach.SameBut [] s.m t.m ∧ s.SameOutside t)

/-! ### Whole-machine rules -/

/-- A burnt fuse stays burnt: no step of any command, from any state, clears a bit of the control region or of a
generation. -/
def Obligations.burnt_fuses_stay_burnt : Prop :=
  ∀ s t : State, step s = .next t →
    (∀ b, s.otp.ctrl.testBit b = true → t.otp.ctrl.testBit b = true) ∧
    (∀ g b, (s.otp.gen g).testBit b = true → (t.otp.gen g).testBit b = true)

/-- The life cycle only advances: in a state where the governing life-cycle state is not ahead of the fuses, every step keeps it
so and never moves it back. -/
def Obligations.life_cycle_only_advances : Prop :=
  ∀ s t : State, s.otp.lcState ≤ lcCode s.otp.ctrl → step s = .next t →
    t.otp.lcState ≤ lcCode t.otp.ctrl ∧ s.otp.lcState ≤ t.otp.lcState

/-! ### Rules stated whole -/

/-- R187: a write to subindices 0x02 to 0x06 of a mirror selector fails with STATE while its MIR_ENABLE is 1; nothing is written.
The earlier checks of R517 pass: the requester may write the entry, the length is that of its type, the value is in range. -/
def Obligations.mirror_selector_is_fixed_while_enabled : Prop :=
  ∀ (p : Path) (i n l v j : Nat) (e : Entry) (s : State) (w : Who), i < 8 → 2 ≤ n → n ≤ 6 → v < 2 ^ (8 * l) →
    s.Granted p [⟨.write, 0x2820 + i, n, l, 0, 0, v⟩] w → findEntry ((0x2820 + i) * 256 + n) = some (e, j) →
    privFails w e ((0x2820 + i) * 256 + n) true s.toDev = false →
    lifeFails w ((0x2820 + i) * 256 + n) .write s.toDev = false →
    l = e.ty.size → fits e v = true → s.m.on (Mir.MIR_ENABLE i) = true → s.m.mgmt.fault = false →
    exec (.write p (0x2820 + i) n l v) s = .next (s.at (s.m.emit (.answer .state 0)))

/-- R95: a response or an error for a transaction that is already closed is discarded; the port where it arrives raises
FAR_ERROR_CLOSED and counts it in LATE_CPL; nothing reaches the requester. -/
def Obligations.late_responses_are_discarded : Prop :=
  ∀ (p tag : Nat) (s : State), p < 64 → s.live → findEgress s.m p tag = none →
    ∃ t, t = s.at (raiseEv (16 * p + 11) (portCtx p) (s.m.bump (PortErr.LATE_CPL p) 1)) ∧
      t.m.out = s.m.out ∧ t.m.edge = s.m.edge ∧
      exec (.farErrorClosed p tag) s = .next t ∧
      (∀ r : Response, wfResponse r = true → entryUp s.m p = true →
        (s.m.coh.fwds.find? fun f => f.egress == p && f.tag == tag) = none → exec (.targetResponse p tag r) s = .next t)

/-- R97: vPPB bindings are volatile: after chip reset every vPPB is unbound, and no bind is in progress, so that the fabric manager
must bind again. -/
def Obligations.chip_reset_unbinds_every_vppb : Prop :=
  ∀ s : State, ∃ t, exec .chipReset s = .next t ∧ (∀ i, i < 1024 → vState (t.m.rd (Vppb.VPPB i)) = 0) ∧
    t.m.edge.vppbs = [] ∧ t.m.edge.job = none
end

