-- ==== Sys2Proof/Laws/Tab.lean ====
section
/-! SUPPORT. The laws of sparse tables: a read after a write, and the canonical form. -/

namespace Sys2Proof.Machine

variable {α : Type}

@[simp] theorem Tab.get_nil (d : α) (k : Nat) : Tab.get d [] k = d := rfl

theorem Tab.get_insert_same (d : α) (t : Tab α) (k : Nat) (v : α) : Tab.get d (Tab.insert t k v) k = v := by
  induction t with
  | nil => simp [Tab.insert, Tab.get]
  | cons p t ih =>
    obtain ⟨j, x⟩ := p
    by_cases h1 : k < j
    · simp [Tab.insert, h1, Tab.get]
    · by_cases h2 : k = j
      · subst h2; simp [Tab.insert, Tab.get]
      · have h3 : j ≠ k := fun e => h2 e.symm
        simp [Tab.insert, h1, h2, Tab.get, h3, ih]

theorem Tab.get_insert_other (d : α) (t : Tab α) (k k' : Nat) (v : α) (h : k' ≠ k) :
    Tab.get d (Tab.insert t k v) k' = Tab.get d t k' := by
  have h' : k ≠ k' := fun e => h e.symm
  induction t with
  | nil => simp [Tab.insert, Tab.get, h']
  | cons p t ih =>
    obtain ⟨j, x⟩ := p
    by_cases h1 : k < j
    · simp [Tab.insert, h1, Tab.get, h']
    · by_cases h2 : k = j
      · subst h2; simp [Tab.insert, Tab.get, h']
      · simp [Tab.insert, h1, h2, Tab.get, ih]

theorem Tab.get_remove_same (d : α) (t : Tab α) (k : Nat) : Tab.get d (t.filter fun e => e.1 != k) k = d := by
  induction t with
  | nil => rfl
  | cons p t ih =>
    obtain ⟨j, x⟩ := p
    by_cases h : j = k <;> simp [h, Tab.get, ih]

theorem Tab.get_remove_other (d : α) (t : Tab α) (k k' : Nat) (h : k' ≠ k) :
    Tab.get d (t.filter fun e => e.1 != k) k' = Tab.get d t k' := by
  have h' : k ≠ k' := fun e => h e.symm
  induction t with
  | nil => rfl
  | cons p t ih =>
    obtain ⟨j, x⟩ := p
    by_cases hj : j = k
    · simp [hj, Tab.get, h', ih]
    · by_cases hk : j = k' <;> simp [hj, Tab.get, hk, h, ih]

variable [DecidableEq α]

/-- A read of the key just written gives the value written. -/
@[simp] theorem Tab.get_put_same (d : α) (t : Tab α) (k : Nat) (v : α) : Tab.get d (Tab.put d t k v) k = v := by
  by_cases h : v = d
  · subst h; simp [Tab.put, Tab.get_remove_same]
  · simp [Tab.put, h, Tab.get_insert_same]

/-- A write leaves every other key as it was. -/
theorem Tab.get_put_other (d e : α) (t : Tab α) (k k' : Nat) (v : α) (h : k' ≠ k) :
    Tab.get e (Tab.put d t k v) k' = Tab.get e t k' := by
  by_cases hv : v = d
  · simp [Tab.put, hv, Tab.get_remove_other e t k k' h]
  · simp [Tab.put, hv, Tab.get_insert_other e t k k' v h]

/-- A key lies above a bound. -/
def Tab.above (b : Option Nat) (k : Nat) : Prop := ∀ x, b = some x → x < k

theorem Tab.wfFrom_cons (d : Nat → α) (b : Option Nat) (j : Nat) (x : α) (t : Tab α) :
    Tab.wfFrom d b ((j, x) :: t) = true ↔ Tab.above b j ∧ x ≠ d j ∧ Tab.wfFrom d (some j) t = true := by
  cases b <;> simp [Tab.wfFrom, Tab.above, and_assoc]

/-- A bound below the first key may be lowered. -/
theorem Tab.wfFrom_lower (d : Nat → α) (t : Tab α) (b : Option Nat) (c : Nat) (hb : Tab.above b c)
    (h : Tab.wfFrom d (some c) t = true) : Tab.wfFrom d b t = true := by
  cases t with
  | nil => rfl
  | cons p t =>
    obtain ⟨j, x⟩ := p
    rw [Tab.wfFrom_cons] at h ⊢
    refine ⟨?_, h.2⟩
    intro y hy
    have := hb y hy
    have := h.1 c rfl
    omega

/-- Dropping keys keeps the canonical form. -/
theorem Tab.wfFrom_filter (d : Nat → α) (f : Nat × α → Bool) (t : Tab α) (b : Option Nat)
    (h : Tab.wfFrom d b t = true) : Tab.wfFrom d b (t.filter f) = true := by
  induction t generalizing b with
  | nil => exact h
  | cons p t ih =>
    obtain ⟨j, x⟩ := p
    rw [Tab.wfFrom_cons] at h
    have hr := ih (some j) h.2.2
    by_cases hf : f (j, x) = true
    · rw [List.filter_cons_of_pos hf, Tab.wfFrom_cons]
      exact ⟨h.1, h.2.1, hr⟩
    · rw [List.filter_cons_of_neg hf]
      exact Tab.wfFrom_lower d _ b j h.1 hr

theorem Tab.wfFrom_insert (d : Nat → α) (t : Tab α) (b : Option Nat) (k : Nat) (v : α) (hv : v ≠ d k)
    (h : Tab.wfFrom d b t = true) (hb : Tab.above b k) : Tab.wfFrom d b (Tab.insert t k v) = true := by
  induction t generalizing b with
  | nil => rw [Tab.insert, Tab.wfFrom_cons]; exact ⟨hb, hv, rfl⟩
  | cons p t ih =>
    obtain ⟨j, x⟩ := p
    rw [Tab.wfFrom_cons] at h
    have hk : ∀ i, k < i → Tab.above (some k) i := fun i hi y hy => by
      have : k = y := by simpa using hy
      omega
    by_cases h1 : k < j
    · simp only [Tab.insert, h1, if_true]
      rw [Tab.wfFrom_cons, Tab.wfFrom_cons]
      exact ⟨hb, hv, hk j h1, h.2⟩
    · by_cases h2 : k = j
      · subst h2
        simp only [Tab.insert, h1, if_false, if_true]
        rw [Tab.wfFrom_cons]
        exact ⟨hb, hv, h.2.2⟩
      · simp only [Tab.insert, h1, h2, if_false]
        rw [Tab.wfFrom_cons]
        refine ⟨h.1, h.2.1, ih (some j) h.2.2 ?_⟩
        intro y hy
        have : j = y := by simpa using hy
        omega

/-- A write keeps the canonical form. -/
theorem Tab.wf_put (d : Nat → α) (t : Tab α) (k : Nat) (v : α) (h : Tab.wf d t = true) :
    Tab.wf d (Tab.put (d k) t k v) = true := by
  by_cases hv : v = d k
  · simp only [Tab.put, hv, if_true]; exact Tab.wfFrom_filter d _ t none h
  · simp only [Tab.put, hv, if_false]; exact Tab.wfFrom_insert d t none k v hv h (fun _ e => by simp at e)

end Sys2Proof.Machine
end

