-- ==== Sys2Proof/Laws/State.lean ====
section
/-! SUPPORT. What every named update of the switch leaves alone, field by field, and what a read of an entry gives after
a write of one. -/

namespace Sys2Proof.Machine

theorem Mach.rd_of_pb {m m' : Mach} (h : m'.pb = m.pb) (k : Nat) : m'.rd k = m.rd k := by simp [Mach.rd, h]

@[simp] theorem Mach.rd_wr_same (m : Mach) (k v : Nat) : (m.wr k v).rd k = v := by simp [Mach.rd, Mach.wr]
theorem Mach.rd_wr_other (m : Mach) (k v k' : Nat) (h : k' ≠ k) : (m.wr k v).rd k' = m.rd k' := by
  simp [Mach.rd, Mach.wr, Tab.get_put_other _ _ _ _ _ _ h]
/-- A read after a write, both cases. -/
theorem Mach.rd_wr (m : Mach) (k v k' : Nat) : (m.wr k v).rd k' = if k' = k then v else m.rd k' := by
  by_cases h : k' = k
  · subst h; simp
  · simp [h, Mach.rd_wr_other m k v k' h]

@[simp] theorem Mach.wr_ram (m : Mach) (k v : Nat) : (m.wr k v).ram = m.ram := rfl
@[simp] theorem Mach.wr_free (m : Mach) (k v : Nat) : (m.wr k v).free = m.free := rfl
@[simp] theorem Mach.wr_out (m : Mach) (k v : Nat) : (m.wr k v).out = m.out := rfl
@[simp] theorem Mach.wr_held (m : Mach) (k v : Nat) : (m.wr k v).held = m.held := rfl
@[simp] theorem Mach.wr_now (m : Mach) (k v : Nat) : (m.wr k v).now = m.now := rfl
@[simp] theorem Mach.wr_col (m : Mach) (k v : Nat) : (m.wr k v).col = m.col := rfl
@[simp] theorem Mach.wr_counters (m : Mach) (k v : Nat) : (m.wr k v).counters = m.counters := rfl
@[simp] theorem Mach.wr_mgmt (m : Mach) (k v : Nat) : (m.wr k v).mgmt = m.mgmt := rfl
@[simp] theorem Mach.wr_flash (m : Mach) (k v : Nat) : (m.wr k v).flash = m.flash := rfl
@[simp] theorem Mach.wr_power (m : Mach) (k v : Nat) : (m.wr k v).power = m.power := rfl
@[simp] theorem Mach.wr_edge (m : Mach) (k v : Nat) : (m.wr k v).edge = m.edge := rfl
@[simp] theorem Mach.wr_lanes (m : Mach) (k v : Nat) : (m.wr k v).lanes = m.lanes := rfl
@[simp] theorem Mach.wr_protect (m : Mach) (k v : Nat) : (m.wr k v).protect = m.protect := rfl
@[simp] theorem Mach.wr_traffic (m : Mach) (k v : Nat) : (m.wr k v).traffic = m.traffic := rfl
@[simp] theorem Mach.wr_core (m : Mach) (k v : Nat) : (m.wr k v).core = m.core := rfl
@[simp] theorem Mach.wr_seams (m : Mach) (k v : Nat) : (m.wr k v).seams = m.seams := rfl
@[simp] theorem Mach.wr_coh (m : Mach) (k v : Nat) : (m.wr k v).coh = m.coh := rfl
@[simp] theorem Mach.wr_noc (m : Mach) (k v : Nat) : (m.wr k v).noc = m.noc := rfl
@[simp] theorem Mach.wr_chans (m : Mach) (k v : Nat) : (m.wr k v).chans = m.chans := rfl
@[simp] theorem Mach.wr_answers (m : Mach) (k v : Nat) : (m.wr k v).answers = m.answers := rfl
@[simp] theorem Mach.wr_twin (m : Mach) (k v : Nat) : (m.wr k v).twin = m.twin := rfl
@[simp] theorem Mach.wr_slots (m : Mach) (k v : Nat) : (m.wr k v).slots = m.slots := rfl
@[simp] theorem Mach.wr_word (m : Mach) (k v : Nat) (x y : Nat) : (m.wr k v).word x y = m.word x y := rfl

@[simp] theorem Mach.emit_pb (m : Mach) (o : Out) : (m.emit o).pb = m.pb := rfl
@[simp] theorem Mach.emit_ram (m : Mach) (o : Out) : (m.emit o).ram = m.ram := rfl
@[simp] theorem Mach.emit_free (m : Mach) (o : Out) : (m.emit o).free = m.free := rfl
@[simp] theorem Mach.emit_held (m : Mach) (o : Out) : (m.emit o).held = m.held := rfl
@[simp] theorem Mach.emit_now (m : Mach) (o : Out) : (m.emit o).now = m.now := rfl
@[simp] theorem Mach.emit_col (m : Mach) (o : Out) : (m.emit o).col = m.col := rfl
@[simp] theorem Mach.emit_counters (m : Mach) (o : Out) : (m.emit o).counters = m.counters := rfl
@[simp] theorem Mach.emit_mgmt (m : Mach) (o : Out) : (m.emit o).mgmt = m.mgmt := rfl
@[simp] theorem Mach.emit_flash (m : Mach) (o : Out) : (m.emit o).flash = m.flash := rfl
@[simp] theorem Mach.emit_power (m : Mach) (o : Out) : (m.emit o).power = m.power := rfl
@[simp] theorem Mach.emit_edge (m : Mach) (o : Out) : (m.emit o).edge = m.edge := rfl
@[simp] theorem Mach.emit_lanes (m : Mach) (o : Out) : (m.emit o).lanes = m.lanes := rfl
@[simp] theorem Mach.emit_protect (m : Mach) (o : Out) : (m.emit o).protect = m.protect := rfl
@[simp] theorem Mach.emit_traffic (m : Mach) (o : Out) : (m.emit o).traffic = m.traffic := rfl
@[simp] theorem Mach.emit_core (m : Mach) (o : Out) : (m.emit o).core = m.core := rfl
@[simp] theorem Mach.emit_seams (m : Mach) (o : Out) : (m.emit o).seams = m.seams := rfl
@[simp] theorem Mach.emit_coh (m : Mach) (o : Out) : (m.emit o).coh = m.coh := rfl
@[simp] theorem Mach.emit_noc (m : Mach) (o : Out) : (m.emit o).noc = m.noc := rfl
@[simp] theorem Mach.emit_chans (m : Mach) (o : Out) : (m.emit o).chans = m.chans := rfl
@[simp] theorem Mach.emit_answers (m : Mach) (o : Out) : (m.emit o).answers = m.answers := rfl
@[simp] theorem Mach.emit_twin (m : Mach) (o : Out) : (m.emit o).twin = m.twin := rfl
@[simp] theorem Mach.emit_slots (m : Mach) (o : Out) : (m.emit o).slots = m.slots := rfl
@[simp] theorem Mach.emit_rd (m : Mach) (o : Out) (x : Nat) : (m.emit o).rd x = m.rd x := rfl
@[simp] theorem Mach.emit_word (m : Mach) (o : Out) (x y : Nat) : (m.emit o).word x y = m.word x y := rfl

@[simp] theorem Mach.count_pb (m : Mach) (e s n : Nat) : (m.count e s n).pb = m.pb := rfl
@[simp] theorem Mach.count_ram (m : Mach) (e s n : Nat) : (m.count e s n).ram = m.ram := rfl
@[simp] theorem Mach.count_free (m : Mach) (e s n : Nat) : (m.count e s n).free = m.free := rfl
@[simp] theorem Mach.count_out (m : Mach) (e s n : Nat) : (m.count e s n).out = m.out := rfl
@[simp] theorem Mach.count_held (m : Mach) (e s n : Nat) : (m.count e s n).held = m.held := rfl
@[simp] theorem Mach.count_col (m : Mach) (e s n : Nat) : (m.count e s n).col = m.col := rfl
@[simp] theorem Mach.count_counters (m : Mach) (e s n : Nat) : (m.count e s n).counters = m.counters := rfl
@[simp] theorem Mach.count_mgmt (m : Mach) (e s n : Nat) : (m.count e s n).mgmt = m.mgmt := rfl
@[simp] theorem Mach.count_flash (m : Mach) (e s n : Nat) : (m.count e s n).flash = m.flash := rfl
@[simp] theorem Mach.count_power (m : Mach) (e s n : Nat) : (m.count e s n).power = m.power := rfl
@[simp] theorem Mach.count_edge (m : Mach) (e s n : Nat) : (m.count e s n).edge = m.edge := rfl
@[simp] theorem Mach.count_lanes (m : Mach) (e s n : Nat) : (m.count e s n).lanes = m.lanes := rfl
@[simp] theorem Mach.count_protect (m : Mach) (e s n : Nat) : (m.count e s n).protect = m.protect := rfl
@[simp] theorem Mach.count_traffic (m : Mach) (e s n : Nat) : (m.count e s n).traffic = m.traffic := rfl
@[simp] theorem Mach.count_core (m : Mach) (e s n : Nat) : (m.count e s n).core = m.core := rfl
@[simp] theorem Mach.count_seams (m : Mach) (e s n : Nat) : (m.count e s n).seams = m.seams := rfl
@[simp] theorem Mach.count_coh (m : Mach) (e s n : Nat) : (m.count e s n).coh = m.coh := rfl
@[simp] theorem Mach.count_noc (m : Mach) (e s n : Nat) : (m.count e s n).noc = m.noc := rfl
@[simp] theorem Mach.count_chans (m : Mach) (e s n : Nat) : (m.count e s n).chans = m.chans := rfl
@[simp] theorem Mach.count_answers (m : Mach) (e s n : Nat) : (m.count e s n).answers = m.answers := rfl
@[simp] theorem Mach.count_twin (m : Mach) (e s n : Nat) : (m.count e s n).twin = m.twin := rfl
@[simp] theorem Mach.count_slots (m : Mach) (e s n : Nat) : (m.count e s n).slots = m.slots := rfl
@[simp] theorem Mach.count_rd (m : Mach) (e s n : Nat) (x : Nat) : (m.count e s n).rd x = m.rd x := rfl
@[simp] theorem Mach.count_word (m : Mach) (e s n : Nat) (x y : Nat) : (m.count e s n).word x y = m.word x y := rfl

@[simp] theorem Mach.putWord_pb (m : Mach) (k w v : Nat) : (m.putWord k w v).pb = m.pb := rfl
@[simp] theorem Mach.putWord_free (m : Mach) (k w v : Nat) : (m.putWord k w v).free = m.free := rfl
@[simp] theorem Mach.putWord_out (m : Mach) (k w v : Nat) : (m.putWord k w v).out = m.out := rfl
@[simp] theorem Mach.putWord_held (m : Mach) (k w v : Nat) : (m.putWord k w v).held = m.held := rfl
@[simp] theorem Mach.putWord_now (m : Mach) (k w v : Nat) : (m.putWord k w v).now = m.now := rfl
@[simp] theorem Mach.putWord_col (m : Mach) (k w v : Nat) : (m.putWord k w v).col = m.col := rfl
@[simp] theorem Mach.putWord_counters (m : Mach) (k w v : Nat) : (m.putWord k w v).counters = m.counters := rfl
@[simp] theorem Mach.putWord_mgmt (m : Mach) (k w v : Nat) : (m.putWord k w v).mgmt = m.mgmt := rfl
@[simp] theorem Mach.putWord_flash (m : Mach) (k w v : Nat) : (m.putWord k w v).flash = m.flash := rfl
@[simp] theorem Mach.putWord_power (m : Mach) (k w v : Nat) : (m.putWord k w v).power = m.power := rfl
@[simp] theorem Mach.putWord_edge (m : Mach) (k w v : Nat) : (m.putWord k w v).edge = m.edge := rfl
@[simp] theorem Mach.putWord_lanes (m : Mach) (k w v : Nat) : (m.putWord k w v).lanes = m.lanes := rfl
@[simp] theorem Mach.putWord_protect (m : Mach) (k w v : Nat) : (m.putWord k w v).protect = m.protect := rfl
@[simp] theorem Mach.putWord_traffic (m : Mach) (k w v : Nat) : (m.putWord k w v).traffic = m.traffic := rfl
@[simp] theorem Mach.putWord_core (m : Mach) (k w v : Nat) : (m.putWord k w v).core = m.core := rfl
@[simp] theorem Mach.putWord_seams (m : Mach) (k w v : Nat) : (m.putWord k w v).seams = m.seams := rfl
@[simp] theorem Mach.putWord_coh (m : Mach) (k w v : Nat) : (m.putWord k w v).coh = m.coh := rfl
@[simp] theorem Mach.putWord_noc (m : Mach) (k w v : Nat) : (m.putWord k w v).noc = m.noc := rfl
@[simp] theorem Mach.putWord_chans (m : Mach) (k w v : Nat) : (m.putWord k w v).chans = m.chans := rfl
@[simp] theorem Mach.putWord_answers (m : Mach) (k w v : Nat) : (m.putWord k w v).answers = m.answers := rfl
@[simp] theorem Mach.putWord_twin (m : Mach) (k w v : Nat) : (m.putWord k w v).twin = m.twin := rfl
@[simp] theorem Mach.putWord_slots (m : Mach) (k w v : Nat) : (m.putWord k w v).slots = m.slots := rfl
@[simp] theorem Mach.putWord_rd (m : Mach) (k w v : Nat) (x : Nat) : (m.putWord k w v).rd x = m.rd x := rfl

@[simp] theorem Mach.putBit_ram (m : Mach) (k n : Nat) (b : Bool) : (m.putBit k n b).ram = m.ram := rfl
@[simp] theorem Mach.putBit_free (m : Mach) (k n : Nat) (b : Bool) : (m.putBit k n b).free = m.free := rfl
@[simp] theorem Mach.putBit_out (m : Mach) (k n : Nat) (b : Bool) : (m.putBit k n b).out = m.out := rfl
@[simp] theorem Mach.putBit_held (m : Mach) (k n : Nat) (b : Bool) : (m.putBit k n b).held = m.held := rfl
@[simp] theorem Mach.putBit_now (m : Mach) (k n : Nat) (b : Bool) : (m.putBit k n b).now = m.now := rfl
@[simp] theorem Mach.putBit_col (m : Mach) (k n : Nat) (b : Bool) : (m.putBit k n b).col = m.col := rfl
@[simp] theorem Mach.putBit_counters (m : Mach) (k n : Nat) (b : Bool) : (m.putBit k n b).counters = m.counters := rfl
@[simp] theorem Mach.putBit_mgmt (m : Mach) (k n : Nat) (b : Bool) : (m.putBit k n b).mgmt = m.mgmt := rfl
@[simp] theorem Mach.putBit_flash (m : Mach) (k n : Nat) (b : Bool) : (m.putBit k n b).flash = m.flash := rfl
@[simp] theorem Mach.putBit_power (m : Mach) (k n : Nat) (b : Bool) : (m.putBit k n b).power = m.power := rfl
@[simp] theorem Mach.putBit_edge (m : Mach) (k n : Nat) (b : Bool) : (m.putBit k n b).edge = m.edge := rfl
@[simp] theorem Mach.putBit_lanes (m : Mach) (k n : Nat) (b : Bool) : (m.putBit k n b).lanes = m.lanes := rfl
@[simp] theorem Mach.putBit_protect (m : Mach) (k n : Nat) (b : Bool) : (m.putBit k n b).protect = m.protect := rfl
@[simp] theorem Mach.putBit_traffic (m : Mach) (k n : Nat) (b : Bool) : (m.putBit k n b).traffic = m.traffic := rfl
@[simp] theorem Mach.putBit_core (m : Mach) (k n : Nat) (b : Bool) : (m.putBit k n b).core = m.core := rfl
@[simp] theorem Mach.putBit_seams (m : Mach) (k n : Nat) (b : Bool) : (m.putBit k n b).seams = m.seams := rfl
@[simp] theorem Mach.putBit_coh (m : Mach) (k n : Nat) (b : Bool) : (m.putBit k n b).coh = m.coh := rfl
@[simp] theorem Mach.putBit_noc (m : Mach) (k n : Nat) (b : Bool) : (m.putBit k n b).noc = m.noc := rfl
@[simp] theorem Mach.putBit_chans (m : Mach) (k n : Nat) (b : Bool) : (m.putBit k n b).chans = m.chans := rfl
@[simp] theorem Mach.putBit_answers (m : Mach) (k n : Nat) (b : Bool) : (m.putBit k n b).answers = m.answers := rfl
@[simp] theorem Mach.putBit_twin (m : Mach) (k n : Nat) (b : Bool) : (m.putBit k n b).twin = m.twin := rfl
@[simp] theorem Mach.putBit_slots (m : Mach) (k n : Nat) (b : Bool) : (m.putBit k n b).slots = m.slots := rfl
@[simp] theorem Mach.putBit_word (m : Mach) (k n : Nat) (b : Bool) (x y : Nat) : (m.putBit k n b).word x y = m.word x y := rfl

@[simp] theorem Mach.bumpWrap_ram (m : Mach) (k n : Nat) : (m.bumpWrap k n).ram = m.ram := rfl
@[simp] theorem Mach.bumpWrap_free (m : Mach) (k n : Nat) : (m.bumpWrap k n).free = m.free := rfl
@[simp] theorem Mach.bumpWrap_out (m : Mach) (k n : Nat) : (m.bumpWrap k n).out = m.out := rfl
@[simp] theorem Mach.bumpWrap_held (m : Mach) (k n : Nat) : (m.bumpWrap k n).held = m.held := rfl
@[simp] theorem Mach.bumpWrap_now (m : Mach) (k n : Nat) : (m.bumpWrap k n).now = m.now := rfl
@[simp] theorem Mach.bumpWrap_col (m : Mach) (k n : Nat) : (m.bumpWrap k n).col = m.col := rfl
@[simp] theorem Mach.bumpWrap_counters (m : Mach) (k n : Nat) : (m.bumpWrap k n).counters = m.counters := rfl
@[simp] theorem Mach.bumpWrap_mgmt (m : Mach) (k n : Nat) : (m.bumpWrap k n).mgmt = m.mgmt := rfl
@[simp] theorem Mach.bumpWrap_flash (m : Mach) (k n : Nat) : (m.bumpWrap k n).flash = m.flash := rfl
@[simp] theorem Mach.bumpWrap_power (m : Mach) (k n : Nat) : (m.bumpWrap k n).power = m.power := rfl
@[simp] theorem Mach.bumpWrap_edge (m : Mach) (k n : Nat) : (m.bumpWrap k n).edge = m.edge := rfl
@[simp] theorem Mach.bumpWrap_lanes (m : Mach) (k n : Nat) : (m.bumpWrap k n).lanes = m.lanes := rfl
@[simp] theorem Mach.bumpWrap_protect (m : Mach) (k n : Nat) : (m.bumpWrap k n).protect = m.protect := rfl
@[simp] theorem Mach.bumpWrap_traffic (m : Mach) (k n : Nat) : (m.bumpWrap k n).traffic = m.traffic := rfl
@[simp] theorem Mach.bumpWrap_core (m : Mach) (k n : Nat) : (m.bumpWrap k n).core = m.core := rfl
@[simp] theorem Mach.bumpWrap_seams (m : Mach) (k n : Nat) : (m.bumpWrap k n).seams = m.seams := rfl
@[simp] theorem Mach.bumpWrap_coh (m : Mach) (k n : Nat) : (m.bumpWrap k n).coh = m.coh := rfl
@[simp] theorem Mach.bumpWrap_noc (m : Mach) (k n : Nat) : (m.bumpWrap k n).noc = m.noc := rfl
@[simp] theorem Mach.bumpWrap_chans (m : Mach) (k n : Nat) : (m.bumpWrap k n).chans = m.chans := rfl
@[simp] theorem Mach.bumpWrap_answers (m : Mach) (k n : Nat) : (m.bumpWrap k n).answers = m.answers := rfl
@[simp] theorem Mach.bumpWrap_twin (m : Mach) (k n : Nat) : (m.bumpWrap k n).twin = m.twin := rfl
@[simp] theorem Mach.bumpWrap_slots (m : Mach) (k n : Nat) : (m.bumpWrap k n).slots = m.slots := rfl
@[simp] theorem Mach.bumpWrap_word (m : Mach) (k n : Nat) (x y : Nat) : (m.bumpWrap k n).word x y = m.word x y := rfl

@[simp] theorem Mach.updPort_pb (m : Mach) (p : Nat) (f : PortSt → PortSt) : (m.updPort p f).pb = m.pb := rfl
@[simp] theorem Mach.updPort_ram (m : Mach) (p : Nat) (f : PortSt → PortSt) : (m.updPort p f).ram = m.ram := rfl
@[simp] theorem Mach.updPort_free (m : Mach) (p : Nat) (f : PortSt → PortSt) : (m.updPort p f).free = m.free := rfl
@[simp] theorem Mach.updPort_out (m : Mach) (p : Nat) (f : PortSt → PortSt) : (m.updPort p f).out = m.out := rfl
@[simp] theorem Mach.updPort_held (m : Mach) (p : Nat) (f : PortSt → PortSt) : (m.updPort p f).held = m.held := rfl
@[simp] theorem Mach.updPort_now (m : Mach) (p : Nat) (f : PortSt → PortSt) : (m.updPort p f).now = m.now := rfl
@[simp] theorem Mach.updPort_col (m : Mach) (p : Nat) (f : PortSt → PortSt) : (m.updPort p f).col = m.col := rfl
@[simp] theorem Mach.updPort_counters (m : Mach) (p : Nat) (f : PortSt → PortSt) : (m.updPort p f).counters = m.counters := rfl
@[simp] theorem Mach.updPort_mgmt (m : Mach) (p : Nat) (f : PortSt → PortSt) : (m.updPort p f).mgmt = m.mgmt := rfl
@[simp] theorem Mach.updPort_flash (m : Mach) (p : Nat) (f : PortSt → PortSt) : (m.updPort p f).flash = m.flash := rfl
@[simp] theorem Mach.updPort_power (m : Mach) (p : Nat) (f : PortSt → PortSt) : (m.updPort p f).power = m.power := rfl
@[simp] theorem Mach.updPort_lanes (m : Mach) (p : Nat) (f : PortSt → PortSt) : (m.updPort p f).lanes = m.lanes := rfl
@[simp] theorem Mach.updPort_protect (m : Mach) (p : Nat) (f : PortSt → PortSt) : (m.updPort p f).protect = m.protect := rfl
@[simp] theorem Mach.updPort_traffic (m : Mach) (p : Nat) (f : PortSt → PortSt) : (m.updPort p f).traffic = m.traffic := rfl
@[simp] theorem Mach.updPort_core (m : Mach) (p : Nat) (f : PortSt → PortSt) : (m.updPort p f).core = m.core := rfl
@[simp] theorem Mach.updPort_seams (m : Mach) (p : Nat) (f : PortSt → PortSt) : (m.updPort p f).seams = m.seams := rfl
@[simp] theorem Mach.updPort_coh (m : Mach) (p : Nat) (f : PortSt → PortSt) : (m.updPort p f).coh = m.coh := rfl
@[simp] theorem Mach.updPort_noc (m : Mach) (p : Nat) (f : PortSt → PortSt) : (m.updPort p f).noc = m.noc := rfl
@[simp] theorem Mach.updPort_chans (m : Mach) (p : Nat) (f : PortSt → PortSt) : (m.updPort p f).chans = m.chans := rfl
@[simp] theorem Mach.updPort_answers (m : Mach) (p : Nat) (f : PortSt → PortSt) : (m.updPort p f).answers = m.answers := rfl
@[simp] theorem Mach.updPort_twin (m : Mach) (p : Nat) (f : PortSt → PortSt) : (m.updPort p f).twin = m.twin := rfl
@[simp] theorem Mach.updPort_slots (m : Mach) (p : Nat) (f : PortSt → PortSt) : (m.updPort p f).slots = m.slots := rfl
@[simp] theorem Mach.updPort_rd (m : Mach) (p : Nat) (f : PortSt → PortSt) (x : Nat) : (m.updPort p f).rd x = m.rd x := rfl
@[simp] theorem Mach.updPort_word (m : Mach) (p : Nat) (f : PortSt → PortSt) (x y : Nat) : (m.updPort p f).word x y = m.word x y := rfl

@[simp] theorem Mach.putSem_pb (m : Mach) (k : Nat) (v : Sem) : (m.putSem k v).pb = m.pb := rfl
@[simp] theorem Mach.putSem_ram (m : Mach) (k : Nat) (v : Sem) : (m.putSem k v).ram = m.ram := rfl
@[simp] theorem Mach.putSem_free (m : Mach) (k : Nat) (v : Sem) : (m.putSem k v).free = m.free := rfl
@[simp] theorem Mach.putSem_out (m : Mach) (k : Nat) (v : Sem) : (m.putSem k v).out = m.out := rfl
@[simp] theorem Mach.putSem_held (m : Mach) (k : Nat) (v : Sem) : (m.putSem k v).held = m.held := rfl
@[simp] theorem Mach.putSem_now (m : Mach) (k : Nat) (v : Sem) : (m.putSem k v).now = m.now := rfl
@[simp] theorem Mach.putSem_col (m : Mach) (k : Nat) (v : Sem) : (m.putSem k v).col = m.col := rfl
@[simp] theorem Mach.putSem_counters (m : Mach) (k : Nat) (v : Sem) : (m.putSem k v).counters = m.counters := rfl
@[simp] theorem Mach.putSem_mgmt (m : Mach) (k : Nat) (v : Sem) : (m.putSem k v).mgmt = m.mgmt := rfl
@[simp] theorem Mach.putSem_flash (m : Mach) (k : Nat) (v : Sem) : (m.putSem k v).flash = m.flash := rfl
@[simp] theorem Mach.putSem_power (m : Mach) (k : Nat) (v : Sem) : (m.putSem k v).power = m.power := rfl
@[simp] theorem Mach.putSem_lanes (m : Mach) (k : Nat) (v : Sem) : (m.putSem k v).lanes = m.lanes := rfl
@[simp] theorem Mach.putSem_protect (m : Mach) (k : Nat) (v : Sem) : (m.putSem k v).protect = m.protect := rfl
@[simp] theorem Mach.putSem_traffic (m : Mach) (k : Nat) (v : Sem) : (m.putSem k v).traffic = m.traffic := rfl
@[simp] theorem Mach.putSem_core (m : Mach) (k : Nat) (v : Sem) : (m.putSem k v).core = m.core := rfl
@[simp] theorem Mach.putSem_seams (m : Mach) (k : Nat) (v : Sem) : (m.putSem k v).seams = m.seams := rfl
@[simp] theorem Mach.putSem_coh (m : Mach) (k : Nat) (v : Sem) : (m.putSem k v).coh = m.coh := rfl
@[simp] theorem Mach.putSem_noc (m : Mach) (k : Nat) (v : Sem) : (m.putSem k v).noc = m.noc := rfl
@[simp] theorem Mach.putSem_chans (m : Mach) (k : Nat) (v : Sem) : (m.putSem k v).chans = m.chans := rfl
@[simp] theorem Mach.putSem_answers (m : Mach) (k : Nat) (v : Sem) : (m.putSem k v).answers = m.answers := rfl
@[simp] theorem Mach.putSem_twin (m : Mach) (k : Nat) (v : Sem) : (m.putSem k v).twin = m.twin := rfl
@[simp] theorem Mach.putSem_slots (m : Mach) (k : Nat) (v : Sem) : (m.putSem k v).slots = m.slots := rfl
@[simp] theorem Mach.putSem_rd (m : Mach) (k : Nat) (v : Sem) (x : Nat) : (m.putSem k v).rd x = m.rd x := rfl
@[simp] theorem Mach.putSem_word (m : Mach) (k : Nat) (v : Sem) (x y : Nat) : (m.putSem k v).word x y = m.word x y := rfl

@[simp] theorem Mach.updSrc_pb (m : Mach) (j : Nat) (f : SrcSt → SrcSt) : (m.updSrc j f).pb = m.pb := rfl
@[simp] theorem Mach.updSrc_ram (m : Mach) (j : Nat) (f : SrcSt → SrcSt) : (m.updSrc j f).ram = m.ram := rfl
@[simp] theorem Mach.updSrc_free (m : Mach) (j : Nat) (f : SrcSt → SrcSt) : (m.updSrc j f).free = m.free := rfl
@[simp] theorem Mach.updSrc_out (m : Mach) (j : Nat) (f : SrcSt → SrcSt) : (m.updSrc j f).out = m.out := rfl
@[simp] theorem Mach.updSrc_held (m : Mach) (j : Nat) (f : SrcSt → SrcSt) : (m.updSrc j f).held = m.held := rfl
@[simp] theorem Mach.updSrc_now (m : Mach) (j : Nat) (f : SrcSt → SrcSt) : (m.updSrc j f).now = m.now := rfl
@[simp] theorem Mach.updSrc_counters (m : Mach) (j : Nat) (f : SrcSt → SrcSt) : (m.updSrc j f).counters = m.counters := rfl
@[simp] theorem Mach.updSrc_mgmt (m : Mach) (j : Nat) (f : SrcSt → SrcSt) : (m.updSrc j f).mgmt = m.mgmt := rfl
@[simp] theorem Mach.updSrc_flash (m : Mach) (j : Nat) (f : SrcSt → SrcSt) : (m.updSrc j f).flash = m.flash := rfl
@[simp] theorem Mach.updSrc_power (m : Mach) (j : Nat) (f : SrcSt → SrcSt) : (m.updSrc j f).power = m.power := rfl
@[simp] theorem Mach.updSrc_edge (m : Mach) (j : Nat) (f : SrcSt → SrcSt) : (m.updSrc j f).edge = m.edge := rfl
@[simp] theorem Mach.updSrc_lanes (m : Mach) (j : Nat) (f : SrcSt → SrcSt) : (m.updSrc j f).lanes = m.lanes := rfl
@[simp] theorem Mach.updSrc_protect (m : Mach) (j : Nat) (f : SrcSt → SrcSt) : (m.updSrc j f).protect = m.protect := rfl
@[simp] theorem Mach.updSrc_traffic (m : Mach) (j : Nat) (f : SrcSt → SrcSt) : (m.updSrc j f).traffic = m.traffic := rfl
@[simp] theorem Mach.updSrc_core (m : Mach) (j : Nat) (f : SrcSt → SrcSt) : (m.updSrc j f).core = m.core := rfl
@[simp] theorem Mach.updSrc_seams (m : Mach) (j : Nat) (f : SrcSt → SrcSt) : (m.updSrc j f).seams = m.seams := rfl
@[simp] theorem Mach.updSrc_coh (m : Mach) (j : Nat) (f : SrcSt → SrcSt) : (m.updSrc j f).coh = m.coh := rfl
@[simp] theorem Mach.updSrc_noc (m : Mach) (j : Nat) (f : SrcSt → SrcSt) : (m.updSrc j f).noc = m.noc := rfl
@[simp] theorem Mach.updSrc_chans (m : Mach) (j : Nat) (f : SrcSt → SrcSt) : (m.updSrc j f).chans = m.chans := rfl
@[simp] theorem Mach.updSrc_answers (m : Mach) (j : Nat) (f : SrcSt → SrcSt) : (m.updSrc j f).answers = m.answers := rfl
@[simp] theorem Mach.updSrc_twin (m : Mach) (j : Nat) (f : SrcSt → SrcSt) : (m.updSrc j f).twin = m.twin := rfl
@[simp] theorem Mach.updSrc_slots (m : Mach) (j : Nat) (f : SrcSt → SrcSt) : (m.updSrc j f).slots = m.slots := rfl
@[simp] theorem Mach.updSrc_rd (m : Mach) (j : Nat) (f : SrcSt → SrcSt) (x : Nat) : (m.updSrc j f).rd x = m.rd x := rfl
@[simp] theorem Mach.updSrc_word (m : Mach) (j : Nat) (f : SrcSt → SrcSt) (x y : Nat) : (m.updSrc j f).word x y = m.word x y := rfl

@[simp] theorem Mach.putCtr_pb (m : Mach) (i v : Nat) : (m.putCtr i v).pb = m.pb := rfl
@[simp] theorem Mach.putCtr_ram (m : Mach) (i v : Nat) : (m.putCtr i v).ram = m.ram := rfl
@[simp] theorem Mach.putCtr_free (m : Mach) (i v : Nat) : (m.putCtr i v).free = m.free := rfl
@[simp] theorem Mach.putCtr_out (m : Mach) (i v : Nat) : (m.putCtr i v).out = m.out := rfl
@[simp] theorem Mach.putCtr_held (m : Mach) (i v : Nat) : (m.putCtr i v).held = m.held := rfl
@[simp] theorem Mach.putCtr_now (m : Mach) (i v : Nat) : (m.putCtr i v).now = m.now := rfl
@[simp] theorem Mach.putCtr_col (m : Mach) (i v : Nat) : (m.putCtr i v).col = m.col := rfl
@[simp] theorem Mach.putCtr_mgmt (m : Mach) (i v : Nat) : (m.putCtr i v).mgmt = m.mgmt := rfl
@[simp] theorem Mach.putCtr_flash (m : Mach) (i v : Nat) : (m.putCtr i v).flash = m.flash := rfl
@[simp] theorem Mach.putCtr_power (m : Mach) (i v : Nat) : (m.putCtr i v).power = m.power := rfl
@[simp] theorem Mach.putCtr_edge (m : Mach) (i v : Nat) : (m.putCtr i v).edge = m.edge := rfl
@[simp] theorem Mach.putCtr_lanes (m : Mach) (i v : Nat) : (m.putCtr i v).lanes = m.lanes := rfl
@[simp] theorem Mach.putCtr_protect (m : Mach) (i v : Nat) : (m.putCtr i v).protect = m.protect := rfl
@[simp] theorem Mach.putCtr_traffic (m : Mach) (i v : Nat) : (m.putCtr i v).traffic = m.traffic := rfl
@[simp] theorem Mach.putCtr_core (m : Mach) (i v : Nat) : (m.putCtr i v).core = m.core := rfl
@[simp] theorem Mach.putCtr_seams (m : Mach) (i v : Nat) : (m.putCtr i v).seams = m.seams := rfl
@[simp] theorem Mach.putCtr_coh (m : Mach) (i v : Nat) : (m.putCtr i v).coh = m.coh := rfl
@[simp] theorem Mach.putCtr_noc (m : Mach) (i v : Nat) : (m.putCtr i v).noc = m.noc := rfl
@[simp] theorem Mach.putCtr_chans (m : Mach) (i v : Nat) : (m.putCtr i v).chans = m.chans := rfl
@[simp] theorem Mach.putCtr_answers (m : Mach) (i v : Nat) : (m.putCtr i v).answers = m.answers := rfl
@[simp] theorem Mach.putCtr_twin (m : Mach) (i v : Nat) : (m.putCtr i v).twin = m.twin := rfl
@[simp] theorem Mach.putCtr_slots (m : Mach) (i v : Nat) : (m.putCtr i v).slots = m.slots := rfl
@[simp] theorem Mach.putCtr_rd (m : Mach) (i v : Nat) (x : Nat) : (m.putCtr i v).rd x = m.rd x := rfl
@[simp] theorem Mach.putCtr_word (m : Mach) (i v : Nat) (x y : Nat) : (m.putCtr i v).word x y = m.word x y := rfl

@[simp] theorem Mach.updMgmt_pb (m : Mach) (f : Mgmt → Mgmt) : (m.updMgmt f).pb = m.pb := rfl
@[simp] theorem Mach.updMgmt_ram (m : Mach) (f : Mgmt → Mgmt) : (m.updMgmt f).ram = m.ram := rfl
@[simp] theorem Mach.updMgmt_free (m : Mach) (f : Mgmt → Mgmt) : (m.updMgmt f).free = m.free := rfl
@[simp] theorem Mach.updMgmt_out (m : Mach) (f : Mgmt → Mgmt) : (m.updMgmt f).out = m.out := rfl
@[simp] theorem Mach.updMgmt_held (m : Mach) (f : Mgmt → Mgmt) : (m.updMgmt f).held = m.held := rfl
@[simp] theorem Mach.updMgmt_now (m : Mach) (f : Mgmt → Mgmt) : (m.updMgmt f).now = m.now := rfl
@[simp] theorem Mach.updMgmt_col (m : Mach) (f : Mgmt → Mgmt) : (m.updMgmt f).col = m.col := rfl
@[simp] theorem Mach.updMgmt_counters (m : Mach) (f : Mgmt → Mgmt) : (m.updMgmt f).counters = m.counters := rfl
@[simp] theorem Mach.updMgmt_flash (m : Mach) (f : Mgmt → Mgmt) : (m.updMgmt f).flash = m.flash := rfl
@[simp] theorem Mach.updMgmt_power (m : Mach) (f : Mgmt → Mgmt) : (m.updMgmt f).power = m.power := rfl
@[simp] theorem Mach.updMgmt_edge (m : Mach) (f : Mgmt → Mgmt) : (m.updMgmt f).edge = m.edge := rfl
@[simp] theorem Mach.updMgmt_lanes (m : Mach) (f : Mgmt → Mgmt) : (m.updMgmt f).lanes = m.lanes := rfl
@[simp] theorem Mach.updMgmt_protect (m : Mach) (f : Mgmt → Mgmt) : (m.updMgmt f).protect = m.protect := rfl
@[simp] theorem Mach.updMgmt_traffic (m : Mach) (f : Mgmt → Mgmt) : (m.updMgmt f).traffic = m.traffic := rfl
@[simp] theorem Mach.updMgmt_core (m : Mach) (f : Mgmt → Mgmt) : (m.updMgmt f).core = m.core := rfl
@[simp] theorem Mach.updMgmt_seams (m : Mach) (f : Mgmt → Mgmt) : (m.updMgmt f).seams = m.seams := rfl
@[simp] theorem Mach.updMgmt_coh (m : Mach) (f : Mgmt → Mgmt) : (m.updMgmt f).coh = m.coh := rfl
@[simp] theorem Mach.updMgmt_noc (m : Mach) (f : Mgmt → Mgmt) : (m.updMgmt f).noc = m.noc := rfl
@[simp] theorem Mach.updMgmt_chans (m : Mach) (f : Mgmt → Mgmt) : (m.updMgmt f).chans = m.chans := rfl
@[simp] theorem Mach.updMgmt_answers (m : Mach) (f : Mgmt → Mgmt) : (m.updMgmt f).answers = m.answers := rfl
@[simp] theorem Mach.updMgmt_twin (m : Mach) (f : Mgmt → Mgmt) : (m.updMgmt f).twin = m.twin := rfl
@[simp] theorem Mach.updMgmt_slots (m : Mach) (f : Mgmt → Mgmt) : (m.updMgmt f).slots = m.slots := rfl
@[simp] theorem Mach.updMgmt_rd (m : Mach) (f : Mgmt → Mgmt) (x : Nat) : (m.updMgmt f).rd x = m.rd x := rfl
@[simp] theorem Mach.updMgmt_word (m : Mach) (f : Mgmt → Mgmt) (x y : Nat) : (m.updMgmt f).word x y = m.word x y := rfl

@[simp] theorem Mach.updFlash_pb (m : Mach) (f : Flash → Flash) : (m.updFlash f).pb = m.pb := rfl
@[simp] theorem Mach.updFlash_ram (m : Mach) (f : Flash → Flash) : (m.updFlash f).ram = m.ram := rfl
@[simp] theorem Mach.updFlash_free (m : Mach) (f : Flash → Flash) : (m.updFlash f).free = m.free := rfl
@[simp] theorem Mach.updFlash_out (m : Mach) (f : Flash → Flash) : (m.updFlash f).out = m.out := rfl
@[simp] theorem Mach.updFlash_held (m : Mach) (f : Flash → Flash) : (m.updFlash f).held = m.held := rfl
@[simp] theorem Mach.updFlash_now (m : Mach) (f : Flash → Flash) : (m.updFlash f).now = m.now := rfl
@[simp] theorem Mach.updFlash_col (m : Mach) (f : Flash → Flash) : (m.updFlash f).col = m.col := rfl
@[simp] theorem Mach.updFlash_counters (m : Mach) (f : Flash → Flash) : (m.updFlash f).counters = m.counters := rfl
@[simp] theorem Mach.updFlash_mgmt (m : Mach) (f : Flash → Flash) : (m.updFlash f).mgmt = m.mgmt := rfl
@[simp] theorem Mach.updFlash_power (m : Mach) (f : Flash → Flash) : (m.updFlash f).power = m.power := rfl
@[simp] theorem Mach.updFlash_edge (m : Mach) (f : Flash → Flash) : (m.updFlash f).edge = m.edge := rfl
@[simp] theorem Mach.updFlash_lanes (m : Mach) (f : Flash → Flash) : (m.updFlash f).lanes = m.lanes := rfl
@[simp] theorem Mach.updFlash_protect (m : Mach) (f : Flash → Flash) : (m.updFlash f).protect = m.protect := rfl
@[simp] theorem Mach.updFlash_traffic (m : Mach) (f : Flash → Flash) : (m.updFlash f).traffic = m.traffic := rfl
@[simp] theorem Mach.updFlash_core (m : Mach) (f : Flash → Flash) : (m.updFlash f).core = m.core := rfl
@[simp] theorem Mach.updFlash_seams (m : Mach) (f : Flash → Flash) : (m.updFlash f).seams = m.seams := rfl
@[simp] theorem Mach.updFlash_coh (m : Mach) (f : Flash → Flash) : (m.updFlash f).coh = m.coh := rfl
@[simp] theorem Mach.updFlash_noc (m : Mach) (f : Flash → Flash) : (m.updFlash f).noc = m.noc := rfl
@[simp] theorem Mach.updFlash_chans (m : Mach) (f : Flash → Flash) : (m.updFlash f).chans = m.chans := rfl
@[simp] theorem Mach.updFlash_answers (m : Mach) (f : Flash → Flash) : (m.updFlash f).answers = m.answers := rfl
@[simp] theorem Mach.updFlash_twin (m : Mach) (f : Flash → Flash) : (m.updFlash f).twin = m.twin := rfl
@[simp] theorem Mach.updFlash_slots (m : Mach) (f : Flash → Flash) : (m.updFlash f).slots = m.slots := rfl
@[simp] theorem Mach.updFlash_rd (m : Mach) (f : Flash → Flash) (x : Nat) : (m.updFlash f).rd x = m.rd x := rfl
@[simp] theorem Mach.updFlash_word (m : Mach) (f : Flash → Flash) (x y : Nat) : (m.updFlash f).word x y = m.word x y := rfl

@[simp] theorem Mach.updSess_pb (m : Mach) (k : Nat) (f : SessSt → SessSt) : (m.updSess k f).pb = m.pb := rfl
@[simp] theorem Mach.updSess_ram (m : Mach) (k : Nat) (f : SessSt → SessSt) : (m.updSess k f).ram = m.ram := rfl
@[simp] theorem Mach.updSess_free (m : Mach) (k : Nat) (f : SessSt → SessSt) : (m.updSess k f).free = m.free := rfl
@[simp] theorem Mach.updSess_out (m : Mach) (k : Nat) (f : SessSt → SessSt) : (m.updSess k f).out = m.out := rfl
@[simp] theorem Mach.updSess_held (m : Mach) (k : Nat) (f : SessSt → SessSt) : (m.updSess k f).held = m.held := rfl
@[simp] theorem Mach.updSess_now (m : Mach) (k : Nat) (f : SessSt → SessSt) : (m.updSess k f).now = m.now := rfl
@[simp] theorem Mach.updSess_col (m : Mach) (k : Nat) (f : SessSt → SessSt) : (m.updSess k f).col = m.col := rfl
@[simp] theorem Mach.updSess_counters (m : Mach) (k : Nat) (f : SessSt → SessSt) : (m.updSess k f).counters = m.counters := rfl
@[simp] theorem Mach.updSess_flash (m : Mach) (k : Nat) (f : SessSt → SessSt) : (m.updSess k f).flash = m.flash := rfl
@[simp] theorem Mach.updSess_power (m : Mach) (k : Nat) (f : SessSt → SessSt) : (m.updSess k f).power = m.power := rfl
@[simp] theorem Mach.updSess_edge (m : Mach) (k : Nat) (f : SessSt → SessSt) : (m.updSess k f).edge = m.edge := rfl
@[simp] theorem Mach.updSess_lanes (m : Mach) (k : Nat) (f : SessSt → SessSt) : (m.updSess k f).lanes = m.lanes := rfl
@[simp] theorem Mach.updSess_protect (m : Mach) (k : Nat) (f : SessSt → SessSt) : (m.updSess k f).protect = m.protect := rfl
@[simp] theorem Mach.updSess_traffic (m : Mach) (k : Nat) (f : SessSt → SessSt) : (m.updSess k f).traffic = m.traffic := rfl
@[simp] theorem Mach.updSess_core (m : Mach) (k : Nat) (f : SessSt → SessSt) : (m.updSess k f).core = m.core := rfl
@[simp] theorem Mach.updSess_seams (m : Mach) (k : Nat) (f : SessSt → SessSt) : (m.updSess k f).seams = m.seams := rfl
@[simp] theorem Mach.updSess_coh (m : Mach) (k : Nat) (f : SessSt → SessSt) : (m.updSess k f).coh = m.coh := rfl
@[simp] theorem Mach.updSess_noc (m : Mach) (k : Nat) (f : SessSt → SessSt) : (m.updSess k f).noc = m.noc := rfl
@[simp] theorem Mach.updSess_chans (m : Mach) (k : Nat) (f : SessSt → SessSt) : (m.updSess k f).chans = m.chans := rfl
@[simp] theorem Mach.updSess_answers (m : Mach) (k : Nat) (f : SessSt → SessSt) : (m.updSess k f).answers = m.answers := rfl
@[simp] theorem Mach.updSess_twin (m : Mach) (k : Nat) (f : SessSt → SessSt) : (m.updSess k f).twin = m.twin := rfl
@[simp] theorem Mach.updSess_slots (m : Mach) (k : Nat) (f : SessSt → SessSt) : (m.updSess k f).slots = m.slots := rfl
@[simp] theorem Mach.updSess_rd (m : Mach) (k : Nat) (f : SessSt → SessSt) (x : Nat) : (m.updSess k f).rd x = m.rd x := rfl
@[simp] theorem Mach.updSess_word (m : Mach) (k : Nat) (f : SessSt → SessSt) (x y : Nat) : (m.updSess k f).word x y = m.word x y := rfl

@[simp] theorem Mach.updPower_pb (m : Mach) (f : Power → Power) : (m.updPower f).pb = m.pb := rfl
@[simp] theorem Mach.updPower_ram (m : Mach) (f : Power → Power) : (m.updPower f).ram = m.ram := rfl
@[simp] theorem Mach.updPower_free (m : Mach) (f : Power → Power) : (m.updPower f).free = m.free := rfl
@[simp] theorem Mach.updPower_out (m : Mach) (f : Power → Power) : (m.updPower f).out = m.out := rfl
@[simp] theorem Mach.updPower_held (m : Mach) (f : Power → Power) : (m.updPower f).held = m.held := rfl
@[simp] theorem Mach.updPower_now (m : Mach) (f : Power → Power) : (m.updPower f).now = m.now := rfl
@[simp] theorem Mach.updPower_col (m : Mach) (f : Power → Power) : (m.updPower f).col = m.col := rfl
@[simp] theorem Mach.updPower_counters (m : Mach) (f : Power → Power) : (m.updPower f).counters = m.counters := rfl
@[simp] theorem Mach.updPower_mgmt (m : Mach) (f : Power → Power) : (m.updPower f).mgmt = m.mgmt := rfl
@[simp] theorem Mach.updPower_flash (m : Mach) (f : Power → Power) : (m.updPower f).flash = m.flash := rfl
@[simp] theorem Mach.updPower_edge (m : Mach) (f : Power → Power) : (m.updPower f).edge = m.edge := rfl
@[simp] theorem Mach.updPower_lanes (m : Mach) (f : Power → Power) : (m.updPower f).lanes = m.lanes := rfl
@[simp] theorem Mach.updPower_protect (m : Mach) (f : Power → Power) : (m.updPower f).protect = m.protect := rfl
@[simp] theorem Mach.updPower_traffic (m : Mach) (f : Power → Power) : (m.updPower f).traffic = m.traffic := rfl
@[simp] theorem Mach.updPower_core (m : Mach) (f : Power → Power) : (m.updPower f).core = m.core := rfl
@[simp] theorem Mach.updPower_seams (m : Mach) (f : Power → Power) : (m.updPower f).seams = m.seams := rfl
@[simp] theorem Mach.updPower_coh (m : Mach) (f : Power → Power) : (m.updPower f).coh = m.coh := rfl
@[simp] theorem Mach.updPower_noc (m : Mach) (f : Power → Power) : (m.updPower f).noc = m.noc := rfl
@[simp] theorem Mach.updPower_chans (m : Mach) (f : Power → Power) : (m.updPower f).chans = m.chans := rfl
@[simp] theorem Mach.updPower_answers (m : Mach) (f : Power → Power) : (m.updPower f).answers = m.answers := rfl
@[simp] theorem Mach.updPower_twin (m : Mach) (f : Power → Power) : (m.updPower f).twin = m.twin := rfl
@[simp] theorem Mach.updPower_slots (m : Mach) (f : Power → Power) : (m.updPower f).slots = m.slots := rfl
@[simp] theorem Mach.updPower_rd (m : Mach) (f : Power → Power) (x : Nat) : (m.updPower f).rd x = m.rd x := rfl
@[simp] theorem Mach.updPower_word (m : Mach) (f : Power → Power) (x y : Nat) : (m.updPower f).word x y = m.word x y := rfl

@[simp] theorem Mach.updLane_pb (m : Mach) (n : Nat) (f : LaneSt → LaneSt) : (m.updLane n f).pb = m.pb := rfl
@[simp] theorem Mach.updLane_ram (m : Mach) (n : Nat) (f : LaneSt → LaneSt) : (m.updLane n f).ram = m.ram := rfl
@[simp] theorem Mach.updLane_free (m : Mach) (n : Nat) (f : LaneSt → LaneSt) : (m.updLane n f).free = m.free := rfl
@[simp] theorem Mach.updLane_out (m : Mach) (n : Nat) (f : LaneSt → LaneSt) : (m.updLane n f).out = m.out := rfl
@[simp] theorem Mach.updLane_held (m : Mach) (n : Nat) (f : LaneSt → LaneSt) : (m.updLane n f).held = m.held := rfl
@[simp] theorem Mach.updLane_now (m : Mach) (n : Nat) (f : LaneSt → LaneSt) : (m.updLane n f).now = m.now := rfl
@[simp] theorem Mach.updLane_col (m : Mach) (n : Nat) (f : LaneSt → LaneSt) : (m.updLane n f).col = m.col := rfl
@[simp] theorem Mach.updLane_counters (m : Mach) (n : Nat) (f : LaneSt → LaneSt) : (m.updLane n f).counters = m.counters := rfl
@[simp] theorem Mach.updLane_mgmt (m : Mach) (n : Nat) (f : LaneSt → LaneSt) : (m.updLane n f).mgmt = m.mgmt := rfl
@[simp] theorem Mach.updLane_flash (m : Mach) (n : Nat) (f : LaneSt → LaneSt) : (m.updLane n f).flash = m.flash := rfl
@[simp] theorem Mach.updLane_power (m : Mach) (n : Nat) (f : LaneSt → LaneSt) : (m.updLane n f).power = m.power := rfl
@[simp] theorem Mach.updLane_edge (m : Mach) (n : Nat) (f : LaneSt → LaneSt) : (m.updLane n f).edge = m.edge := rfl
@[simp] theorem Mach.updLane_protect (m : Mach) (n : Nat) (f : LaneSt → LaneSt) : (m.updLane n f).protect = m.protect := rfl
@[simp] theorem Mach.updLane_traffic (m : Mach) (n : Nat) (f : LaneSt → LaneSt) : (m.updLane n f).traffic = m.traffic := rfl
@[simp] theorem Mach.updLane_core (m : Mach) (n : Nat) (f : LaneSt → LaneSt) : (m.updLane n f).core = m.core := rfl
@[simp] theorem Mach.updLane_seams (m : Mach) (n : Nat) (f : LaneSt → LaneSt) : (m.updLane n f).seams = m.seams := rfl
@[simp] theorem Mach.updLane_coh (m : Mach) (n : Nat) (f : LaneSt → LaneSt) : (m.updLane n f).coh = m.coh := rfl
@[simp] theorem Mach.updLane_noc (m : Mach) (n : Nat) (f : LaneSt → LaneSt) : (m.updLane n f).noc = m.noc := rfl
@[simp] theorem Mach.updLane_chans (m : Mach) (n : Nat) (f : LaneSt → LaneSt) : (m.updLane n f).chans = m.chans := rfl
@[simp] theorem Mach.updLane_answers (m : Mach) (n : Nat) (f : LaneSt → LaneSt) : (m.updLane n f).answers = m.answers := rfl
@[simp] theorem Mach.updLane_twin (m : Mach) (n : Nat) (f : LaneSt → LaneSt) : (m.updLane n f).twin = m.twin := rfl
@[simp] theorem Mach.updLane_slots (m : Mach) (n : Nat) (f : LaneSt → LaneSt) : (m.updLane n f).slots = m.slots := rfl
@[simp] theorem Mach.updLane_rd (m : Mach) (n : Nat) (f : LaneSt → LaneSt) (x : Nat) : (m.updLane n f).rd x = m.rd x := rfl
@[simp] theorem Mach.updLane_word (m : Mach) (n : Nat) (f : LaneSt → LaneSt) (x y : Nat) : (m.updLane n f).word x y = m.word x y := rfl

@[simp] theorem Mach.updBlk_pb (m : Mach) (b : Nat) (f : BlkSt → BlkSt) : (m.updBlk b f).pb = m.pb := rfl
@[simp] theorem Mach.updBlk_ram (m : Mach) (b : Nat) (f : BlkSt → BlkSt) : (m.updBlk b f).ram = m.ram := rfl
@[simp] theorem Mach.updBlk_free (m : Mach) (b : Nat) (f : BlkSt → BlkSt) : (m.updBlk b f).free = m.free := rfl
@[simp] theorem Mach.updBlk_out (m : Mach) (b : Nat) (f : BlkSt → BlkSt) : (m.updBlk b f).out = m.out := rfl
@[simp] theorem Mach.updBlk_held (m : Mach) (b : Nat) (f : BlkSt → BlkSt) : (m.updBlk b f).held = m.held := rfl
@[simp] theorem Mach.updBlk_now (m : Mach) (b : Nat) (f : BlkSt → BlkSt) : (m.updBlk b f).now = m.now := rfl
@[simp] theorem Mach.updBlk_col (m : Mach) (b : Nat) (f : BlkSt → BlkSt) : (m.updBlk b f).col = m.col := rfl
@[simp] theorem Mach.updBlk_counters (m : Mach) (b : Nat) (f : BlkSt → BlkSt) : (m.updBlk b f).counters = m.counters := rfl
@[simp] theorem Mach.updBlk_mgmt (m : Mach) (b : Nat) (f : BlkSt → BlkSt) : (m.updBlk b f).mgmt = m.mgmt := rfl
@[simp] theorem Mach.updBlk_flash (m : Mach) (b : Nat) (f : BlkSt → BlkSt) : (m.updBlk b f).flash = m.flash := rfl
@[simp] theorem Mach.updBlk_power (m : Mach) (b : Nat) (f : BlkSt → BlkSt) : (m.updBlk b f).power = m.power := rfl
@[simp] theorem Mach.updBlk_edge (m : Mach) (b : Nat) (f : BlkSt → BlkSt) : (m.updBlk b f).edge = m.edge := rfl
@[simp] theorem Mach.updBlk_protect (m : Mach) (b : Nat) (f : BlkSt → BlkSt) : (m.updBlk b f).protect = m.protect := rfl
@[simp] theorem Mach.updBlk_traffic (m : Mach) (b : Nat) (f : BlkSt → BlkSt) : (m.updBlk b f).traffic = m.traffic := rfl
@[simp] theorem Mach.updBlk_core (m : Mach) (b : Nat) (f : BlkSt → BlkSt) : (m.updBlk b f).core = m.core := rfl
@[simp] theorem Mach.updBlk_seams (m : Mach) (b : Nat) (f : BlkSt → BlkSt) : (m.updBlk b f).seams = m.seams := rfl
@[simp] theorem Mach.updBlk_coh (m : Mach) (b : Nat) (f : BlkSt → BlkSt) : (m.updBlk b f).coh = m.coh := rfl
@[simp] theorem Mach.updBlk_noc (m : Mach) (b : Nat) (f : BlkSt → BlkSt) : (m.updBlk b f).noc = m.noc := rfl
@[simp] theorem Mach.updBlk_chans (m : Mach) (b : Nat) (f : BlkSt → BlkSt) : (m.updBlk b f).chans = m.chans := rfl
@[simp] theorem Mach.updBlk_answers (m : Mach) (b : Nat) (f : BlkSt → BlkSt) : (m.updBlk b f).answers = m.answers := rfl
@[simp] theorem Mach.updBlk_twin (m : Mach) (b : Nat) (f : BlkSt → BlkSt) : (m.updBlk b f).twin = m.twin := rfl
@[simp] theorem Mach.updBlk_slots (m : Mach) (b : Nat) (f : BlkSt → BlkSt) : (m.updBlk b f).slots = m.slots := rfl
@[simp] theorem Mach.updBlk_rd (m : Mach) (b : Nat) (f : BlkSt → BlkSt) (x : Nat) : (m.updBlk b f).rd x = m.rd x := rfl
@[simp] theorem Mach.updBlk_word (m : Mach) (b : Nat) (f : BlkSt → BlkSt) (x y : Nat) : (m.updBlk b f).word x y = m.word x y := rfl

@[simp] theorem Mach.updSeam_pb (m : Mach) (n : Nat) (f : SeamSt → SeamSt) : (m.updSeam n f).pb = m.pb := rfl
@[simp] theorem Mach.updSeam_ram (m : Mach) (n : Nat) (f : SeamSt → SeamSt) : (m.updSeam n f).ram = m.ram := rfl
@[simp] theorem Mach.updSeam_free (m : Mach) (n : Nat) (f : SeamSt → SeamSt) : (m.updSeam n f).free = m.free := rfl
@[simp] theorem Mach.updSeam_out (m : Mach) (n : Nat) (f : SeamSt → SeamSt) : (m.updSeam n f).out = m.out := rfl
@[simp] theorem Mach.updSeam_held (m : Mach) (n : Nat) (f : SeamSt → SeamSt) : (m.updSeam n f).held = m.held := rfl
@[simp] theorem Mach.updSeam_now (m : Mach) (n : Nat) (f : SeamSt → SeamSt) : (m.updSeam n f).now = m.now := rfl
@[simp] theorem Mach.updSeam_col (m : Mach) (n : Nat) (f : SeamSt → SeamSt) : (m.updSeam n f).col = m.col := rfl
@[simp] theorem Mach.updSeam_counters (m : Mach) (n : Nat) (f : SeamSt → SeamSt) : (m.updSeam n f).counters = m.counters := rfl
@[simp] theorem Mach.updSeam_mgmt (m : Mach) (n : Nat) (f : SeamSt → SeamSt) : (m.updSeam n f).mgmt = m.mgmt := rfl
@[simp] theorem Mach.updSeam_flash (m : Mach) (n : Nat) (f : SeamSt → SeamSt) : (m.updSeam n f).flash = m.flash := rfl
@[simp] theorem Mach.updSeam_power (m : Mach) (n : Nat) (f : SeamSt → SeamSt) : (m.updSeam n f).power = m.power := rfl
@[simp] theorem Mach.updSeam_edge (m : Mach) (n : Nat) (f : SeamSt → SeamSt) : (m.updSeam n f).edge = m.edge := rfl
@[simp] theorem Mach.updSeam_lanes (m : Mach) (n : Nat) (f : SeamSt → SeamSt) : (m.updSeam n f).lanes = m.lanes := rfl
@[simp] theorem Mach.updSeam_protect (m : Mach) (n : Nat) (f : SeamSt → SeamSt) : (m.updSeam n f).protect = m.protect := rfl
@[simp] theorem Mach.updSeam_traffic (m : Mach) (n : Nat) (f : SeamSt → SeamSt) : (m.updSeam n f).traffic = m.traffic := rfl
@[simp] theorem Mach.updSeam_core (m : Mach) (n : Nat) (f : SeamSt → SeamSt) : (m.updSeam n f).core = m.core := rfl
@[simp] theorem Mach.updSeam_coh (m : Mach) (n : Nat) (f : SeamSt → SeamSt) : (m.updSeam n f).coh = m.coh := rfl
@[simp] theorem Mach.updSeam_noc (m : Mach) (n : Nat) (f : SeamSt → SeamSt) : (m.updSeam n f).noc = m.noc := rfl
@[simp] theorem Mach.updSeam_chans (m : Mach) (n : Nat) (f : SeamSt → SeamSt) : (m.updSeam n f).chans = m.chans := rfl
@[simp] theorem Mach.updSeam_answers (m : Mach) (n : Nat) (f : SeamSt → SeamSt) : (m.updSeam n f).answers = m.answers := rfl
@[simp] theorem Mach.updSeam_twin (m : Mach) (n : Nat) (f : SeamSt → SeamSt) : (m.updSeam n f).twin = m.twin := rfl
@[simp] theorem Mach.updSeam_slots (m : Mach) (n : Nat) (f : SeamSt → SeamSt) : (m.updSeam n f).slots = m.slots := rfl
@[simp] theorem Mach.updSeam_rd (m : Mach) (n : Nat) (f : SeamSt → SeamSt) (x : Nat) : (m.updSeam n f).rd x = m.rd x := rfl
@[simp] theorem Mach.updSeam_word (m : Mach) (n : Nat) (f : SeamSt → SeamSt) (x y : Nat) : (m.updSeam n f).word x y = m.word x y := rfl

@[simp] theorem Mach.updTwin_pb (m : Mach) (f : TwinSt → TwinSt) : (m.updTwin f).pb = m.pb := rfl
@[simp] theorem Mach.updTwin_ram (m : Mach) (f : TwinSt → TwinSt) : (m.updTwin f).ram = m.ram := rfl
@[simp] theorem Mach.updTwin_free (m : Mach) (f : TwinSt → TwinSt) : (m.updTwin f).free = m.free := rfl
@[simp] theorem Mach.updTwin_out (m : Mach) (f : TwinSt → TwinSt) : (m.updTwin f).out = m.out := rfl
@[simp] theorem Mach.updTwin_held (m : Mach) (f : TwinSt → TwinSt) : (m.updTwin f).held = m.held := rfl
@[simp] theorem Mach.updTwin_now (m : Mach) (f : TwinSt → TwinSt) : (m.updTwin f).now = m.now := rfl
@[simp] theorem Mach.updTwin_col (m : Mach) (f : TwinSt → TwinSt) : (m.updTwin f).col = m.col := rfl
@[simp] theorem Mach.updTwin_counters (m : Mach) (f : TwinSt → TwinSt) : (m.updTwin f).counters = m.counters := rfl
@[simp] theorem Mach.updTwin_mgmt (m : Mach) (f : TwinSt → TwinSt) : (m.updTwin f).mgmt = m.mgmt := rfl
@[simp] theorem Mach.updTwin_flash (m : Mach) (f : TwinSt → TwinSt) : (m.updTwin f).flash = m.flash := rfl
@[simp] theorem Mach.updTwin_power (m : Mach) (f : TwinSt → TwinSt) : (m.updTwin f).power = m.power := rfl
@[simp] theorem Mach.updTwin_edge (m : Mach) (f : TwinSt → TwinSt) : (m.updTwin f).edge = m.edge := rfl
@[simp] theorem Mach.updTwin_lanes (m : Mach) (f : TwinSt → TwinSt) : (m.updTwin f).lanes = m.lanes := rfl
@[simp] theorem Mach.updTwin_protect (m : Mach) (f : TwinSt → TwinSt) : (m.updTwin f).protect = m.protect := rfl
@[simp] theorem Mach.updTwin_traffic (m : Mach) (f : TwinSt → TwinSt) : (m.updTwin f).traffic = m.traffic := rfl
@[simp] theorem Mach.updTwin_core (m : Mach) (f : TwinSt → TwinSt) : (m.updTwin f).core = m.core := rfl
@[simp] theorem Mach.updTwin_seams (m : Mach) (f : TwinSt → TwinSt) : (m.updTwin f).seams = m.seams := rfl
@[simp] theorem Mach.updTwin_coh (m : Mach) (f : TwinSt → TwinSt) : (m.updTwin f).coh = m.coh := rfl
@[simp] theorem Mach.updTwin_noc (m : Mach) (f : TwinSt → TwinSt) : (m.updTwin f).noc = m.noc := rfl
@[simp] theorem Mach.updTwin_chans (m : Mach) (f : TwinSt → TwinSt) : (m.updTwin f).chans = m.chans := rfl
@[simp] theorem Mach.updTwin_answers (m : Mach) (f : TwinSt → TwinSt) : (m.updTwin f).answers = m.answers := rfl
@[simp] theorem Mach.updTwin_slots (m : Mach) (f : TwinSt → TwinSt) : (m.updTwin f).slots = m.slots := rfl
@[simp] theorem Mach.updTwin_rd (m : Mach) (f : TwinSt → TwinSt) (x : Nat) : (m.updTwin f).rd x = m.rd x := rfl
@[simp] theorem Mach.updTwin_word (m : Mach) (f : TwinSt → TwinSt) (x y : Nat) : (m.updTwin f).word x y = m.word x y := rfl

@[simp] theorem Mach.updSlot_pb (m : Mach) (n : Nat) (f : SlotSt → SlotSt) : (m.updSlot n f).pb = m.pb := rfl
@[simp] theorem Mach.updSlot_ram (m : Mach) (n : Nat) (f : SlotSt → SlotSt) : (m.updSlot n f).ram = m.ram := rfl
@[simp] theorem Mach.updSlot_free (m : Mach) (n : Nat) (f : SlotSt → SlotSt) : (m.updSlot n f).free = m.free := rfl
@[simp] theorem Mach.updSlot_out (m : Mach) (n : Nat) (f : SlotSt → SlotSt) : (m.updSlot n f).out = m.out := rfl
@[simp] theorem Mach.updSlot_held (m : Mach) (n : Nat) (f : SlotSt → SlotSt) : (m.updSlot n f).held = m.held := rfl
@[simp] theorem Mach.updSlot_now (m : Mach) (n : Nat) (f : SlotSt → SlotSt) : (m.updSlot n f).now = m.now := rfl
@[simp] theorem Mach.updSlot_col (m : Mach) (n : Nat) (f : SlotSt → SlotSt) : (m.updSlot n f).col = m.col := rfl
@[simp] theorem Mach.updSlot_counters (m : Mach) (n : Nat) (f : SlotSt → SlotSt) : (m.updSlot n f).counters = m.counters := rfl
@[simp] theorem Mach.updSlot_mgmt (m : Mach) (n : Nat) (f : SlotSt → SlotSt) : (m.updSlot n f).mgmt = m.mgmt := rfl
@[simp] theorem Mach.updSlot_flash (m : Mach) (n : Nat) (f : SlotSt → SlotSt) : (m.updSlot n f).flash = m.flash := rfl
@[simp] theorem Mach.updSlot_power (m : Mach) (n : Nat) (f : SlotSt → SlotSt) : (m.updSlot n f).power = m.power := rfl
@[simp] theorem Mach.updSlot_edge (m : Mach) (n : Nat) (f : SlotSt → SlotSt) : (m.updSlot n f).edge = m.edge := rfl
@[simp] theorem Mach.updSlot_lanes (m : Mach) (n : Nat) (f : SlotSt → SlotSt) : (m.updSlot n f).lanes = m.lanes := rfl
@[simp] theorem Mach.updSlot_protect (m : Mach) (n : Nat) (f : SlotSt → SlotSt) : (m.updSlot n f).protect = m.protect := rfl
@[simp] theorem Mach.updSlot_traffic (m : Mach) (n : Nat) (f : SlotSt → SlotSt) : (m.updSlot n f).traffic = m.traffic := rfl
@[simp] theorem Mach.updSlot_core (m : Mach) (n : Nat) (f : SlotSt → SlotSt) : (m.updSlot n f).core = m.core := rfl
@[simp] theorem Mach.updSlot_seams (m : Mach) (n : Nat) (f : SlotSt → SlotSt) : (m.updSlot n f).seams = m.seams := rfl
@[simp] theorem Mach.updSlot_coh (m : Mach) (n : Nat) (f : SlotSt → SlotSt) : (m.updSlot n f).coh = m.coh := rfl
@[simp] theorem Mach.updSlot_noc (m : Mach) (n : Nat) (f : SlotSt → SlotSt) : (m.updSlot n f).noc = m.noc := rfl
@[simp] theorem Mach.updSlot_chans (m : Mach) (n : Nat) (f : SlotSt → SlotSt) : (m.updSlot n f).chans = m.chans := rfl
@[simp] theorem Mach.updSlot_answers (m : Mach) (n : Nat) (f : SlotSt → SlotSt) : (m.updSlot n f).answers = m.answers := rfl
@[simp] theorem Mach.updSlot_twin (m : Mach) (n : Nat) (f : SlotSt → SlotSt) : (m.updSlot n f).twin = m.twin := rfl
@[simp] theorem Mach.updSlot_rd (m : Mach) (n : Nat) (f : SlotSt → SlotSt) (x : Nat) : (m.updSlot n f).rd x = m.rd x := rfl
@[simp] theorem Mach.updSlot_word (m : Mach) (n : Nat) (f : SlotSt → SlotSt) (x y : Nat) : (m.updSlot n f).word x y = m.word x y := rfl

@[simp] theorem Mach.updCoh_pb (m : Mach) (f : Coh → Coh) : (m.updCoh f).pb = m.pb := rfl
@[simp] theorem Mach.updCoh_ram (m : Mach) (f : Coh → Coh) : (m.updCoh f).ram = m.ram := rfl
@[simp] theorem Mach.updCoh_free (m : Mach) (f : Coh → Coh) : (m.updCoh f).free = m.free := rfl
@[simp] theorem Mach.updCoh_out (m : Mach) (f : Coh → Coh) : (m.updCoh f).out = m.out := rfl
@[simp] theorem Mach.updCoh_held (m : Mach) (f : Coh → Coh) : (m.updCoh f).held = m.held := rfl
@[simp] theorem Mach.updCoh_now (m : Mach) (f : Coh → Coh) : (m.updCoh f).now = m.now := rfl
@[simp] theorem Mach.updCoh_col (m : Mach) (f : Coh → Coh) : (m.updCoh f).col = m.col := rfl
@[simp] theorem Mach.updCoh_counters (m : Mach) (f : Coh → Coh) : (m.updCoh f).counters = m.counters := rfl
@[simp] theorem Mach.updCoh_mgmt (m : Mach) (f : Coh → Coh) : (m.updCoh f).mgmt = m.mgmt := rfl
@[simp] theorem Mach.updCoh_flash (m : Mach) (f : Coh → Coh) : (m.updCoh f).flash = m.flash := rfl
@[simp] theorem Mach.updCoh_power (m : Mach) (f : Coh → Coh) : (m.updCoh f).power = m.power := rfl
@[simp] theorem Mach.updCoh_edge (m : Mach) (f : Coh → Coh) : (m.updCoh f).edge = m.edge := rfl
@[simp] theorem Mach.updCoh_lanes (m : Mach) (f : Coh → Coh) : (m.updCoh f).lanes = m.lanes := rfl
@[simp] theorem Mach.updCoh_protect (m : Mach) (f : Coh → Coh) : (m.updCoh f).protect = m.protect := rfl
@[simp] theorem Mach.updCoh_traffic (m : Mach) (f : Coh → Coh) : (m.updCoh f).traffic = m.traffic := rfl
@[simp] theorem Mach.updCoh_core (m : Mach) (f : Coh → Coh) : (m.updCoh f).core = m.core := rfl
@[simp] theorem Mach.updCoh_seams (m : Mach) (f : Coh → Coh) : (m.updCoh f).seams = m.seams := rfl
@[simp] theorem Mach.updCoh_noc (m : Mach) (f : Coh → Coh) : (m.updCoh f).noc = m.noc := rfl
@[simp] theorem Mach.updCoh_chans (m : Mach) (f : Coh → Coh) : (m.updCoh f).chans = m.chans := rfl
@[simp] theorem Mach.updCoh_answers (m : Mach) (f : Coh → Coh) : (m.updCoh f).answers = m.answers := rfl
@[simp] theorem Mach.updCoh_twin (m : Mach) (f : Coh → Coh) : (m.updCoh f).twin = m.twin := rfl
@[simp] theorem Mach.updCoh_slots (m : Mach) (f : Coh → Coh) : (m.updCoh f).slots = m.slots := rfl
@[simp] theorem Mach.updCoh_rd (m : Mach) (f : Coh → Coh) (x : Nat) : (m.updCoh f).rd x = m.rd x := rfl
@[simp] theorem Mach.updCoh_word (m : Mach) (f : Coh → Coh) (x y : Nat) : (m.updCoh f).word x y = m.word x y := rfl

@[simp] theorem Mach.updCore_pb (m : Mach) (f : Core → Core) : (m.updCore f).pb = m.pb := rfl
@[simp] theorem Mach.updCore_ram (m : Mach) (f : Core → Core) : (m.updCore f).ram = m.ram := rfl
@[simp] theorem Mach.updCore_free (m : Mach) (f : Core → Core) : (m.updCore f).free = m.free := rfl
@[simp] theorem Mach.updCore_out (m : Mach) (f : Core → Core) : (m.updCore f).out = m.out := rfl
@[simp] theorem Mach.updCore_held (m : Mach) (f : Core → Core) : (m.updCore f).held = m.held := rfl
@[simp] theorem Mach.updCore_now (m : Mach) (f : Core → Core) : (m.updCore f).now = m.now := rfl
@[simp] theorem Mach.updCore_col (m : Mach) (f : Core → Core) : (m.updCore f).col = m.col := rfl
@[simp] theorem Mach.updCore_counters (m : Mach) (f : Core → Core) : (m.updCore f).counters = m.counters := rfl
@[simp] theorem Mach.updCore_mgmt (m : Mach) (f : Core → Core) : (m.updCore f).mgmt = m.mgmt := rfl
@[simp] theorem Mach.updCore_flash (m : Mach) (f : Core → Core) : (m.updCore f).flash = m.flash := rfl
@[simp] theorem Mach.updCore_power (m : Mach) (f : Core → Core) : (m.updCore f).power = m.power := rfl
@[simp] theorem Mach.updCore_edge (m : Mach) (f : Core → Core) : (m.updCore f).edge = m.edge := rfl
@[simp] theorem Mach.updCore_lanes (m : Mach) (f : Core → Core) : (m.updCore f).lanes = m.lanes := rfl
@[simp] theorem Mach.updCore_protect (m : Mach) (f : Core → Core) : (m.updCore f).protect = m.protect := rfl
@[simp] theorem Mach.updCore_traffic (m : Mach) (f : Core → Core) : (m.updCore f).traffic = m.traffic := rfl
@[simp] theorem Mach.updCore_seams (m : Mach) (f : Core → Core) : (m.updCore f).seams = m.seams := rfl
@[simp] theorem Mach.updCore_coh (m : Mach) (f : Core → Core) : (m.updCore f).coh = m.coh := rfl
@[simp] theorem Mach.updCore_noc (m : Mach) (f : Core → Core) : (m.updCore f).noc = m.noc := rfl
@[simp] theorem Mach.updCore_chans (m : Mach) (f : Core → Core) : (m.updCore f).chans = m.chans := rfl
@[simp] theorem Mach.updCore_answers (m : Mach) (f : Core → Core) : (m.updCore f).answers = m.answers := rfl
@[simp] theorem Mach.updCore_twin (m : Mach) (f : Core → Core) : (m.updCore f).twin = m.twin := rfl
@[simp] theorem Mach.updCore_slots (m : Mach) (f : Core → Core) : (m.updCore f).slots = m.slots := rfl
@[simp] theorem Mach.updCore_rd (m : Mach) (f : Core → Core) (x : Nat) : (m.updCore f).rd x = m.rd x := rfl
@[simp] theorem Mach.updCore_word (m : Mach) (f : Core → Core) (x y : Nat) : (m.updCore f).word x y = m.word x y := rfl

@[simp] theorem Mach.updChan_pb (m : Mach) (c : Nat) (f : Channel → Channel) : (m.updChan c f).pb = m.pb := rfl
@[simp] theorem Mach.updChan_ram (m : Mach) (c : Nat) (f : Channel → Channel) : (m.updChan c f).ram = m.ram := rfl
@[simp] theorem Mach.updChan_free (m : Mach) (c : Nat) (f : Channel → Channel) : (m.updChan c f).free = m.free := rfl
@[simp] theorem Mach.updChan_out (m : Mach) (c : Nat) (f : Channel → Channel) : (m.updChan c f).out = m.out := rfl
@[simp] theorem Mach.updChan_held (m : Mach) (c : Nat) (f : Channel → Channel) : (m.updChan c f).held = m.held := rfl
@[simp] theorem Mach.updChan_now (m : Mach) (c : Nat) (f : Channel → Channel) : (m.updChan c f).now = m.now := rfl
@[simp] theorem Mach.updChan_col (m : Mach) (c : Nat) (f : Channel → Channel) : (m.updChan c f).col = m.col := rfl
@[simp] theorem Mach.updChan_counters (m : Mach) (c : Nat) (f : Channel → Channel) : (m.updChan c f).counters = m.counters := rfl
@[simp] theorem Mach.updChan_mgmt (m : Mach) (c : Nat) (f : Channel → Channel) : (m.updChan c f).mgmt = m.mgmt := rfl
@[simp] theorem Mach.updChan_flash (m : Mach) (c : Nat) (f : Channel → Channel) : (m.updChan c f).flash = m.flash := rfl
@[simp] theorem Mach.updChan_power (m : Mach) (c : Nat) (f : Channel → Channel) : (m.updChan c f).power = m.power := rfl
@[simp] theorem Mach.updChan_edge (m : Mach) (c : Nat) (f : Channel → Channel) : (m.updChan c f).edge = m.edge := rfl
@[simp] theorem Mach.updChan_lanes (m : Mach) (c : Nat) (f : Channel → Channel) : (m.updChan c f).lanes = m.lanes := rfl
@[simp] theorem Mach.updChan_protect (m : Mach) (c : Nat) (f : Channel → Channel) : (m.updChan c f).protect = m.protect := rfl
@[simp] theorem Mach.updChan_traffic (m : Mach) (c : Nat) (f : Channel → Channel) : (m.updChan c f).traffic = m.traffic := rfl
@[simp] theorem Mach.updChan_core (m : Mach) (c : Nat) (f : Channel → Channel) : (m.updChan c f).core = m.core := rfl
@[simp] theorem Mach.updChan_seams (m : Mach) (c : Nat) (f : Channel → Channel) : (m.updChan c f).seams = m.seams := rfl
@[simp] theorem Mach.updChan_coh (m : Mach) (c : Nat) (f : Channel → Channel) : (m.updChan c f).coh = m.coh := rfl
@[simp] theorem Mach.updChan_noc (m : Mach) (c : Nat) (f : Channel → Channel) : (m.updChan c f).noc = m.noc := rfl
@[simp] theorem Mach.updChan_answers (m : Mach) (c : Nat) (f : Channel → Channel) : (m.updChan c f).answers = m.answers := rfl
@[simp] theorem Mach.updChan_twin (m : Mach) (c : Nat) (f : Channel → Channel) : (m.updChan c f).twin = m.twin := rfl
@[simp] theorem Mach.updChan_slots (m : Mach) (c : Nat) (f : Channel → Channel) : (m.updChan c f).slots = m.slots := rfl
@[simp] theorem Mach.updChan_rd (m : Mach) (c : Nat) (f : Channel → Channel) (x : Nat) : (m.updChan c f).rd x = m.rd x := rfl
@[simp] theorem Mach.updChan_word (m : Mach) (c : Nat) (f : Channel → Channel) (x y : Nat) : (m.updChan c f).word x y = m.word x y := rfl

@[simp] theorem Mach.updGate_pb (m : Mach) (p : Nat) (f : GateSt → GateSt) : (m.updGate p f).pb = m.pb := rfl
@[simp] theorem Mach.updGate_ram (m : Mach) (p : Nat) (f : GateSt → GateSt) : (m.updGate p f).ram = m.ram := rfl
@[simp] theorem Mach.updGate_free (m : Mach) (p : Nat) (f : GateSt → GateSt) : (m.updGate p f).free = m.free := rfl
@[simp] theorem Mach.updGate_out (m : Mach) (p : Nat) (f : GateSt → GateSt) : (m.updGate p f).out = m.out := rfl
@[simp] theorem Mach.updGate_held (m : Mach) (p : Nat) (f : GateSt → GateSt) : (m.updGate p f).held = m.held := rfl
@[simp] theorem Mach.updGate_now (m : Mach) (p : Nat) (f : GateSt → GateSt) : (m.updGate p f).now = m.now := rfl
@[simp] theorem Mach.updGate_col (m : Mach) (p : Nat) (f : GateSt → GateSt) : (m.updGate p f).col = m.col := rfl
@[simp] theorem Mach.updGate_counters (m : Mach) (p : Nat) (f : GateSt → GateSt) : (m.updGate p f).counters = m.counters := rfl
@[simp] theorem Mach.updGate_mgmt (m : Mach) (p : Nat) (f : GateSt → GateSt) : (m.updGate p f).mgmt = m.mgmt := rfl
@[simp] theorem Mach.updGate_flash (m : Mach) (p : Nat) (f : GateSt → GateSt) : (m.updGate p f).flash = m.flash := rfl
@[simp] theorem Mach.updGate_power (m : Mach) (p : Nat) (f : GateSt → GateSt) : (m.updGate p f).power = m.power := rfl
@[simp] theorem Mach.updGate_edge (m : Mach) (p : Nat) (f : GateSt → GateSt) : (m.updGate p f).edge = m.edge := rfl
@[simp] theorem Mach.updGate_lanes (m : Mach) (p : Nat) (f : GateSt → GateSt) : (m.updGate p f).lanes = m.lanes := rfl
@[simp] theorem Mach.updGate_protect (m : Mach) (p : Nat) (f : GateSt → GateSt) : (m.updGate p f).protect = m.protect := rfl
@[simp] theorem Mach.updGate_core (m : Mach) (p : Nat) (f : GateSt → GateSt) : (m.updGate p f).core = m.core := rfl
@[simp] theorem Mach.updGate_seams (m : Mach) (p : Nat) (f : GateSt → GateSt) : (m.updGate p f).seams = m.seams := rfl
@[simp] theorem Mach.updGate_coh (m : Mach) (p : Nat) (f : GateSt → GateSt) : (m.updGate p f).coh = m.coh := rfl
@[simp] theorem Mach.updGate_noc (m : Mach) (p : Nat) (f : GateSt → GateSt) : (m.updGate p f).noc = m.noc := rfl
@[simp] theorem Mach.updGate_chans (m : Mach) (p : Nat) (f : GateSt → GateSt) : (m.updGate p f).chans = m.chans := rfl
@[simp] theorem Mach.updGate_answers (m : Mach) (p : Nat) (f : GateSt → GateSt) : (m.updGate p f).answers = m.answers := rfl
@[simp] theorem Mach.updGate_twin (m : Mach) (p : Nat) (f : GateSt → GateSt) : (m.updGate p f).twin = m.twin := rfl
@[simp] theorem Mach.updGate_slots (m : Mach) (p : Nat) (f : GateSt → GateSt) : (m.updGate p f).slots = m.slots := rfl
@[simp] theorem Mach.updGate_rd (m : Mach) (p : Nat) (f : GateSt → GateSt) (x : Nat) : (m.updGate p f).rd x = m.rd x := rfl
@[simp] theorem Mach.updGate_word (m : Mach) (p : Nat) (f : GateSt → GateSt) (x y : Nat) : (m.updGate p f).word x y = m.word x y := rfl

@[simp] theorem Mach.updSite_pb (m : Mach) (n : Nat) (f : SiteSt → SiteSt) : (m.updSite n f).pb = m.pb := rfl
@[simp] theorem Mach.updSite_ram (m : Mach) (n : Nat) (f : SiteSt → SiteSt) : (m.updSite n f).ram = m.ram := rfl
@[simp] theorem Mach.updSite_free (m : Mach) (n : Nat) (f : SiteSt → SiteSt) : (m.updSite n f).free = m.free := rfl
@[simp] theorem Mach.updSite_out (m : Mach) (n : Nat) (f : SiteSt → SiteSt) : (m.updSite n f).out = m.out := rfl
@[simp] theorem Mach.updSite_held (m : Mach) (n : Nat) (f : SiteSt → SiteSt) : (m.updSite n f).held = m.held := rfl
@[simp] theorem Mach.updSite_now (m : Mach) (n : Nat) (f : SiteSt → SiteSt) : (m.updSite n f).now = m.now := rfl
@[simp] theorem Mach.updSite_col (m : Mach) (n : Nat) (f : SiteSt → SiteSt) : (m.updSite n f).col = m.col := rfl
@[simp] theorem Mach.updSite_counters (m : Mach) (n : Nat) (f : SiteSt → SiteSt) : (m.updSite n f).counters = m.counters := rfl
@[simp] theorem Mach.updSite_mgmt (m : Mach) (n : Nat) (f : SiteSt → SiteSt) : (m.updSite n f).mgmt = m.mgmt := rfl
@[simp] theorem Mach.updSite_flash (m : Mach) (n : Nat) (f : SiteSt → SiteSt) : (m.updSite n f).flash = m.flash := rfl
@[simp] theorem Mach.updSite_power (m : Mach) (n : Nat) (f : SiteSt → SiteSt) : (m.updSite n f).power = m.power := rfl
@[simp] theorem Mach.updSite_edge (m : Mach) (n : Nat) (f : SiteSt → SiteSt) : (m.updSite n f).edge = m.edge := rfl
@[simp] theorem Mach.updSite_lanes (m : Mach) (n : Nat) (f : SiteSt → SiteSt) : (m.updSite n f).lanes = m.lanes := rfl
@[simp] theorem Mach.updSite_traffic (m : Mach) (n : Nat) (f : SiteSt → SiteSt) : (m.updSite n f).traffic = m.traffic := rfl
@[simp] theorem Mach.updSite_core (m : Mach) (n : Nat) (f : SiteSt → SiteSt) : (m.updSite n f).core = m.core := rfl
@[simp] theorem Mach.updSite_seams (m : Mach) (n : Nat) (f : SiteSt → SiteSt) : (m.updSite n f).seams = m.seams := rfl
@[simp] theorem Mach.updSite_coh (m : Mach) (n : Nat) (f : SiteSt → SiteSt) : (m.updSite n f).coh = m.coh := rfl
@[simp] theorem Mach.updSite_noc (m : Mach) (n : Nat) (f : SiteSt → SiteSt) : (m.updSite n f).noc = m.noc := rfl
@[simp] theorem Mach.updSite_chans (m : Mach) (n : Nat) (f : SiteSt → SiteSt) : (m.updSite n f).chans = m.chans := rfl
@[simp] theorem Mach.updSite_answers (m : Mach) (n : Nat) (f : SiteSt → SiteSt) : (m.updSite n f).answers = m.answers := rfl
@[simp] theorem Mach.updSite_twin (m : Mach) (n : Nat) (f : SiteSt → SiteSt) : (m.updSite n f).twin = m.twin := rfl
@[simp] theorem Mach.updSite_slots (m : Mach) (n : Nat) (f : SiteSt → SiteSt) : (m.updSite n f).slots = m.slots := rfl
@[simp] theorem Mach.updSite_rd (m : Mach) (n : Nat) (f : SiteSt → SiteSt) (x : Nat) : (m.updSite n f).rd x = m.rd x := rfl
@[simp] theorem Mach.updSite_word (m : Mach) (n : Nat) (f : SiteSt → SiteSt) (x y : Nat) : (m.updSite n f).word x y = m.word x y := rfl

@[simp] theorem Mach.updSlice_pb (m : Mach) (n : Nat) (f : SliceSt → SliceSt) : (m.updSlice n f).pb = m.pb := rfl
@[simp] theorem Mach.updSlice_ram (m : Mach) (n : Nat) (f : SliceSt → SliceSt) : (m.updSlice n f).ram = m.ram := rfl
@[simp] theorem Mach.updSlice_free (m : Mach) (n : Nat) (f : SliceSt → SliceSt) : (m.updSlice n f).free = m.free := rfl
@[simp] theorem Mach.updSlice_out (m : Mach) (n : Nat) (f : SliceSt → SliceSt) : (m.updSlice n f).out = m.out := rfl
@[simp] theorem Mach.updSlice_held (m : Mach) (n : Nat) (f : SliceSt → SliceSt) : (m.updSlice n f).held = m.held := rfl
@[simp] theorem Mach.updSlice_now (m : Mach) (n : Nat) (f : SliceSt → SliceSt) : (m.updSlice n f).now = m.now := rfl
@[simp] theorem Mach.updSlice_col (m : Mach) (n : Nat) (f : SliceSt → SliceSt) : (m.updSlice n f).col = m.col := rfl
@[simp] theorem Mach.updSlice_counters (m : Mach) (n : Nat) (f : SliceSt → SliceSt) : (m.updSlice n f).counters = m.counters := rfl
@[simp] theorem Mach.updSlice_mgmt (m : Mach) (n : Nat) (f : SliceSt → SliceSt) : (m.updSlice n f).mgmt = m.mgmt := rfl
@[simp] theorem Mach.updSlice_flash (m : Mach) (n : Nat) (f : SliceSt → SliceSt) : (m.updSlice n f).flash = m.flash := rfl
@[simp] theorem Mach.updSlice_power (m : Mach) (n : Nat) (f : SliceSt → SliceSt) : (m.updSlice n f).power = m.power := rfl
@[simp] theorem Mach.updSlice_edge (m : Mach) (n : Nat) (f : SliceSt → SliceSt) : (m.updSlice n f).edge = m.edge := rfl
@[simp] theorem Mach.updSlice_lanes (m : Mach) (n : Nat) (f : SliceSt → SliceSt) : (m.updSlice n f).lanes = m.lanes := rfl
@[simp] theorem Mach.updSlice_protect (m : Mach) (n : Nat) (f : SliceSt → SliceSt) : (m.updSlice n f).protect = m.protect := rfl
@[simp] theorem Mach.updSlice_core (m : Mach) (n : Nat) (f : SliceSt → SliceSt) : (m.updSlice n f).core = m.core := rfl
@[simp] theorem Mach.updSlice_seams (m : Mach) (n : Nat) (f : SliceSt → SliceSt) : (m.updSlice n f).seams = m.seams := rfl
@[simp] theorem Mach.updSlice_coh (m : Mach) (n : Nat) (f : SliceSt → SliceSt) : (m.updSlice n f).coh = m.coh := rfl
@[simp] theorem Mach.updSlice_noc (m : Mach) (n : Nat) (f : SliceSt → SliceSt) : (m.updSlice n f).noc = m.noc := rfl
@[simp] theorem Mach.updSlice_chans (m : Mach) (n : Nat) (f : SliceSt → SliceSt) : (m.updSlice n f).chans = m.chans := rfl
@[simp] theorem Mach.updSlice_answers (m : Mach) (n : Nat) (f : SliceSt → SliceSt) : (m.updSlice n f).answers = m.answers := rfl
@[simp] theorem Mach.updSlice_twin (m : Mach) (n : Nat) (f : SliceSt → SliceSt) : (m.updSlice n f).twin = m.twin := rfl
@[simp] theorem Mach.updSlice_slots (m : Mach) (n : Nat) (f : SliceSt → SliceSt) : (m.updSlice n f).slots = m.slots := rfl
@[simp] theorem Mach.updSlice_rd (m : Mach) (n : Nat) (f : SliceSt → SliceSt) (x : Nat) : (m.updSlice n f).rd x = m.rd x := rfl
@[simp] theorem Mach.updSlice_word (m : Mach) (n : Nat) (f : SliceSt → SliceSt) (x y : Nat) : (m.updSlice n f).word x y = m.word x y := rfl

@[simp] theorem Mach.wrS_ram (m : Mach) (k : Nat) (v : Int) : (m.wrS k v).ram = m.ram := rfl
@[simp] theorem Mach.wrS_free (m : Mach) (k : Nat) (v : Int) : (m.wrS k v).free = m.free := rfl
@[simp] theorem Mach.wrS_out (m : Mach) (k : Nat) (v : Int) : (m.wrS k v).out = m.out := rfl
@[simp] theorem Mach.wrS_held (m : Mach) (k : Nat) (v : Int) : (m.wrS k v).held = m.held := rfl
@[simp] theorem Mach.wrS_now (m : Mach) (k : Nat) (v : Int) : (m.wrS k v).now = m.now := rfl
@[simp] theorem Mach.wrS_col (m : Mach) (k : Nat) (v : Int) : (m.wrS k v).col = m.col := rfl
@[simp] theorem Mach.wrS_counters (m : Mach) (k : Nat) (v : Int) : (m.wrS k v).counters = m.counters := rfl
@[simp] theorem Mach.wrS_mgmt (m : Mach) (k : Nat) (v : Int) : (m.wrS k v).mgmt = m.mgmt := rfl
@[simp] theorem Mach.wrS_flash (m : Mach) (k : Nat) (v : Int) : (m.wrS k v).flash = m.flash := rfl
@[simp] theorem Mach.wrS_power (m : Mach) (k : Nat) (v : Int) : (m.wrS k v).power = m.power := rfl
@[simp] theorem Mach.wrS_edge (m : Mach) (k : Nat) (v : Int) : (m.wrS k v).edge = m.edge := rfl
@[simp] theorem Mach.wrS_lanes (m : Mach) (k : Nat) (v : Int) : (m.wrS k v).lanes = m.lanes := rfl
@[simp] theorem Mach.wrS_protect (m : Mach) (k : Nat) (v : Int) : (m.wrS k v).protect = m.protect := rfl
@[simp] theorem Mach.wrS_traffic (m : Mach) (k : Nat) (v : Int) : (m.wrS k v).traffic = m.traffic := rfl
@[simp] theorem Mach.wrS_core (m : Mach) (k : Nat) (v : Int) : (m.wrS k v).core = m.core := rfl
@[simp] theorem Mach.wrS_seams (m : Mach) (k : Nat) (v : Int) : (m.wrS k v).seams = m.seams := rfl
@[simp] theorem Mach.wrS_coh (m : Mach) (k : Nat) (v : Int) : (m.wrS k v).coh = m.coh := rfl
@[simp] theorem Mach.wrS_noc (m : Mach) (k : Nat) (v : Int) : (m.wrS k v).noc = m.noc := rfl
@[simp] theorem Mach.wrS_chans (m : Mach) (k : Nat) (v : Int) : (m.wrS k v).chans = m.chans := rfl
@[simp] theorem Mach.wrS_answers (m : Mach) (k : Nat) (v : Int) : (m.wrS k v).answers = m.answers := rfl
@[simp] theorem Mach.wrS_twin (m : Mach) (k : Nat) (v : Int) : (m.wrS k v).twin = m.twin := rfl
@[simp] theorem Mach.wrS_slots (m : Mach) (k : Nat) (v : Int) : (m.wrS k v).slots = m.slots := rfl
@[simp] theorem Mach.wrS_word (m : Mach) (k : Nat) (v : Int) (x y : Nat) : (m.wrS k v).word x y = m.word x y := rfl

@[simp] theorem Mach.bump_ram (m : Mach) (k n : Nat) : (m.bump k n).ram = m.ram := by
  unfold Mach.bump; dsimp only [Mach.fresh, Mach.wr]; split <;> rfl
@[simp] theorem Mach.bump_out (m : Mach) (k n : Nat) : (m.bump k n).out = m.out := by
  unfold Mach.bump; dsimp only [Mach.fresh, Mach.wr]; split <;> rfl
@[simp] theorem Mach.bump_held (m : Mach) (k n : Nat) : (m.bump k n).held = m.held := by
  unfold Mach.bump; dsimp only [Mach.fresh, Mach.wr]; split <;> rfl
@[simp] theorem Mach.bump_now (m : Mach) (k n : Nat) : (m.bump k n).now = m.now := by
  unfold Mach.bump; dsimp only [Mach.fresh, Mach.wr]; split <;> rfl
@[simp] theorem Mach.bump_col (m : Mach) (k n : Nat) : (m.bump k n).col = m.col := by
  unfold Mach.bump; dsimp only [Mach.fresh, Mach.wr]; split <;> rfl
@[simp] theorem Mach.bump_counters (m : Mach) (k n : Nat) : (m.bump k n).counters = m.counters := by
  unfold Mach.bump; dsimp only [Mach.fresh, Mach.wr]; split <;> rfl
@[simp] theorem Mach.bump_mgmt (m : Mach) (k n : Nat) : (m.bump k n).mgmt = m.mgmt := by
  unfold Mach.bump; dsimp only [Mach.fresh, Mach.wr]; split <;> rfl
@[simp] theorem Mach.bump_flash (m : Mach) (k n : Nat) : (m.bump k n).flash = m.flash := by
  unfold Mach.bump; dsimp only [Mach.fresh, Mach.wr]; split <;> rfl
@[simp] theorem Mach.bump_power (m : Mach) (k n : Nat) : (m.bump k n).power = m.power := by
  unfold Mach.bump; dsimp only [Mach.fresh, Mach.wr]; split <;> rfl
@[simp] theorem Mach.bump_edge (m : Mach) (k n : Nat) : (m.bump k n).edge = m.edge := by
  unfold Mach.bump; dsimp only [Mach.fresh, Mach.wr]; split <;> rfl
@[simp] theorem Mach.bump_lanes (m : Mach) (k n : Nat) : (m.bump k n).lanes = m.lanes := by
  unfold Mach.bump; dsimp only [Mach.fresh, Mach.wr]; split <;> rfl
@[simp] theorem Mach.bump_protect (m : Mach) (k n : Nat) : (m.bump k n).protect = m.protect := by
  unfold Mach.bump; dsimp only [Mach.fresh, Mach.wr]; split <;> rfl
@[simp] theorem Mach.bump_traffic (m : Mach) (k n : Nat) : (m.bump k n).traffic = m.traffic := by
  unfold Mach.bump; dsimp only [Mach.fresh, Mach.wr]; split <;> rfl
@[simp] theorem Mach.bump_core (m : Mach) (k n : Nat) : (m.bump k n).core = m.core := by
  unfold Mach.bump; dsimp only [Mach.fresh, Mach.wr]; split <;> rfl
@[simp] theorem Mach.bump_seams (m : Mach) (k n : Nat) : (m.bump k n).seams = m.seams := by
  unfold Mach.bump; dsimp only [Mach.fresh, Mach.wr]; split <;> rfl
@[simp] theorem Mach.bump_coh (m : Mach) (k n : Nat) : (m.bump k n).coh = m.coh := by
  unfold Mach.bump; dsimp only [Mach.fresh, Mach.wr]; split <;> rfl
@[simp] theorem Mach.bump_noc (m : Mach) (k n : Nat) : (m.bump k n).noc = m.noc := by
  unfold Mach.bump; dsimp only [Mach.fresh, Mach.wr]; split <;> rfl
@[simp] theorem Mach.bump_chans (m : Mach) (k n : Nat) : (m.bump k n).chans = m.chans := by
  unfold Mach.bump; dsimp only [Mach.fresh, Mach.wr]; split <;> rfl
@[simp] theorem Mach.bump_answers (m : Mach) (k n : Nat) : (m.bump k n).answers = m.answers := by
  unfold Mach.bump; dsimp only [Mach.fresh, Mach.wr]; split <;> rfl
@[simp] theorem Mach.bump_twin (m : Mach) (k n : Nat) : (m.bump k n).twin = m.twin := by
  unfold Mach.bump; dsimp only [Mach.fresh, Mach.wr]; split <;> rfl
@[simp] theorem Mach.bump_slots (m : Mach) (k n : Nat) : (m.bump k n).slots = m.slots := by
  unfold Mach.bump; dsimp only [Mach.fresh, Mach.wr]; split <;> rfl

@[simp] theorem Mach.bumpField_ram (m : Mach) (k w i n : Nat) : (m.bumpField k w i n).ram = m.ram := by
  unfold Mach.bumpField; dsimp only [Mach.fresh, Mach.wr]; split <;> rfl
@[simp] theorem Mach.bumpField_out (m : Mach) (k w i n : Nat) : (m.bumpField k w i n).out = m.out := by
  unfold Mach.bumpField; dsimp only [Mach.fresh, Mach.wr]; split <;> rfl
@[simp] theorem Mach.bumpField_held (m : Mach) (k w i n : Nat) : (m.bumpField k w i n).held = m.held := by
  unfold Mach.bumpField; dsimp only [Mach.fresh, Mach.wr]; split <;> rfl
@[simp] theorem Mach.bumpField_now (m : Mach) (k w i n : Nat) : (m.bumpField k w i n).now = m.now := by
  unfold Mach.bumpField; dsimp only [Mach.fresh, Mach.wr]; split <;> rfl
@[simp] theorem Mach.bumpField_col (m : Mach) (k w i n : Nat) : (m.bumpField k w i n).col = m.col := by
  unfold Mach.bumpField; dsimp only [Mach.fresh, Mach.wr]; split <;> rfl
@[simp] theorem Mach.bumpField_counters (m : Mach) (k w i n : Nat) : (m.bumpField k w i n).counters = m.counters := by
  unfold Mach.bumpField; dsimp only [Mach.fresh, Mach.wr]; split <;> rfl
@[simp] theorem Mach.bumpField_mgmt (m : Mach) (k w i n : Nat) : (m.bumpField k w i n).mgmt = m.mgmt := by
  unfold Mach.bumpField; dsimp only [Mach.fresh, Mach.wr]; split <;> rfl
@[simp] theorem Mach.bumpField_flash (m : Mach) (k w i n : Nat) : (m.bumpField k w i n).flash = m.flash := by
  unfold Mach.bumpField; dsimp only [Mach.fresh, Mach.wr]; split <;> rfl
@[simp] theorem Mach.bumpField_power (m : Mach) (k w i n : Nat) : (m.bumpField k w i n).power = m.power := by
  unfold Mach.bumpField; dsimp only [Mach.fresh, Mach.wr]; split <;> rfl
@[simp] theorem Mach.bumpField_edge (m : Mach) (k w i n : Nat) : (m.bumpField k w i n).edge = m.edge := by
  unfold Mach.bumpField; dsimp only [Mach.fresh, Mach.wr]; split <;> rfl
@[simp] theorem Mach.bumpField_lanes (m : Mach) (k w i n : Nat) : (m.bumpField k w i n).lanes = m.lanes := by
  unfold Mach.bumpField; dsimp only [Mach.fresh, Mach.wr]; split <;> rfl
@[simp] theorem Mach.bumpField_protect (m : Mach) (k w i n : Nat) : (m.bumpField k w i n).protect = m.protect := by
  unfold Mach.bumpField; dsimp only [Mach.fresh, Mach.wr]; split <;> rfl
@[simp] theorem Mach.bumpField_traffic (m : Mach) (k w i n : Nat) : (m.bumpField k w i n).traffic = m.traffic := by
  unfold Mach.bumpField; dsimp only [Mach.fresh, Mach.wr]; split <;> rfl
@[simp] theorem Mach.bumpField_core (m : Mach) (k w i n : Nat) : (m.bumpField k w i n).core = m.core := by
  unfold Mach.bumpField; dsimp only [Mach.fresh, Mach.wr]; split <;> rfl
@[simp] theorem Mach.bumpField_seams (m : Mach) (k w i n : Nat) : (m.bumpField k w i n).seams = m.seams := by
  unfold Mach.bumpField; dsimp only [Mach.fresh, Mach.wr]; split <;> rfl
@[simp] theorem Mach.bumpField_coh (m : Mach) (k w i n : Nat) : (m.bumpField k w i n).coh = m.coh := by
  unfold Mach.bumpField; dsimp only [Mach.fresh, Mach.wr]; split <;> rfl
@[simp] theorem Mach.bumpField_noc (m : Mach) (k w i n : Nat) : (m.bumpField k w i n).noc = m.noc := by
  unfold Mach.bumpField; dsimp only [Mach.fresh, Mach.wr]; split <;> rfl
@[simp] theorem Mach.bumpField_chans (m : Mach) (k w i n : Nat) : (m.bumpField k w i n).chans = m.chans := by
  unfold Mach.bumpField; dsimp only [Mach.fresh, Mach.wr]; split <;> rfl
@[simp] theorem Mach.bumpField_answers (m : Mach) (k w i n : Nat) : (m.bumpField k w i n).answers = m.answers := by
  unfold Mach.bumpField; dsimp only [Mach.fresh, Mach.wr]; split <;> rfl
@[simp] theorem Mach.bumpField_twin (m : Mach) (k w i n : Nat) : (m.bumpField k w i n).twin = m.twin := by
  unfold Mach.bumpField; dsimp only [Mach.fresh, Mach.wr]; split <;> rfl
@[simp] theorem Mach.bumpField_slots (m : Mach) (k w i n : Nat) : (m.bumpField k w i n).slots = m.slots := by
  unfold Mach.bumpField; dsimp only [Mach.fresh, Mach.wr]; split <;> rfl

@[simp] theorem Mach.occur_pb (m : Mach) (j n : Nat) (b : Option Nat) (c : Ctx) : (occur j n b c m).pb = m.pb := by
  unfold Sys2Proof.Machine.occur; split <;> rfl
@[simp] theorem Mach.occur_ram (m : Mach) (j n : Nat) (b : Option Nat) (c : Ctx) : (occur j n b c m).ram = m.ram := by
  unfold Sys2Proof.Machine.occur; split <;> rfl
@[simp] theorem Mach.occur_free (m : Mach) (j n : Nat) (b : Option Nat) (c : Ctx) : (occur j n b c m).free = m.free := by
  unfold Sys2Proof.Machine.occur; split <;> rfl
@[simp] theorem Mach.occur_out (m : Mach) (j n : Nat) (b : Option Nat) (c : Ctx) : (occur j n b c m).out = m.out := by
  unfold Sys2Proof.Machine.occur; split <;> rfl
@[simp] theorem Mach.occur_held (m : Mach) (j n : Nat) (b : Option Nat) (c : Ctx) : (occur j n b c m).held = m.held := by
  unfold Sys2Proof.Machine.occur; split <;> rfl
@[simp] theorem Mach.occur_col (m : Mach) (j n : Nat) (b : Option Nat) (c : Ctx) : (occur j n b c m).col = m.col := by
  unfold Sys2Proof.Machine.occur; split <;> rfl
@[simp] theorem Mach.occur_counters (m : Mach) (j n : Nat) (b : Option Nat) (c : Ctx) : (occur j n b c m).counters = m.counters := by
  unfold Sys2Proof.Machine.occur; split <;> rfl
@[simp] theorem Mach.occur_mgmt (m : Mach) (j n : Nat) (b : Option Nat) (c : Ctx) : (occur j n b c m).mgmt = m.mgmt := by
  unfold Sys2Proof.Machine.occur; split <;> rfl
@[simp] theorem Mach.occur_flash (m : Mach) (j n : Nat) (b : Option Nat) (c : Ctx) : (occur j n b c m).flash = m.flash := by
  unfold Sys2Proof.Machine.occur; split <;> rfl
@[simp] theorem Mach.occur_power (m : Mach) (j n : Nat) (b : Option Nat) (c : Ctx) : (occur j n b c m).power = m.power := by
  unfold Sys2Proof.Machine.occur; split <;> rfl
@[simp] theorem Mach.occur_edge (m : Mach) (j n : Nat) (b : Option Nat) (c : Ctx) : (occur j n b c m).edge = m.edge := by
  unfold Sys2Proof.Machine.occur; split <;> rfl
@[simp] theorem Mach.occur_lanes (m : Mach) (j n : Nat) (b : Option Nat) (c : Ctx) : (occur j n b c m).lanes = m.lanes := by
  unfold Sys2Proof.Machine.occur; split <;> rfl
@[simp] theorem Mach.occur_protect (m : Mach) (j n : Nat) (b : Option Nat) (c : Ctx) : (occur j n b c m).protect = m.protect := by
  unfold Sys2Proof.Machine.occur; split <;> rfl
@[simp] theorem Mach.occur_traffic (m : Mach) (j n : Nat) (b : Option Nat) (c : Ctx) : (occur j n b c m).traffic = m.traffic := by
  unfold Sys2Proof.Machine.occur; split <;> rfl
@[simp] theorem Mach.occur_core (m : Mach) (j n : Nat) (b : Option Nat) (c : Ctx) : (occur j n b c m).core = m.core := by
  unfold Sys2Proof.Machine.occur; split <;> rfl
@[simp] theorem Mach.occur_seams (m : Mach) (j n : Nat) (b : Option Nat) (c : Ctx) : (occur j n b c m).seams = m.seams := by
  unfold Sys2Proof.Machine.occur; split <;> rfl
@[simp] theorem Mach.occur_coh (m : Mach) (j n : Nat) (b : Option Nat) (c : Ctx) : (occur j n b c m).coh = m.coh := by
  unfold Sys2Proof.Machine.occur; split <;> rfl
@[simp] theorem Mach.occur_noc (m : Mach) (j n : Nat) (b : Option Nat) (c : Ctx) : (occur j n b c m).noc = m.noc := by
  unfold Sys2Proof.Machine.occur; split <;> rfl
@[simp] theorem Mach.occur_chans (m : Mach) (j n : Nat) (b : Option Nat) (c : Ctx) : (occur j n b c m).chans = m.chans := by
  unfold Sys2Proof.Machine.occur; split <;> rfl
@[simp] theorem Mach.occur_answers (m : Mach) (j n : Nat) (b : Option Nat) (c : Ctx) : (occur j n b c m).answers = m.answers := by
  unfold Sys2Proof.Machine.occur; split <;> rfl
@[simp] theorem Mach.occur_twin (m : Mach) (j n : Nat) (b : Option Nat) (c : Ctx) : (occur j n b c m).twin = m.twin := by
  unfold Sys2Proof.Machine.occur; split <;> rfl
@[simp] theorem Mach.occur_slots (m : Mach) (j n : Nat) (b : Option Nat) (c : Ctx) : (occur j n b c m).slots = m.slots := by
  unfold Sys2Proof.Machine.occur; split <;> rfl
@[simp] theorem Mach.occur_rd (m : Mach) (j n : Nat) (b : Option Nat) (c : Ctx) (x : Nat) : (occur j n b c m).rd x = m.rd x :=
  Mach.rd_of_pb (Mach.occur_pb ..) x

@[simp] theorem Mach.raiseEv_pb (m : Mach) (j : Nat) (c : Ctx) : (raiseEv j c m).pb = m.pb := by
  unfold Sys2Proof.Machine.raiseEv Sys2Proof.Machine.occur; split <;> rfl
@[simp] theorem Mach.raiseEv_ram (m : Mach) (j : Nat) (c : Ctx) : (raiseEv j c m).ram = m.ram := by
  unfold Sys2Proof.Machine.raiseEv Sys2Proof.Machine.occur; split <;> rfl
@[simp] theorem Mach.raiseEv_free (m : Mach) (j : Nat) (c : Ctx) : (raiseEv j c m).free = m.free := by
  unfold Sys2Proof.Machine.raiseEv Sys2Proof.Machine.occur; split <;> rfl
@[simp] theorem Mach.raiseEv_out (m : Mach) (j : Nat) (c : Ctx) : (raiseEv j c m).out = m.out := by
  unfold Sys2Proof.Machine.raiseEv Sys2Proof.Machine.occur; split <;> rfl
@[simp] theorem Mach.raiseEv_held (m : Mach) (j : Nat) (c : Ctx) : (raiseEv j c m).held = m.held := by
  unfold Sys2Proof.Machine.raiseEv Sys2Proof.Machine.occur; split <;> rfl
@[simp] theorem Mach.raiseEv_col (m : Mach) (j : Nat) (c : Ctx) : (raiseEv j c m).col = m.col := by
  unfold Sys2Proof.Machine.raiseEv Sys2Proof.Machine.occur; split <;> rfl
@[simp] theorem Mach.raiseEv_counters (m : Mach) (j : Nat) (c : Ctx) : (raiseEv j c m).counters = m.counters := by
  unfold Sys2Proof.Machine.raiseEv Sys2Proof.Machine.occur; split <;> rfl
@[simp] theorem Mach.raiseEv_mgmt (m : Mach) (j : Nat) (c : Ctx) : (raiseEv j c m).mgmt = m.mgmt := by
  unfold Sys2Proof.Machine.raiseEv Sys2Proof.Machine.occur; split <;> rfl
@[simp] theorem Mach.raiseEv_flash (m : Mach) (j : Nat) (c : Ctx) : (raiseEv j c m).flash = m.flash := by
  unfold Sys2Proof.Machine.raiseEv Sys2Proof.Machine.occur; split <;> rfl
@[simp] theorem Mach.raiseEv_power (m : Mach) (j : Nat) (c : Ctx) : (raiseEv j c m).power = m.power := by
  unfold Sys2Proof.Machine.raiseEv Sys2Proof.Machine.occur; split <;> rfl
@[simp] theorem Mach.raiseEv_edge (m : Mach) (j : Nat) (c : Ctx) : (raiseEv j c m).edge = m.edge := by
  unfold Sys2Proof.Machine.raiseEv Sys2Proof.Machine.occur; split <;> rfl
@[simp] theorem Mach.raiseEv_lanes (m : Mach) (j : Nat) (c : Ctx) : (raiseEv j c m).lanes = m.lanes := by
  unfold Sys2Proof.Machine.raiseEv Sys2Proof.Machine.occur; split <;> rfl
@[simp] theorem Mach.raiseEv_protect (m : Mach) (j : Nat) (c : Ctx) : (raiseEv j c m).protect = m.protect := by
  unfold Sys2Proof.Machine.raiseEv Sys2Proof.Machine.occur; split <;> rfl
@[simp] theorem Mach.raiseEv_traffic (m : Mach) (j : Nat) (c : Ctx) : (raiseEv j c m).traffic = m.traffic := by
  unfold Sys2Proof.Machine.raiseEv Sys2Proof.Machine.occur; split <;> rfl
@[simp] theorem Mach.raiseEv_core (m : Mach) (j : Nat) (c : Ctx) : (raiseEv j c m).core = m.core := by
  unfold Sys2Proof.Machine.raiseEv Sys2Proof.Machine.occur; split <;> rfl
@[simp] theorem Mach.raiseEv_seams (m : Mach) (j : Nat) (c : Ctx) : (raiseEv j c m).seams = m.seams := by
  unfold Sys2Proof.Machine.raiseEv Sys2Proof.Machine.occur; split <;> rfl
@[simp] theorem Mach.raiseEv_coh (m : Mach) (j : Nat) (c : Ctx) : (raiseEv j c m).coh = m.coh := by
  unfold Sys2Proof.Machine.raiseEv Sys2Proof.Machine.occur; split <;> rfl
@[simp] theorem Mach.raiseEv_noc (m : Mach) (j : Nat) (c : Ctx) : (raiseEv j c m).noc = m.noc := by
  unfold Sys2Proof.Machine.raiseEv Sys2Proof.Machine.occur; split <;> rfl
@[simp] theorem Mach.raiseEv_chans (m : Mach) (j : Nat) (c : Ctx) : (raiseEv j c m).chans = m.chans := by
  unfold Sys2Proof.Machine.raiseEv Sys2Proof.Machine.occur; split <;> rfl
@[simp] theorem Mach.raiseEv_answers (m : Mach) (j : Nat) (c : Ctx) : (raiseEv j c m).answers = m.answers := by
  unfold Sys2Proof.Machine.raiseEv Sys2Proof.Machine.occur; split <;> rfl
@[simp] theorem Mach.raiseEv_twin (m : Mach) (j : Nat) (c : Ctx) : (raiseEv j c m).twin = m.twin := by
  unfold Sys2Proof.Machine.raiseEv Sys2Proof.Machine.occur; split <;> rfl
@[simp] theorem Mach.raiseEv_slots (m : Mach) (j : Nat) (c : Ctx) : (raiseEv j c m).slots = m.slots := by
  unfold Sys2Proof.Machine.raiseEv Sys2Proof.Machine.occur; split <;> rfl
@[simp] theorem Mach.raiseEv_rd (m : Mach) (j : Nat) (c : Ctx) (x : Nat) : (raiseEv j c m).rd x = m.rd x :=
  Mach.rd_of_pb (Mach.raiseEv_pb ..) x

/-- What a count reads after it is advanced within its width. -/
theorem Mach.rd_bump_same (m : Mach) (k n : Nat) (h : m.rd k + n < 2 ^ widthOf k) : (m.bump k n).rd k = m.rd k + n := by
  simp [Mach.bump, h]

/-- A count that advances leaves every other entry alone. -/
theorem Mach.rd_bump_other (m : Mach) (k n x : Nat) (h : x ≠ k) : (m.bump k n).rd x = m.rd x := by
  unfold Mach.bump
  dsimp only [Mach.fresh]
  split <;> rw [Mach.rd_wr_other _ _ _ _ h]
  rfl

theorem Mach.rd_bumpField_other (m : Mach) (k w i n x : Nat) (h : x ≠ k) : (m.bumpField k w i n).rd x = m.rd x := by
  unfold Mach.bumpField
  dsimp only [Mach.fresh]
  split <;> rw [Mach.rd_wr_other _ _ _ _ h]
  rfl

theorem Mach.rd_putBit_other (m : Mach) (k n x : Nat) (b : Bool) (h : x ≠ k) : (m.putBit k n b).rd x = m.rd x :=
  Mach.rd_wr_other _ _ _ _ h

@[simp] theorem Mach.rd_putBit_same (m : Mach) (k n : Nat) (b : Bool) : (m.putBit k n b).rd k = setBit (m.rd k) n b :=
  Mach.rd_wr_same _ _ _

/-! What each update makes of the field it changes. -/

@[simp] theorem Mach.emit_out (m : Mach) (o : Out) : (m.emit o).out = o :: m.out := rfl
@[simp] theorem Mach.updMgmt_mgmt (m : Mach) (f : Mgmt → Mgmt) : (m.updMgmt f).mgmt = f m.mgmt := rfl
@[simp] theorem Mach.updFlash_flash (m : Mach) (f : Flash → Flash) : (m.updFlash f).flash = f m.flash := rfl
@[simp] theorem Mach.updPower_power (m : Mach) (f : Power → Power) : (m.updPower f).power = f m.power := rfl
@[simp] theorem Mach.updTwin_twin (m : Mach) (f : TwinSt → TwinSt) : (m.updTwin f).twin = f m.twin := rfl
@[simp] theorem Mach.updCoh_coh (m : Mach) (f : Coh → Coh) : (m.updCoh f).coh = f m.coh := rfl
@[simp] theorem Mach.updCore_core (m : Mach) (f : Core → Core) : (m.updCore f).core = f m.core := rfl
@[simp] theorem Mach.updPort_port_same (m : Mach) (p : Nat) (f : PortSt → PortSt) : (m.updPort p f).port p = f (m.port p) := by
  simp [Mach.port, Mach.updPort, Tab.upd]
@[simp] theorem Mach.updLane_lane_same (m : Mach) (n : Nat) (f : LaneSt → LaneSt) : (m.updLane n f).lane n = f (m.lane n) := by
  simp [Mach.lane, Mach.updLane, Tab.upd]
@[simp] theorem Mach.updBlk_blk_same (m : Mach) (n : Nat) (f : BlkSt → BlkSt) : (m.updBlk n f).blk n = f (m.blk n) := by
  simp [Mach.blk, Mach.updBlk, Tab.upd]
@[simp] theorem Mach.updSeam_seam_same (m : Mach) (n : Nat) (f : SeamSt → SeamSt) : (m.updSeam n f).seam n = f (m.seam n) := by
  simp [Mach.seam, Mach.updSeam, Tab.upd]
@[simp] theorem Mach.updSlot_slot_same (m : Mach) (n : Nat) (f : SlotSt → SlotSt) : (m.updSlot n f).slot n = f (m.slot n) := by
  simp [Mach.slot, Mach.updSlot, Tab.upd]
@[simp] theorem Mach.updSlice_slice_same (m : Mach) (n : Nat) (f : SliceSt → SliceSt) :
    (m.updSlice n f).slice n = f (m.slice n) := by simp [Mach.slice, Mach.updSlice, Tab.upd]
@[simp] theorem Mach.updChan_chan_same (m : Mach) (n : Nat) (f : Channel → Channel) : (m.updChan n f).chan n = f (m.chan n) := by
  simp [Mach.chan, Mach.updChan, Tab.upd]
@[simp] theorem Mach.updGate_gate_same (m : Mach) (n : Nat) (f : GateSt → GateSt) : (m.updGate n f).gate n = f (m.gate n) := by
  simp [Mach.gate, Mach.updGate, Tab.upd]
@[simp] theorem Mach.updSite_site_same (m : Mach) (n : Nat) (f : SiteSt → SiteSt) : (m.updSite n f).site n = f (m.site n) := by
  simp [Mach.site, Mach.updSite, Tab.upd]
@[simp] theorem Mach.updSrc_src_same (m : Mach) (n : Nat) (f : SrcSt → SrcSt) : (m.updSrc n f).src n = f (m.src n) := by
  simp [Mach.src, Mach.updSrc, Tab.upd]
@[simp] theorem Mach.updSess_sess_same (m : Mach) (n : Nat) (f : SessSt → SessSt) : (m.updSess n f).sess n = f (m.sess n) := by
  simp [Mach.sess, Mach.updSess, Tab.upd]

@[simp] theorem Dev.on_otp (d : Dev) (f : Mach → Mach) : (d.on f).otp = d.otp := rfl
@[simp] theorem Dev.on_m (d : Dev) (f : Mach → Mach) : (d.on f).m = f d.m := rfl

end Sys2Proof.Machine
end

