-- ==== Sys2Proof/Laws/Commands.lean ====
section
/-! SUPPORT. What the shared forms of a command can do, said once: they run on the switch, leave the queue alone, and
touch the fuses only where they are told to. -/

namespace Sys2Proof.Machine

/-- A command whose units exist answers a next state: the switch changed by f, the queue as it was. -/
theorem State.run_ok (f : Dev → Dev) (s : State) : s.run true f = .next { s with toDev := f s.toDev } := rfl

/-- A command that names a unit the part does not have stops. -/
theorem State.run_bad (f : Dev → Dev) (s : State) : s.run false f = .fault .noSuchUnit := rfl

theorem State.dev_live {s : State} (h : s.live) (f : Dev → Dev) : s.dev true f = .next { s with toDev := f s.toDev } := by
  have h' : s.m.held = false := h
  simp [State.dev, State.run, h']

/-- While chip reset is asserted the command changes nothing (R487). -/
theorem State.dev_held {s : State} (h : s.m.held = true) (f : Dev → Dev) : s.dev true f = .next s := by
  simp [State.dev, State.run, h]

/-- A command that touches no fuse, of a running switch. -/
theorem State.mach_live {s : State} (h : s.live) (f : Mach → Mach) : s.mach true f = .next (s.at (f s.m)) := by
  rw [State.mach, State.dev_live h]; rfl

theorem State.mach_held {s : State} (h : s.m.held = true) (f : Mach → Mach) : s.mach true f = .next s :=
  State.dev_held h _

/-- Everything that State.mach answers. -/
theorem State.mach_cases (ok : Bool) (f : Mach → Mach) (s : State) :
    ok = false ∧ s.mach ok f = .fault .noSuchUnit ∨
    ok = true ∧ s.m.held = true ∧ s.mach ok f = .next s ∨
    ok = true ∧ s.m.held = false ∧ s.mach ok f = .next (s.at (f s.m)) := by
  cases ok
  · exact .inl ⟨rfl, rfl⟩
  · cases h : s.m.held
    · exact .inr (.inr ⟨rfl, rfl, State.mach_live h f⟩)
    · exact .inr (.inl ⟨rfl, rfl, State.mach_held h f⟩)

/-- A next state of State.mach has the fuses and the queue of the state before. -/
theorem State.mach_sameOutside {ok : Bool} {f : Mach → Mach} {s t : State} (h : s.mach ok f = .next t) : s.SameOutside t := by
  rcases State.mach_cases ok f s with ⟨_, e⟩ | ⟨_, _, e⟩ | ⟨_, _, e⟩ <;> rw [e] at h
  · cases h
  · cases h; exact ⟨rfl, rfl⟩
  · cases h; exact ⟨rfl, rfl⟩

/-- A next state of State.run, State.dev or State.mach has the queue of the state before. -/
theorem State.run_pending {ok : Bool} {f : Dev → Dev} {s t : State} (h : s.run ok f = .next t) : t.pending = s.pending := by
  unfold State.run at h
  split at h
  · cases h; rfl
  · cases h

theorem State.dev_pending {ok : Bool} {f : Dev → Dev} {s t : State} (h : s.dev ok f = .next t) : t.pending = s.pending :=
  State.run_pending h

@[simp] theorem State.at_m (s : State) (m : Mach) : (s.at m).m = m := rfl
@[simp] theorem State.at_otp (s : State) (m : Mach) : (s.at m).otp = s.otp := rfl
@[simp] theorem State.at_pending (s : State) (m : Mach) : (s.at m).pending = s.pending := rfl
@[simp] theorem State.put_pending (s : State) (d : Dev) : (s.put d).pending = s.pending := rfl
@[simp] theorem State.put_toDev (s : State) (d : Dev) : (s.put d).toDev = d := rfl
theorem State.sameOutside_at (s : State) (m : Mach) : s.SameOutside (s.at m) := ⟨rfl, rfl⟩

/-- While the management subsystem is down a request has no effect and no answer (R32). -/
theorem act_down {m : Mach} (u : m.mgmt.up = false) (check : Mach → Option Status) (effect : Mach → Mach) :
    act check effect m = m := by simp [act, u]

/-- A checked action: refused with the status of its check, or its effect and OK. -/
theorem act_refused {check : Mach → Option Status} {m : Mach} {st : Status} (u : m.mgmt.up = true) (h : check m = some st)
    (effect : Mach → Mach) : act check effect m = m.emit (.answer st 0) := by simp [act, actAnyway, u, h]

theorem act_accepted {check : Mach → Option Status} {m : Mach} (u : m.mgmt.up = true) (h : check m = none) (effect : Mach → Mach) :
    act check effect m = (effect m).ok := by simp [act, actAnyway, u, h, Mach.ok]

/-- Everything that a checked action can do. -/
theorem act_cases (check : Mach → Option Status) (effect : Mach → Mach) (m : Mach) :
    m.mgmt.up = false ∧ act check effect m = m ∨
    (∃ st, m.mgmt.up = true ∧ check m = some st ∧ act check effect m = m.emit (.answer st 0)) ∨
    (m.mgmt.up = true ∧ check m = none ∧ act check effect m = (effect m).ok) := by
  cases u : m.mgmt.up
  · exact .inl ⟨rfl, act_down u check effect⟩
  · cases h : check m with
    | some st => exact .inr (.inl ⟨st, rfl, rfl, act_refused u h effect⟩)
    | none => exact .inr (.inr ⟨rfl, rfl, act_accepted u h effect⟩)

/-- A checked action in a domain: STATE while the domain is off. -/
theorem actIn_off {d : Nat} {m : Mach} (u : m.mgmt.up = true) (h : m.domOn d = false) (check : Mach → Option Status)
    (effect : Mach → Mach) : actIn d check effect m = m.emit (.answer .state 0) := by simp [actIn, act, actAnyway, u, h]

theorem actIn_on {d : Nat} {m : Mach} (h : m.domOn d = true) (check : Mach → Option Status) (effect : Mach → Mach) :
    actIn d check effect m = act check effect m := by simp [actIn, act, actAnyway, h]

/-- A request that is heard, and one that is not (R32). -/
theorem heardMach_up {m : Mach} (u : m.mgmt.up = true) (f : Mach → Mach) : heardMach f m = f m := by simp [heardMach, u]
theorem heardMach_down {m : Mach} (u : m.mgmt.up = false) (f : Mach → Mach) : heardMach f m = m := by simp [heardMach, u]

/-- Raising an event changes what the collector will handle at the end of the stitch, and nothing else. -/
theorem raiseEv_cases (j : Nat) (c : Ctx) (m : Mach) :
    raiseEv j c m = m ∨ ∃ r, raiseEv j c m = { m with now := { m.now with raised := r :: m.now.raised } } := by
  unfold raiseEv occur
  split
  · exact .inl rfl
  · exact .inr ⟨_, rfl⟩

/-- A value read of either branch of a choice is read of the choice. -/
theorem Mach.rd_ite {a b : Mach} {k v : Nat} (c : Prop) [Decidable c] (ha : a.rd k = v) (hb : b.rd k = v) :
    (if c then a else b).rd k = v := by
  by_cases h : c
  · simp only [h, if_true, ha]
  · simp only [h, if_false, hb]

/-- A page of the log written to flash changes no dictionary entry. -/
theorem flushPage_rd (m : Mach) (k : Nat) : (flushPage true m).rd k = m.rd k := by
  by_cases h : m.mgmt.page.records.length = 0
  · simp only [flushPage, h, if_true]
  · simp only [flushPage, h, if_false, if_true]; rfl

/-- A log record changes no dictionary entry. -/
theorem logChange_frame (m : Mach) (k : Nat) : (logChange m).rd k = m.rd k := by
  unfold logChange logRecord
  exact Mach.rd_ite _ (flushPage_rd _ k) rfl

/-- Applying operations that each leave an entry alone leaves it alone. -/
theorem forAll_rd {α : Type} (f : α → Mach → Mach) (k : Nat) (hf : ∀ x m, (f x m).rd k = m.rd k) (l : List α) :
    ∀ m, (forAll l f m).rd k = m.rd k := by
  induction l with
  | nil => intro m; rfl
  | cons x l ih => intro m; exact (ih _).trans (hf x m)

/-- Taking a free value advances the counter, and nothing else. -/
@[simp] theorem Mach.fresh_snd (m : Mach) : m.fresh.2 = { m with free := m.free + 1 } := rfl

end Sys2Proof.Machine
end

