-- ==== Sys2Proof/Laws/Memory.lean ====
section
/-! SUPPORT. The entries and the large entries stay in their canonical form under every operation that writes them, and
State.reset has it. A read of a word after a write of one. -/

namespace Sys2Proof.Machine

theorem Memory.wf_iff (m : Mach) :
    Memory.wf m = true ↔ Tab.wf dflt m.pb = true ∧ Tab.wf (fun _ => 0) m.ram = true := by
  simp [Memory.wf]

/-- What leaves both tables alone keeps the form. -/
theorem Memory.wf_of_same {m m' : Mach} (hp : m'.pb = m.pb) (hr : m'.ram = m.ram) : Memory.wf m' = Memory.wf m := by
  simp [Memory.wf, hp, hr]

/-- The form holds at reset. -/
theorem Memory.wf_reset : Memory.wf State.reset.m = true := by decide +kernel

theorem Memory.wf_wr (m : Mach) (k v : Nat) (h : Memory.wf m = true) : Memory.wf (m.wr k v) = true := by
  rw [Memory.wf_iff] at *; exact ⟨Tab.wf_put dflt m.pb k v h.1, h.2⟩

theorem Memory.wf_putWord (m : Mach) (k w v : Nat) (h : Memory.wf m = true) : Memory.wf (m.putWord k w v) = true := by
  rw [Memory.wf_iff] at *; exact ⟨h.1, Tab.wf_put (fun _ => 0) m.ram (wordKey k w) _ h.2⟩

theorem Memory.wf_putWords (n : Nat) : ∀ (m : Mach) (k w v : Nat), Memory.wf m = true →
    Memory.wf (m.putWords k w v n) = true := by
  induction n with
  | zero => intro m k w v h; exact h
  | succ n ih => intro m k w v h; exact ih _ _ _ _ (Memory.wf_putWord m k w v h)

theorem Memory.wf_putBit (m : Mach) (k n : Nat) (b : Bool) (h : Memory.wf m = true) : Memory.wf (m.putBit k n b) = true :=
  Memory.wf_wr _ _ _ h

theorem Memory.wf_bumpWrap (m : Mach) (k n : Nat) (h : Memory.wf m = true) : Memory.wf (m.bumpWrap k n) = true :=
  Memory.wf_wr _ _ _ h

theorem Memory.wf_bump (m : Mach) (k n : Nat) (h : Memory.wf m = true) : Memory.wf (m.bump k n) = true := by
  simp only [Mach.bump, Mach.fresh]
  split
  · exact Memory.wf_wr _ _ _ h
  · exact Memory.wf_wr _ _ _ h

theorem Memory.wf_bumpField (m : Mach) (k w i n : Nat) (h : Memory.wf m = true) :
    Memory.wf (m.bumpField k w i n) = true := by
  simp only [Mach.bumpField, Mach.fresh]
  split
  · exact Memory.wf_wr _ _ _ h
  · exact Memory.wf_wr _ _ _ h

/-- Applying an operation to every element of a list keeps the form if the operation does. -/
theorem Memory.wf_forAll {α : Type} (f : α → Mach → Mach) (hf : ∀ x m, Memory.wf m = true → Memory.wf (f x m) = true)
    (l : List α) : ∀ m, Memory.wf m = true → Memory.wf (forAll l f m) = true := by
  induction l with
  | nil => intro m h; exact h
  | cons x l ih => intro m h; exact ih _ (hf x m h)

theorem Tab.wf_drop {α : Type} [DecidableEq α] (d : Nat → α) (test : Nat → Bool) (t : Tab α) (h : Tab.wf d t = true) :
    Tab.wf d (Tab.drop test t) = true := Tab.wfFrom_filter d _ t none h

/-- Writing a list of entries one after another keeps the form. -/
theorem Tab.wf_putAll {α β : Type} [DecidableEq α] (d : α) (key : β → Nat) (val : β → α) (l : List β) :
    ∀ t : Tab α, Tab.wf (fun _ => d) t = true →
      Tab.wf (fun _ => d) (l.foldl (fun t e => Tab.put d t (key e) (val e)) t) = true := by
  induction l with
  | nil => intro t h; exact h
  | cons x l ih => intro t h; exact ih _ (Tab.wf_put (fun _ => d) t (key x) (val x) h)

/-- A domain that loses its power. -/
theorem Memory.wf_dropVolatile (d : Nat) (m : Mach) (h : Memory.wf m = true) : Memory.wf (dropVolatile d m) = true := by
  unfold dropVolatile
  rw [Memory.wf_iff] at *
  dsimp only
  exact ⟨Tab.wf_drop dflt _ m.pb h.1, Tab.wf_drop _ _ m.ram h.2⟩

/-- Saved entries loaded from flash. -/
theorem Memory.wf_loadEntries (test : Nat → Bool) (c : FlashCopy) (m : Mach) (h : Memory.wf m = true) :
    Memory.wf (loadEntries test c m) = true := by
  have h1 := Memory.wf_forAll (fun (e : Nat × Nat) m => m.wr e.1 e.2) (fun e m => Memory.wf_wr m e.1 e.2)
    (c.regs.filter fun e => test e.1) m h
  rw [Memory.wf_iff] at *
  exact ⟨h1.1, Tab.wf_putAll 0 Prod.fst Prod.snd _ _ h1.2⟩

/-- A rule copy. -/
theorem Memory.wf_copyBank (t a b : Nat) (m : Mach) (h : Memory.wf m = true) : Memory.wf (copyBank t a b m) = true := by
  unfold copyBank
  split
  · rw [Memory.wf_iff] at *
    exact ⟨h.1, Tab.wf_putAll 0 _ Prod.snd _ _ (Tab.wf_drop _ _ m.ram h.2)⟩
  · exact Memory.wf_wr _ _ _ h

/-- Large entries whose keys fail a test are dropped. -/
theorem Memory.wf_filterRam (test : Nat × Nat → Bool) (m : Mach) (h : Memory.wf m = true) :
    Memory.wf { m with ram := m.ram.filter test } = true := by
  rw [Memory.wf_iff] at *; exact ⟨h.1, Tab.wfFrom_filter _ test m.ram none h.2⟩

/-- Entries whose keys pass a test are dropped, as by a management reset. -/
theorem Memory.wf_dropEntries (test : Nat → Bool) (m : Mach) (h : Memory.wf m = true) :
    Memory.wf { m with pb := Tab.drop test m.pb } = true := by
  rw [Memory.wf_iff] at *; exact ⟨Tab.wf_drop dflt test m.pb h.1, h.2⟩

@[simp] theorem Mach.word_putWord_same (m : Mach) (k w v : Nat) : (m.putWord k w v).word k w = v % 2 ^ 32 := by
  simp [Mach.word, Mach.putWord]

theorem Mach.word_putWord_other (m : Mach) (k w v k' w' : Nat) (h : wordKey k' w' ≠ wordKey k w) :
    (m.putWord k w v).word k' w' = m.word k' w' := by
  simp [Mach.word, Mach.putWord, Tab.get_put_other _ _ _ _ _ _ h]

/-- Words of different entries, or different words of one, are different places. -/
theorem wordKey_ne (k w k' w' : Nat) (hw : w < 2 ^ 24) (hw' : w' < 2 ^ 24) (h : k ≠ k' ∨ w ≠ w') :
    wordKey k w ≠ wordKey k' w' := by
  simp only [wordKey] at *; omega

end Sys2Proof.Machine
end

