-- ==== Sys2Proof/Laws/Network.lean ====
section
/-! SUPPORT. What the shared operations on the on-chip network, on counts and on timed rows can do, each said once. -/

namespace Sys2Proof.Machine

/-- A message sent on the network joins the messages that wait at their sources, and nothing else changes; where its router or its
destination is off, or the destination takes nothing, nothing changes at all (R192, R193). -/
theorem nocPut_cases (v src dst slice tag : Nat) (data : Option Nat) (b : NocBody) (m : Mach) :
    nocPut v src dst slice tag data b m = m ∨
    ∃ x, nocPut v src dst slice tag data b m = m.updNoc (fun n => { n with msgs := n.msgs ++ [x], next := n.next + 1 }) ∧
      x.id = m.noc.next ∧ x.src = src ∧ x.body = b ∧ x.place = .source ∧ x.failed = false ∧ x.since = m.now.stitch := by
  unfold nocPut
  split
  · exact .inl rfl
  · exact .inr ⟨_, rfl, rfl, rfl, rfl, rfl, rfl, rfl⟩

/-- It is sent where the destination takes messages and the router is on. -/
theorem nocPut_sent {src dst : Nat} {m : Mach} (h : nocReach m dst = true) (r : m.domOn (routerDomain (routerOf src)) = true)
    (v slice tag : Nat) (data : Option Nat) (b : NocBody) :
    ∃ x, (nocPut v src dst slice tag data b m).noc.msgs = m.noc.msgs ++ [x] ∧ x.src = src ∧ x.body = b := by
  simp [nocPut, h, r, Mach.updNoc]

/-- Sending a message changes no entry and shows nothing outside. -/
theorem nocPut_rd (v src dst slice tag : Nat) (data : Option Nat) (b : NocBody) (m : Mach) (k : Nat) :
    (nocPut v src dst slice tag data b m).rd k = m.rd k := by
  rcases nocPut_cases v src dst slice tag data b m with h | ⟨x, h, -⟩ <;> rw [h]
  rfl

theorem nocPut_out (v src dst slice tag : Nat) (data : Option Nat) (b : NocBody) (m : Mach) :
    (nocPut v src dst slice tag data b m).out = m.out := by
  rcases nocPut_cases v src dst slice tag data b m with h | ⟨x, h, -⟩ <;> rw [h]
  rfl

/-- Where no message that has arrived or is on its way passes the test, none is taken and nothing changes. -/
theorem nocClaim_none {test : NocBody → Bool} {m : Mach} (a : ∀ y ∈ m.noc.arrived, test y.msg.body = false)
    (w : ∀ x ∈ m.noc.msgs, test x.body = false) : nocClaim test m = (none, m) := by
  have ha : (m.noc.arrived.find? fun y => test y.msg.body) = none := List.find?_eq_none.2 fun y h => by simp [a y h]
  have hw : (m.noc.msgs.find? fun x => test x.body) = none := List.find?_eq_none.2 fun x h => by simp [w x h]
  simp [nocClaim, ha, hw]

/-- A count that fits its width is the sum; otherwise a free value is taken for it. -/
theorem Mach.bump_fits {m : Mach} {k n : Nat} (h : m.rd k + n < 2 ^ widthOf k) : m.bump k n = m.wr k (m.rd k + n) := by
  simp [Mach.bump, h]

/-- A row of a timed event acts when its event has come, and otherwise changes nothing. -/
theorem whenDue_come {due : Mach → Bool} {m : Mach} (h : due m = true) (f : Mach → Mach) : whenDue due f m = f m := by
  simp [whenDue, h]

theorem whenDue_open {due : Mach → Bool} {m : Mach} (h : due m = false) (f : Mach → Mach) : whenDue due f m = m := by
  simp [whenDue, h]

end Sys2Proof.Machine
end

