-- ==== Sys2Proof/Tests/Slice0.lean ====
section
/-! SUPPORT. Tests of the model: ill-formed commands are refused, and the hypotheses of every statement are met by
concrete states and operands. -/

namespace Sys2Proof.Tests

open Sys2Proof.Machine

set_option Elab.async false

/-- The switch after reset with the entries es written and f applied, and fuses made by o. -/
def made (es : List (Nat × Nat)) (f : Mach → Mach) (o : Otp → Otp) : State :=
  ⟨⟨f (es.foldl (fun m e => m.wr e.1 e.2) Mach.reset), o Otp.reset⟩, []⟩
/-- Every power domain on, and the firmware running. -/
def running : Mach :=
  { Mach.reset with pb := (List.range 77).map (fun n => (0xA00002 + 0x100 * n, 3)) ++ [(Clk.CLK_STATE, 1)],
                    mgmt := { Mgmt.reset with up := true } }
/-- A running part in OWNED with the entries es written, and f applied to the switch. -/
def on (es : List (Nat × Nat)) (f : Mach → Mach) : State :=
  ⟨⟨f (es.foldl (fun m e => m.wr e.1 e.2) running), { Otp.reset with ctrl := 2 ^ 24 - 1, lcState := 3, nonce := 5 }⟩, []⟩
/-- The same with only entries written. -/
def up (es : List (Nat × Nat)) : State := on es id
/-- A state with other fuses. -/
def fused (f : Otp → Otp) (s : State) : State := { s with otp := f s.otp }
/-- Rule r of bank b at check site t: a slice, the pages it covers, and its permissions. -/
def withRule (t b r slice first last perms : Nat) (m : Mach) : Mach :=
  m.putWords (bankKey t b) (4 * r) (1 + 2 * perms + 2 ^ 8 * slice + 2 ^ 20 * 4095 + 2 ^ 32 * first + 2 ^ 72 * last) 4
/-- Host port 0 of slice 4095, window 1023 over device port 63, and a rule for the pages 0 to 9. -/
def pool (es : List (Nat × Nat)) (f : Mach → Mach) : State :=
  on ([(Port.ENABLE 0, 1), (Port.ROLE 0, 1), (PortStat.LTSSM 0, 4), (PortMap.DEFAULT_SLICE 0, 4095), (Slc.SLC_STATE 4095, 1),
    (Port.ENABLE 63, 1), (PortStat.LTSSM 63, 4), (Win.W_STATE 1023, 1), (Win.W_SIZE 1023, 1), (Win.W_TARGETS 1023, 1 + 4 * 63)] ++ es)
    fun m => f (withRule 0 0 8191 4095 0 9 7 m)
/-- The tracked window of `pool`, agents CA5 on port 0 and CA63 on port 1, and directory entry e for sector 3. -/
def cohere (es : List (Nat × Nat)) (e : Nat) (f : Coh → Coh) : State :=
  pool ([(Win.W_TYPE 1023, 1), (Ce.CE_STATE 0, 2), (Ce.CE_STATE 1, 2), (Ce.CE_STATE 2, 2), (Ce.CE_STATE 3, 2),
    (Port.CA_ID 0, 5), (Port.ENABLE 1, 1), (Port.ROLE 1, 1), (PortStat.LTSSM 1, 4), (Port.CA_ID 1, 63)] ++ es)
    fun m => { m with coh := f { m.coh with dir := if e = 0 then [] else [(3 * 2 ^ 24, e)] } }
/-- An entry of slice 4095: line 3 in state s, with OWNER o and SHARERS n. -/
def entry3 (s o n : Nat) : Nat := n + 2 ^ 73 * s + 2 ^ 76 * o + 2 ^ 112 * 4095
def req3 : CohReq := ⟨960, .agent 5, 0, 9, 4095, 0, .s, false, 77, 2 ^ 64 - 1, false, none, 0, 0, 8, 3, 0⟩
/-- A transient entry of sector 3 whose line 3 is x. -/
def tlt3 (x : TLine) : Tlt := ⟨3, 0, 0, [TLine.idleLine, TLine.idleLine, TLine.idleLine, x], false, false⟩
/-- A pair with one seam active, and the entries es. -/
def linked (es : List (Nat × Nat)) (f : Mach → Mach) : State :=
  on ([(Seam.SEAM_MODE, 1), (SeamCfg.SEAM_ENABLE 0, 1), (SeamStat.LINK_STATE 0, 3), (Twin.TWIN_ENABLE, 1)] ++ es) f
/-- The same switch in stitch n. -/
def late (n : Nat) (m : Mach) : Mach := { m with now := { m.now with stitch := n, ftime := 8 * n } }
/-- The same switch in stitch n, where wait k began in stitch 1. -/
def waiting (k n : Nat) (m : Mach) : Mach := late n ((late 1 m).beginWait k)
/-- A datagram that management Ethernet port 1 takes, from the highest address and port. -/
def udp1 : Udp := ⟨⟨1, 2 ^ 32 - 1, 65535⟩, dflt Preoc.UDP_PORT, [], 64, false⟩
/-- The bits of the seam frame with this header and payload. -/
def frameBits (header payload : Nat) : Nat :=
  let body := toBytes 8 header ++ toBytes 234 payload
  let crc := toBytes 8 (crc64 body)
  ofBytes (body ++ crc ++ rsParity (body ++ crc))
/-- Seam 1 active, with the entries es and f applied to it. -/
def seamed (es : List (Nat × Nat)) (f : SeamSt → SeamSt) : State :=
  on ([(Seam.SEAM_MODE, 2), (SeamStat.LINK_STATE 1, 3), (SeamCfg.SEAM_ENABLE 1, 1), (SeamStat.MASK_NOW 1, 3)] ++ es)
    fun m => m.updSeam 1 f
/-- A NoC message of slice 0 that waits in a router since stitch 0. -/
def stuck7 : NocMsg := ⟨7, 0, 0, none, false, .go 63 1, 0, .mid 5 2, 0, 0, false⟩
/-- Seam 1 in LINK_STATE st, where wait k began n stitches ago. -/
def seamedW (st k n : Nat) (f : SeamSt → SeamSt) : State :=
  on [(Seam.SEAM_MODE, 2), (SeamStat.LINK_STATE 1, st), (SeamCfg.SEAM_ENABLE 1, 1), (SeamStat.MASK_NOW 1, 3)]
    fun m => waiting k (1 + n) (m.updSeam 1 f)
/-- The payload of an INIT frame of the peer of seam 1: role, VC count and VC map of a switch after reset, and serial number 77. -/
def init1 : Nat := 2 ^ 144 * (1 + 2 ^ 8 * 1 + 2 ^ 32 * Mach.reset.rd (SeamCfg.VC_COUNT 1) + 2 ^ 64 * Mach.reset.rd (SeamCfg.VC_MAP 1) + 2 ^ 256 * 77)
/-- The lane blocks of seam 1 with their PLLs locked and their lanes active. -/
def blocksUp : List (Nat × Nat) := [(Blk.PLL_STATE 34, 2), (Blk.PLL_STATE 35, 2)] ++ (List.range 16).map fun i => (Lane.LANE_STATE (272 + i), 4)
/-- Slot 31 with the entries es, whose state beside its entries is f of what reset leaves. -/
def slot31 (es : List (Nat × Nat)) (f : SlotSt → SlotSt) : State := on es fun m => m.updSlot 31 f

/-- The hypotheses of each clause of step_runs_the_front_command can be met. -/
theorem test_step_runs_the_front_command_met :
    (∃ (c : Instr) (s : State) (rest : List Instr), s.pending = c :: rest) ∧
    (∃ (s : State), s.pending = []) := by
  refine ⟨?_, ?_⟩
  · exact ⟨.refillBoundary, { up [] with pending := [.refillBoundary, .chipReset] }, [.chipReset], by decide +kernel⟩
  · exact ⟨State.reset, by decide +kernel⟩

/-- The hypotheses of every_command_answers can be met. -/
theorem test_every_command_answers_met :
    ∃ (s : State), s.WellQueued :=
  ⟨{ up [] with pending := [.refillBoundary, .chipReset] }, by decide +kernel⟩

/-- The hypotheses of each clause of stitches_and_ticks can be met. -/
theorem test_stitches_and_ticks_met :
    (∃ (env : StitchEnv) (s : State), s.live ∧ wfEnv env = true ∧ resetIsDue s.m = false) ∧
    (∃ (env : StitchEnv) (s : State), s.live ∧ wfEnv env = true ∧ resetIsDue s.m = true) ∧
    (∃ (s : State), s.live ∧ s.m.rd Clk.STRETCH_NOW = 5) ∧
    (∃ (s : State), s.live ∧ s.m.rd Clk.STRETCH_NOW ≠ 5) ∧
    (∃ (env : TickEnv) (s : State), s.live ∧ wfTick env = true ∧ s.m.now.stitch % 125 = 0) ∧
    (∃ (env : TickEnv) (s : State), s.live ∧ wfTick env = true ∧ s.m.now.stitch % 125 ≠ 0) ∧
    (∃ (s : State), s.live ∧ s.m.now.stitch % max 1 s.m.traffic.refillLen = 0 ∧ s.m.traffic.refilled ≠ some s.m.now.stitch ∧
      s.m.now.lost = false) ∧
    (∃ (s : State), s.live ∧ s.m.now.stitch % max 1 s.m.traffic.refillLen = 0 ∧ s.m.traffic.refilled ≠ some s.m.now.stitch ∧
      s.m.now.lost = true) ∧
    (∃ (s : State), s.live ∧ s.m.traffic.refilled = some s.m.now.stitch) := by
  refine ⟨?_, ?_, ?_, ?_, ?_, ?_, ?_, ?_, ?_⟩
  · exact ⟨⟨[.boltCorr 7 ⟨0, 0, 0⟩, .ctrParity 1023], [⟨5, 4095, 2⟩], []⟩, up [], by decide +kernel⟩
  · exact ⟨⟨[.boltCorr 7 ⟨0, 0, 0⟩, .ctrParity 1023], [⟨5, 4095, 2⟩], []⟩, on [] fun m => waiting waitReset (1 + msStitches 1) (m.updPower fun x => { x with resetDue := true }), by decide +kernel⟩
  · exact ⟨up [(Clk.STRETCH_NOW, 5)], by decide +kernel⟩
  · exact ⟨up [(Clk.STRETCH_NOW, 4)], by decide +kernel⟩
  · exact ⟨⟨[(39, 700)], [⟨31, 12000, 11900, 5, true, true, false, false, false⟩], true, false, true⟩, on [] fun m => { m with now := { m.now with stitch := 250 } }, by decide +kernel⟩
  · exact ⟨⟨[(39, 700)], [⟨31, 12000, 11900, 5, true, true, false, false, false⟩], true, false, true⟩, on [] fun m => { m with now := { m.now with stitch := 251 } }, by decide +kernel⟩
  · exact ⟨on [] fun m => { m with now := { m.now with stitch := 256 } }, by decide +kernel⟩
  · exact ⟨on [] fun m => { m with now := { m.now with stitch := 128, lost := true } }, by decide +kernel⟩
  · exact ⟨on [] fun m => { late 128 m with traffic := { m.traffic with refilled := some 128 } }, by decide +kernel⟩

/-- The hypotheses of each clause of power_domain_changes can be met. -/
theorem test_power_domain_changes_met :
    (∃ (n : Nat) (s : State), n < 76 ∧ s.managed ∧ pdLifecycle n s.toDev = false ∧ pdCheck [] n 1 s.m = none ∧ pdState s.m n =
      0) ∧
    (∃ (n : Nat) (s : State), n < 77 ∧ s.managed ∧ pdLifecycle n s.toDev = false ∧ pdCheck [] n 0 s.m = none ∧ pdState s.m n =
      3) ∧
    (∃ (n : Nat) (s : State), n < 77 ∧ s.managed ∧ pdResetCheck n s.m = none ∧ (family n).filter (fun c => pdState s.m c == 3)
      = [n]) ∧
    (∃ (n : Nat) (s : State), n < 76 ∧ s.live ∧ pdState s.m n = 4 ∧ s.m.rd (Pd.PD_REQ n) = 0 ∧ quiet s.m n = true ∧ (⟨n, false⟩
      : Ramp) ∉ s.m.power.batch ∧ (⟨n, false⟩ : Ramp) ∉ s.m.power.running) ∧
    (∃ (s : State), s.live ∧ pdState s.m 76 = 4 ∧ s.m.rd (Pd.PD_REQ 76) = 0 ∧ quiet s.m 76 = true ∧ (⟨76, false⟩ : Ramp) ∉
      s.m.power.batch ∧ (⟨76, false⟩ : Ramp) ∉ s.m.power.running) ∧
    (∃ (s : State), s.live ∧ s.m.power.batch ≠ [] ∧ s.m.power.prewarn = true ∧ s.m.begun waitWarn ≠ 0 ∧ s.m.begun waitWarn +
      250 ≤ s.m.now.stitch) ∧
    (∃ (n : Nat) (s : State) (rs : List Ramp), n < 77 ∧ s.live ∧ s.m.power.running = ⟨n, false⟩ :: rs ∧ s.m.begun waitRamp +
      rampLength n ≤ s.m.now.stitch) ∧
    (∃ (n : Nat) (s : State) (rs : List Ramp), n < 77 ∧ s.live ∧ s.m.power.running = ⟨n, true⟩ :: rs ∧ s.m.begun waitRamp +
      rampLength n ≤ s.m.now.stitch ∧ s.m.domOn 1 = true) ∧
    (∃ (n : Nat) (s : State), n < 77 ∧ s.live ∧ (pdState s.m n = 2 ∨ pdState s.m n = 5) ∧ s.m.begun (waitDomain n) + 1000 ≤
      s.m.now.stitch) := by
  refine ⟨?_, ?_, ?_, ?_, ?_, ?_, ?_, ?_, ?_⟩
  · exact ⟨75, up [(Pd.PD_STATE 75, 0)], by decide +kernel⟩
  · exact ⟨75, up [], by decide +kernel⟩
  · exact ⟨75, up [], by decide +kernel⟩
  · exact ⟨75, up [(Pd.PD_STATE 75, 4), (Pd.PD_REQ 75, 0)], by decide +kernel⟩
  · exact ⟨up [(Pd.PD_STATE 76, 4), (Pd.PD_REQ 76, 0)], by decide +kernel⟩
  · exact ⟨on [] fun m => waiting waitWarn 251 { m with power := { m.power with batch := [⟨64, false⟩, ⟨75, true⟩], prewarn := true } }, by decide +kernel⟩
  · exact ⟨75, on [(Pd.PD_STATE 75, 4)] fun m => waiting waitRamp 31 { m with power := { m.power with running := [⟨75, false⟩, ⟨64, true⟩] } }, [⟨64, true⟩], by decide +kernel⟩
  · exact ⟨75, on [(Pd.PD_STATE 75, 2)] fun m => waiting waitRamp 31 { m with power := { m.power with running := [⟨75, true⟩, ⟨64, true⟩] } }, [⟨64, true⟩], by decide +kernel⟩
  · exact ⟨76, on [(Pd.PD_STATE 76, 5)] fun m => waiting (waitDomain 76) 1001 m, by decide +kernel⟩

/-- The hypotheses of each clause of clocks_and_sensors can be met. -/
theorem test_clocks_and_sensors_met :
    (∃ (s : State), s.live ∧ s.m.rd Clk.CLK_STATE = 1) ∧
    (∃ (s : State), s.live ∧ s.m.rd Clk.CLK_STATE = 2) ∧
    (∃ (level : Nat) (s : State), s.live ∧ level < 6 ∧ s.m.rd Clk.STRETCH_NOW < level ∧ (3 ≤ s.m.rd Clk.STRETCH_NOW ∨ level <
      3)) ∧
    (∃ (level : Nat) (s : State), s.live ∧ level < 6 ∧ s.m.rd Clk.STRETCH_NOW < 3 ∧ 3 ≤ level) ∧
    (∃ (s : State), s.live) ∧
    (∃ (temps : List Int) (s : State), s.live ∧ temps.length = 48 ∧ (∀ x ∈ temps, -2147483648 ≤ x ∧ x < 125000 ∧ x < ((1000 *
      s.m.rd Therm.TRIP_C : Nat) : Int))) ∧
    (∃ (i : Nat) (s : State), i < 48 ∧ s.managed) ∧
    (∃ (v : Nat) (s : State), v < 40 ∧ s.managed) := by
  refine ⟨?_, ?_, ?_, ?_, ?_, ?_, ?_, ?_⟩
  · exact ⟨up [], by decide +kernel⟩
  · exact ⟨up [(Clk.CLK_STATE, 2)], by decide +kernel⟩
  · exact ⟨5, up [(Clk.STRETCH_NOW, 3)], by decide +kernel⟩
  · exact ⟨3, up [(Clk.STRETCH_NOW, 2)], by decide +kernel⟩
  · exact ⟨up [(Clk.STRETCH_NOW, 5)], by decide +kernel⟩
  · exact ⟨List.replicate 48 (-40000), up [], by decide +kernel⟩
  · exact ⟨47, up [(Temp.T_NOW 47, 9)], by decide +kernel⟩
  · exact ⟨39, up [(Volt.V_NOW 39, 9)], by decide +kernel⟩

/-- The hypotheses of each clause of voltage_plan can be met. -/
theorem test_voltage_plan_met :
    (∃ (s : State), s.managed ∧ s.m.rd Avs.PLAN_STATE = 0) ∧
    (∃ (s : State), s.live ∧ s.m.rd Avs.PLAN_STATE = 0 ∧ s.m.flash.planned + s.m.rd Avs.PLAN_PERIOD_H ≤ s.m.flash.hours) ∧
    (∃ (s : State), s.live ∧ s.m.rd Avs.PLAN_STATE = 1 ∧ s.m.begun waitPlan + msStitches 10 ≤ s.m.now.stitch) ∧
    (∃ (v : Nat) (s : State) (p : Plan), s.live ∧ s.m.power.plan = some p ∧ s.m.begun waitAvs + usStitches 5 ≤ s.m.now.stitch ∧
      s.m.rd Avs.VDD_SET_MV + 5 < avsGoal p s.m ∧ v = s.m.rd Avs.VDD_SET_MV + 5 ∧ v < 65536) ∧
    (∃ (v : Nat) (s : State) (p : Plan), s.live ∧ s.m.power.plan = some p ∧ s.m.begun waitAvs + usStitches 5 ≤ s.m.now.stitch ∧
      s.m.rd Avs.VDD_SET_MV < v ∧ v ≤ s.m.rd Avs.VDD_SET_MV + 5 ∧ v = avsGoal p s.m ∧ v < 65536) ∧
    (∃ (s : State) (p : Plan), s.live ∧ s.m.power.plan = some p ∧ s.m.begun waitAvs + usStitches 5 ≤ s.m.now.stitch ∧
      s.m.power.avsRetries < 3) := by
  refine ⟨?_, ?_, ?_, ?_, ?_, ?_⟩
  · exact ⟨up [], by decide +kernel⟩
  · exact ⟨on [(Avs.PLAN_PERIOD_H, 2)] fun m => { m with flash := { m.flash with planned := 3, hours := 5 } }, by decide +kernel⟩
  · exact ⟨on [(Avs.PLAN_STATE, 1), (Avs.VDD_SET_MV, 700), (Avs.VDD_MAX_MV, 800), (Avs.VDD_MIN_MV, 600), (Avs.K_SENS_FS, 2)] fun m => waiting waitPlan (1 + msStitches 10) m, by decide +kernel⟩
  · exact ⟨705, on [(Avs.VDD_SET_MV, 700), (Avs.VDD_MIN_MV, 600), (Avs.VDD_MAX_MV, 800), (Avs.PLAN_STATE, 2)] fun m => waiting waitAvs 626 { m with power := { m.power with plan := some ⟨700, 720, 0, 0, 0, 0, [], true⟩ } }, ⟨700, 720, 0, 0, 0, 0, [], true⟩, by decide +kernel⟩
  · exact ⟨720, on [(Avs.VDD_SET_MV, 715), (Avs.VDD_MIN_MV, 600), (Avs.VDD_MAX_MV, 800), (Avs.PLAN_STATE, 2)] fun m => waiting waitAvs 626 { m with power := { m.power with plan := some ⟨700, 720, 0, 0, 0, 0, [], true⟩ } }, ⟨700, 720, 0, 0, 0, 0, [], true⟩, by decide +kernel⟩
  · exact ⟨on [(Avs.VDD_SET_MV, 700), (Avs.VDD_MIN_MV, 600), (Avs.VDD_MAX_MV, 800), (Avs.PLAN_STATE, 2)] fun m => waiting waitAvs 626 { m with power := { m.power with plan := some ⟨700, 720, 0, 0, 0, 0, [], true⟩, avsRetries := 2 } }, ⟨700, 720, 0, 0, 0, 0, [], true⟩, by decide +kernel⟩

/-- The hypotheses of each clause of chip_reset_and_release can be met. -/
theorem test_chip_reset_and_release_met :
    (∃ (s : State), s.m.held = true) ∧
    (∃ (s : State), s.managed) ∧
    (∃ (c : Instr) (s : State), s.m.held = true ∧ c.wf = true ∧ c ≠ .chipReset ∧ (∀ straps, c ≠ .chipResetRelease straps)) := by
  refine ⟨?_, ?_, ?_⟩
  · exact ⟨made [] (fun m => { m with held := true }) id, by decide +kernel⟩
  · exact ⟨up [], by decide +kernel⟩
  · exact ⟨.refillBoundary, made [] (fun m => { m with held := true }) id, by decide +kernel, by decide +kernel, by decide +kernel, fun _ h => (nomatch h)⟩

/-- The hypotheses of each clause of otp_load_and_burn can be met. -/
theorem test_otp_load_and_burn_met :
    (∃ (s : State), s.live ∧ pdState s.m 1 = 0) ∧
    (∃ (n : Nat) (s : State), s.managed ∧ otpBurnCheck s.toDev = none ∧ s.otp.target = some n) ∧
    (∃ (n : Nat) (s : State), s.live ∧ s.otp.burning = some n ∧ blockField (s.otp.gen n) 252 4 = blockCrc (s.otp.gen n)) ∧
    (∃ (n : Nat) (s : State), s.live ∧ s.otp.burning = some n) := by
  refine ⟨?_, ?_, ?_, ?_⟩
  · exact ⟨made [] id (fun o => { o with ctrl := 2 ^ 8 - 1 }), by decide +kernel⟩
  · exact ⟨0, fused (fun o => { o with ctrl := 2 ^ 8 - 1, lcState := 1 }) (up [(Otp.OTP_STAGE, 5)]), by decide +kernel⟩
  · exact ⟨3, fused (fun o => { o with burning := some 3, gens := [0, 0, 0, 2 ^ 2016 * blockCrc 0] }) (up [(Otp.OTP_STATUS, 1)]), by decide +kernel⟩
  · exact ⟨3, fused (fun o => { o with burning := some 3 }) (up [(Otp.OTP_STATUS, 1)]), by decide +kernel⟩

/-- The hypotheses of each clause of life_cycle_and_tokens can be met. -/
theorem test_life_cycle_and_tokens_met :
    (∃ (target crc : Nat) (s : State), s.live ∧ s.otp.lcState < 2 ∧ target < 4 ∧ lcCheck .jtag target crc s.toDev = none) ∧
    (∃ (target crc : Nat), target < 256 ∧ crc < 2 ^ 32) ∧
    (∃ (s : State), s.managed ∧ s.m.rd Lc.TOKEN_FAILS < 8) := by
  refine ⟨?_, ?_, ?_⟩
  · exact ⟨1, serialCrc Otp.reset, fused (fun _ => { Otp.reset with ctrl := maskBits 72 4 }) (up []), by decide +kernel⟩
  · exact ⟨255, 2^32-1, by decide +kernel⟩
  · exact ⟨up [(Lc.TOKEN_FAILS, 7)], by decide +kernel⟩

/-- The hypotheses of each clause of jtag_and_board_present can be met. -/
theorem test_jtag_and_board_present_met :
    (∃ (j : JtagInstr) (s : State), s.live ∧ (j = .idcode ∨ j = .bypass)) ∧
    (∃ (j : JtagInstr) (s : State), s.live ∧ s.otp.lcState < 2 ∧ s.otp.jtag = false ∧ (j = .boundaryScan ∨ j = .debug ∨ j =
      .testMode)) ∧
    (∃ (s : State), s.live ∧ s.otp.lcState = 0 ∧ s.otp.usable 0 = true ∧ s.otp.busy = false) ∧
    (∃ (j : JtagInstr) (s : State), s.live ∧ 2 ≤ s.otp.lcState ∧ s.otp.lcState ≠ 4 ∧ j ≠ .boundaryScan) ∧
    (∃ (s : State), s.live) := by
  refine ⟨?_, ?_, ?_, ?_, ?_⟩
  · exact ⟨.bypass, up [], by decide +kernel⟩
  · exact ⟨.debug, fused (fun o => { o with lcState := 1 }) (up []), by decide +kernel⟩
  · exact ⟨fused (fun _ => Otp.reset) (up []), by decide +kernel⟩
  · exact ⟨.writeG0 7, up [], by decide +kernel⟩
  · exact ⟨up [], by decide +kernel⟩

/-- The hypotheses of each clause of management_boot_and_activation can be met. -/
theorem test_management_boot_and_activation_met :
    (∃ (s : State), s.live ∧ s.m.domOn 1 = true) ∧
    (∃ (s : State), s.live ∧ s.m.mgmt.booting = true ∧ s.m.domOn 1 = true) ∧
    (∃ (s : State), s.live ∧ s.m.domOn 1 = true ∧ s.m.mgmt.confirmed = false ∧ (s.m.mgmt.up = true ∨ s.m.mgmt.booting = true) ∧
      s.m.begun waitBoot + msStitches 60000 ≤ s.m.now.stitch) ∧
    (∃ (s : State), s.managed ∧ s.m.rd Fw.FW_VERIFY = 2) ∧
    (∃ (s : State), s.managed ∧ s.m.rd Fw.FW_VERIFY = 2 ∧ s.m.domOn 1 = true) ∧
    (∃ (s : State), s.managed) ∧
    (∃ (s : State), s.managed ∧ s.otp.busy = false ∧ s.m.mgmt.runSvn ≤ 32) ∧
    (∃ (on : Medium) (s : State), s.managed ∧ wfMedium on = true ∧ mctpHeard on s.m = true ∧ s.m.mgmt.pldm = true ∧ s.m.rd
      Fw.FW_VERIFY = 2) ∧
    (∃ (on : Medium) (s : State), s.managed ∧ wfMedium on = true ∧ mctpHeard on s.m = true ∧ s.m.mgmt.pldm = true ∧ s.m.rd
      Fw.FW_VERIFY = 2 ∧ s.m.domOn 1 = true) := by
  refine ⟨?_, ?_, ?_, ?_, ?_, ?_, ?_, ?_, ?_⟩
  · exact ⟨up [(Sess.STATE 7, 2)], by decide +kernel⟩
  · exact ⟨on [] fun m => { m with mgmt := { m.mgmt with up := false, booting := true } }, by decide +kernel⟩
  · exact ⟨on [] fun m => waiting waitBoot (1 + msStitches 60000) m, by decide +kernel⟩
  · exact ⟨up [(Fw.FW_VERIFY, 2)], by decide +kernel⟩
  · exact ⟨up [(Fw.FW_VERIFY, 2)], by decide +kernel⟩
  · exact ⟨up [], by decide +kernel⟩
  · exact ⟨on [] fun m => { m with mgmt := { m.mgmt with runSvn := 32 } }, by decide +kernel⟩
  · exact ⟨.vdm 63, on [(Mctp.FMH_PORT, 63), (Fw.FW_VERIFY, 2)] fun m => { m with mgmt := { m.mgmt with pldm := true } }, by decide +kernel⟩
  · exact ⟨.bus, on [(Fw.FW_VERIFY, 2)] fun m => { m with mgmt := { m.mgmt with pldm := true } }, by decide +kernel⟩

/-- The hypotheses of each clause of firmware_images can be met. -/
theorem test_firmware_images_met :
    (∃ (o l d : Nat) (s : State), s.managed ∧ d < 2 ^ (8 * l) ∧ fwWriteCheck false o l s.m = none) ∧
    (∃ (on : Medium) (o l d : Nat) (s : State), s.managed ∧ wfMedium on = true ∧ mctpHeard on s.m = true ∧ s.m.mgmt.pldm = true
      ∧ d < 2 ^ (8 * l) ∧ fwWriteCheck true o l s.m = none) ∧
    (∃ (s : State), s.managed ∧ s.m.rd Fw.FW_VERIFY ≠ 1) ∧
    (∃ (svn : Nat) (s : State), s.live ∧ s.m.rd Fw.FW_VERIFY = 1 ∧ svn ≤ 32 ∧ svnMin s.otp.ctrl ≤ svn ∧ s.otp.vendorDigest ≠ 0) ∧
    (∃ (svn : Nat) (s : State), s.live ∧ s.m.rd Fw.FW_VERIFY = 1 ∧ svn < svnMin s.otp.ctrl) ∧
    (∃ (on : Medium) (s : State), s.managed ∧ wfMedium on = true ∧ mctpHeard on s.m = true ∧ s.m.mgmt.preocFw = false ∧
      s.m.mgmt.pldm = false) ∧
    (∃ (l d : Nat), d < 2 ^ (8 * l)) ∧
    (∃ (on : Medium) (s : State), s.managed ∧ wfMedium on = true ∧ mctpHeard on s.m = true ∧ s.m.mgmt.pldm = true ∧ s.m.rd
      Fw.FW_VERIFY ≠ 1) ∧
    (∃ (on : Medium) (s : State), s.managed ∧ wfMedium on = true ∧ mctpHeard on s.m = true ∧ s.m.mgmt.pldm = true) := by
  refine ⟨?_, ?_, ?_, ?_, ?_, ?_, ?_, ?_, ?_⟩
  · exact ⟨0, 4, 77, up [], by decide +kernel⟩
  · exact ⟨.vdm 63, 0, 4, 77, on [(Mctp.FMH_PORT, 63)] fun m => { m with mgmt := { m.mgmt with pldm := true } }, by decide +kernel⟩
  · exact ⟨up [], by decide +kernel⟩
  · exact ⟨32, fused (fun o => { o with inForce := 0, gens := [2 ^ 2048 - 1, 0, 0, 0] }) (up [(Fw.FW_VERIFY, 1)]), by decide +kernel⟩
  · exact ⟨0, fused (fun o => { o with ctrl := 2 ^ 256 - 1 }) (up [(Fw.FW_VERIFY, 1)]), by decide +kernel⟩
  · exact ⟨.vdm 63, up [(Mctp.FMH_PORT, 63)], by decide +kernel⟩
  · exact ⟨4, 77, by decide +kernel⟩
  · exact ⟨.bus, on [] fun m => { m with mgmt := { m.mgmt with pldm := true } }, by decide +kernel⟩
  · exact ⟨.bus, on [] fun m => { m with mgmt := { m.mgmt with pldm := true } }, by decide +kernel⟩

/-- The hypotheses of each clause of settings_log_and_windows can be met. -/
theorem test_settings_log_and_windows_met :
    (∃ (s : State), s.managed ∧ s.m.mgmt.saving = false) ∧
    (∃ (s : State), s.live ∧ s.m.mgmt.saving = true) ∧
    (∃ (s : State), s.managed ∧ s.m.mgmt.page.first + msNs (s.m.rd Log.FLUSH_MS) ≤ s.m.now.ftime) ∧
    (∃ (s : State), s.managed) ∧
    (∃ (k o len data : Nat) (write : Bool) (l : MwLine) (s : State), k < 16 ∧ data < 2 ^ (8 * len) ∧ s.managed ∧ nocReach s.m
      needleEnd = true ∧ mwShut s.m k o len = false ∧ mwCause s.m k (if write then needWrite else needRead) false (mwLines s.m
      k o len) = none ∧ mwLines s.m k o len = [l]) ∧
    (∃ (k o len data : Nat) (s : State), k < 16 ∧ data < 2 ^ (8 * len) ∧ s.managed ∧ mwShut s.m k o len = true ∧ s.m.rd
      (Mw.MW_ERRORS k) + 1 < 2 ^ widthOf (Mw.MW_ERRORS k)) ∧
    (∃ (k : Nat) (s : State), k < 16 ∧ s.managed ∧ s.m.on (Mw.MW_ENABLE k) = true ∧ s.m.mgmt.accesses.any (·.m == k) = false) := by
  refine ⟨?_, ?_, ?_, ?_, ?_, ?_, ?_⟩
  · exact ⟨up [], by decide +kernel⟩
  · exact ⟨on [(Port.WIDTH 63, 4)] fun m => { m with mgmt := { m.mgmt with saving := true } }, by decide +kernel⟩
  · exact ⟨on [(Log.FLUSH_MS, 1)] fun m => late 125002 { m with mgmt := { m.mgmt with page := ⟨[5, 6], 9⟩ } }, by decide +kernel⟩
  · exact ⟨on [] fun m => { m with mgmt := { m.mgmt with page := ⟨[5, 6], 9⟩ } }, by decide +kernel⟩
  · exact ⟨15, 8, 4, 2^32-1, true, ⟨0, [(0, 8), (1, 9), (2, 10), (3, 11)]⟩, pool [(Mw.MW_ENABLE 15, 1), (Mw.MW_PAGES 15, 1), (Mw.MW_SLICE 15, 4095)] id, by decide +kernel⟩
  · exact ⟨15, 0, 4, 0, up [], by decide +kernel⟩
  · exact ⟨15, up [(Mw.MW_ENABLE 15, 1)], by decide +kernel⟩

/-- The hypotheses of each clause of dictionary_operations can be met. -/
theorem test_dictionary_operations_met :
    (∃ (p : Path) (i b l : Nat) (s : State) (w : Who), s.Granted p [⟨.read, i, b, l, 0, 0, 0⟩] w ∧ opFails w [] ⟨.read, i, b,
      l, 0, 0, 0⟩ s.toDev = none) ∧
    (∃ (p : Path) (i b l v : Nat) (s : State) (w : Who), v < 2 ^ (8 * l) ∧ s.Granted p [⟨.write, i, b, l, 0, 0, v⟩] w ∧ opFails
      w [] ⟨.write, i, b, l, 0, 0, v⟩ s.toDev = none) ∧
    (∃ (p : Path) (i b l x v : Nat) (s : State) (w : Who), x < 2 ^ (8 * l) ∧ v < 2 ^ (8 * l) ∧ s.Granted p [⟨.compareWrite, i,
      b, l, 0, x, v⟩] w ∧ opFails w [] ⟨.compareWrite, i, b, l, 0, x, v⟩ s.toDev = none) ∧
    (∃ (p : Path) (i b o l : Nat) (s : State) (w : Who), s.Granted p [⟨.blockRead, i, b, l, o, 0, 0⟩] w ∧ opFails w []
      ⟨.blockRead, i, b, l, o, 0, 0⟩ s.toDev = none) ∧
    (∃ (p : Path) (i b o l v : Nat) (s : State) (w : Who), v < 2 ^ (8 * l) ∧ s.Granted p [⟨.blockWrite, i, b, l, o, 0, v⟩] w ∧
      opFails w [] ⟨.blockWrite, i, b, l, o, 0, v⟩ s.toDev = none) ∧
    (∃ (p : Path) (o : DictOp) (s : State) (w : Who) (st : Status), s.Granted p [o] w ∧ opFails w [] o s.toDev = some st ∧ st ≠
      .notExecuted) ∧
    (∃ (p : Path) (o : DictOp) (s : State) (w : Who) (st : Status), s.Granted p [o] w ∧ opFails w [] o s.toDev = some st ∧ st ≠
      .notExecuted) ∧
    (∃ (p : Path) (o : DictOp) (s : State) (w : Who) (st : Status), s.Granted p [o] w ∧ opFails w [] o s.toDev = some st ∧ st ≠
      .notExecuted) ∧
    (∃ (p : Path) (o : DictOp) (s : State) (w : Who) (st : Status), s.Granted p [o] w ∧ opFails w [] o s.toDev = some st ∧ st ≠
      .notExecuted) ∧
    (∃ (p : Path) (o : DictOp) (s : State) (w : Who) (st : Status), s.Granted p [o] w ∧ opFails w [] o s.toDev = some st ∧ st ≠
      .notExecuted) ∧
    (∃ (i : Nat) (s : State) (w : Who) (p : Path), i < 1024 ∧ s.Granted p [⟨.read, Ctr.CTR_READ i / 256, Ctr.CTR_READ i % 256,
      16, 0, 0, 0⟩] w ∧ opFails w [] ⟨.read, Ctr.CTR_READ i / 256, Ctr.CTR_READ i % 256, 16, 0, 0, 0⟩ s.toDev = none) := by
  refine ⟨?_, ?_, ?_, ?_, ?_, ?_, ?_, ?_, ?_, ?_, ?_⟩
  · exact ⟨.mctpBus false, Preoc.NOTIFY_RETRY_MS / 256, Preoc.NOTIFY_RETRY_MS % 256, widthOf Preoc.NOTIFY_RETRY_MS / 8, up [(Mctp.REQUIRE_SECURE, 0)], fmWho, by decide +kernel⟩
  · exact ⟨.mctpBus false, Preoc.NOTIFY_RETRY_MS / 256, Preoc.NOTIFY_RETRY_MS % 256, widthOf Preoc.NOTIFY_RETRY_MS / 8, 200, up [(Mctp.REQUIRE_SECURE, 0)], fmWho, by decide +kernel⟩
  · exact ⟨.mctpBus false, Preoc.NOTIFY_RETRY_MS / 256, Preoc.NOTIFY_RETRY_MS % 256, widthOf Preoc.NOTIFY_RETRY_MS / 8, 250, 200, up [(Mctp.REQUIRE_SECURE, 0), (Preoc.NOTIFY_RETRY_MS, 250)], fmWho, by decide +kernel⟩
  · exact ⟨.mctpBus false, 0x1080, 4, 0, 4, up [(Mctp.REQUIRE_SECURE, 0)], fmWho, by decide +kernel⟩
  · exact ⟨.mctpBus false, 0x10A0, 7, 0, 4, 77, up [(Mctp.REQUIRE_SECURE, 0)], fmWho, by decide +kernel⟩
  · exact ⟨.mctpBus false, ⟨.read, 0, 0, 4, 0, 0, 0⟩, up [(Mctp.REQUIRE_SECURE, 0), (Preoc.NOTIFY_RETRY_MS, 250)], fmWho, .noEntry, by decide +kernel⟩
  · exact ⟨.mctpBus false, ⟨.write, Preoc.NOTIFY_RETRY_MS / 256, Preoc.NOTIFY_RETRY_MS % 256, 16, 0, 0, 200⟩, up [(Mctp.REQUIRE_SECURE, 0), (Preoc.NOTIFY_RETRY_MS, 250)], fmWho, .length, by decide +kernel⟩
  · exact ⟨.mctpBus false, ⟨.compareWrite, Preoc.NOTIFY_RETRY_MS / 256, Preoc.NOTIFY_RETRY_MS % 256, widthOf Preoc.NOTIFY_RETRY_MS / 8, 0, 1, 200⟩, up [(Mctp.REQUIRE_SECURE, 0), (Preoc.NOTIFY_RETRY_MS, 250)], fmWho, .compareFail, by decide +kernel⟩
  · exact ⟨.mctpBus false, ⟨.blockRead, 0x1080, 4, 3, 0, 0, 0⟩, up [(Mctp.REQUIRE_SECURE, 0), (Preoc.NOTIFY_RETRY_MS, 250)], fmWho, .length, by decide +kernel⟩
  · exact ⟨.mctpBus false, ⟨.blockWrite, 0x10A0, 7, 2, 0, 0, 77⟩, up [(Mctp.REQUIRE_SECURE, 0), (Preoc.NOTIFY_RETRY_MS, 250)], fmWho, .length, by decide +kernel⟩
  · exact ⟨1023, on [(Mctp.REQUIRE_SECURE, 0), (Ctr.CTR_EVENT 1023, 3)] fun m => { m with counters := ⟨[(1023, 9)], 0⟩ }, fmWho, .mctpBus false, by decide +kernel⟩

/-- The hypotheses of each clause of ordinary_entries_hold_what_is_written can be met. -/
theorem test_ordinary_entries_hold_what_is_written_met :
    (∃ (k v : Nat) (p : Path) (s : State) (w : Who), v < 2 ^ widthOf k ∧ s.m.rd k < 2 ^ widthOf k ∧ s.Granted p [⟨.write, k /
      256, k % 256, widthOf k / 8, 0, 0, v⟩] w ∧ opFails w [] ⟨.write, k / 256, k % 256, widthOf k / 8, 0, 0, v⟩ s.toDev = none
      ∧ s.Granted p [⟨.compareWrite, k / 256, k % 256, widthOf k / 8, 0, s.m.rd k, v⟩] w ∧ opFails w [] ⟨.compareWrite, k /
      256, k % 256, widthOf k / 8, 0, s.m.rd k, v⟩ s.toDev = none ∧ s.Granted p [⟨.read, k / 256, k % 256, widthOf k / 8, 0, 0,
      0⟩] w ∧ opFails w [] ⟨.read, k / 256, k % 256, widthOf k / 8, 0, 0, 0⟩ s.toDev = none ∧ s.managed ∧ opFails (plainWho
      s.toDev) [] ⟨.write, k / 256, k % 256, widthOf k / 8, 0, 0, v⟩ s.toDev = none) ∧
    (∃ (p : Path) (s : State) (w : Who) (v : Nat), v < 2 ^ 384 ∧ s.Granted p [⟨.blockWrite, Spdm.FM_ROOT_HASH / 256,
      Spdm.FM_ROOT_HASH % 256, 48, 0, 0, v⟩] w ∧ opFails w [] ⟨.blockWrite, Spdm.FM_ROOT_HASH / 256, Spdm.FM_ROOT_HASH % 256,
      48, 0, 0, v⟩ s.toDev = none) ∧
    (∃ (p : Path) (s : State) (w : Who), s.m.rd Spdm.FM_ROOT_HASH < 2 ^ 384 ∧ s.Granted p [⟨.blockRead, Spdm.FM_ROOT_HASH /
      256, Spdm.FM_ROOT_HASH % 256, 48, 0, 0, 0⟩] w ∧ opFails w [] ⟨.blockRead, Spdm.FM_ROOT_HASH / 256, Spdm.FM_ROOT_HASH %
      256, 48, 0, 0, 0⟩ s.toDev = none) := by
  refine ⟨?_, ?_, ?_⟩
  · exact ⟨Preoc.NOTIFY_RETRY_MS, 200, .mctpBus false, up [(Mctp.REQUIRE_SECURE, 0)], fmWho, by decide +kernel⟩
  · exact ⟨.mctpBus false, up [(Mctp.REQUIRE_SECURE, 0)], fmWho, 2 ^ 383 + 5, by decide +kernel⟩
  · exact ⟨.mctpBus false, up [(Mctp.REQUIRE_SECURE, 0), (Spdm.FM_ROOT_HASH, 2 ^ 383 + 5)], fmWho, by decide +kernel⟩

/-- The hypotheses of each clause of requests_of_several_operations can be met. -/
theorem test_requests_of_several_operations_met :
    (∃ (g : Datagram) (s : State) (w : Who), s.managed ∧ s.m.mgmt.recovery = false ∧ wfDatagram g = true ∧ udpHeard g.udp s.m =
      true ∧ g.sessionId = 0 ∧ entrance .preocNone g.ops s.toDev = .go w) ∧
    (∃ (g : Datagram) (s : State), s.managed ∧ s.m.mgmt.recovery = false ∧ wfDatagram g = true ∧ s.m.on (Eth.ENABLE
      g.udp.sender.eth) = true ∧ g.udp.fragmented = true) ∧
    (∃ (g : Datagram) (s : State), s.managed ∧ s.m.mgmt.recovery = false ∧ wfDatagram g = true ∧ udpHeard g.udp s.m = true ∧ 1
      ≤ g.sessionId ∧ g.sessionId ≤ 8 ∧ sessionOpen (g.sessionId - 1) s.m = true ∧ g.authentic = false) ∧
    (∃ (g : Datagram) (s : State) (st : Status) (rs : List (Status × Nat)), s.managed ∧ s.m.mgmt.recovery = false ∧ wfDatagram
      g = true ∧ udpHeard g.udp s.m = true ∧ 1 ≤ g.sessionId ∧ g.sessionId ≤ 8 ∧ sessionOpen (g.sessionId - 1) s.m = true ∧
      g.authentic = true ∧ (behind (s.m.sess (g.sessionId - 1)) g.seq).any (64 < ·) = false ∧ seqTaken (s.m.sess (g.sessionId -
      1)) g.seq = true ∧ (s.m.sess (g.sessionId - 1)).responses.find? (·.1 == g.seq) = some (g.seq, st, rs)) ∧
    (∃ (p : Path) (ops : List DictOp) (s : State) (w : Who), s.Granted p ops w ∧ fmPath p = true ∧ wfOps ops = true) ∧
    (∃ (p : Path) (opcode : Nat) (ops : List DictOp) (s : State) (w : Who), s.Granted p [] w ∧ fmPath p = true ∧ wfOps ops =
      true ∧ opcode < 65536 ∧ fmOpcodes.contains opcode = false ∧ opcode ≠ 0xC000) ∧
    (∃ (p : Path) (ops : List DictOp) (s : State) (w : Who), s.Granted p ops w ∧ fmPath p = true ∧ wfOps ops = true ∧
      atomicFits ops = true ∧ (∀ o ∈ ops, opKey o ≠ Twin.WITNESS ∧ opKey o ≠ Ct.SWAP ∧ opKey o ≠ Lc.LC_TOKEN ∧ (∀ n, n < 77 →
      opKey o ≠ Pd.PD_REQ n) ∧ ∀ q, q < 64 → opKey o ≠ Gate.SWAP q) ∧ (trialOps w ((ops.filter fun o => opWrites o.kind).map
      fun o => (opKey o, o.value)) ops s.toDev).1.all (·.1 == .ok) = false) := by
  refine ⟨?_, ?_, ?_, ?_, ?_, ?_, ?_⟩
  · exact ⟨⟨udp1, 0, false, 7, true, [⟨.read, 0x1000, 1, 4, 0, 0, 0⟩]⟩, up [(Eth.ENABLE 1, 1), (Preoc.UNAUTH_READ, 1)], fmWho, by decide +kernel⟩
  · exact ⟨⟨{ udp1 with fragmented := true }, 0, false, 7, true, []⟩, up [(Eth.ENABLE 1, 1)], by decide +kernel⟩
  · exact ⟨⟨udp1, 8, false, 7, true, []⟩, up [(Eth.ENABLE 1, 1), (Sess.STATE 7, 2)], by decide +kernel⟩
  · exact ⟨⟨udp1, 1, true, 7, true, []⟩, on [(Eth.ENABLE 1, 1), (Sess.STATE 0, 2)] fun m => { m with mgmt := { m.mgmt with sessions := [(0, { SessSt.reset with highest := some 7, responses := [(7, .ok, [])] })] } }, .ok, [], by decide +kernel⟩
  · exact ⟨.cci 63, [⟨.read, 0x1000, 1, 4, 0, 0, 0⟩], up [(Vcs.VCS_ENABLE 63, 1), (Vcs.USP 63, 63)], ⟨0, some 63, true, false, false, false⟩, by decide +kernel⟩
  · exact ⟨.mctpBus false, 0x1234, [], up [(Mctp.REQUIRE_SECURE, 0)], fmWho, by decide +kernel⟩
  · exact ⟨.cci 63, [⟨.read, 0, 1, 4, 0, 0, 0⟩], up [(Vcs.VCS_ENABLE 63, 1), (Vcs.USP 63, 63)], ⟨0, some 63, true, false, false, false⟩, by decide +kernel, by decide +kernel, by decide +kernel, by decide +kernel, by decide +kernel, by decide +kernel⟩

/-- The hypotheses of each clause of fm_api_commands can be met. -/
theorem test_fm_api_commands_met :
    (∃ (p : Path) (s : State) (w : Who), s.FmGranted p w) ∧
    (∃ (p : Path) (port : Nat) (s : State) (w : Who), s.FmGranted p w ∧ port < 64) ∧
    (∃ (p : Path) (v : Nat) (s : State) (w : Who), s.FmGranted p w ∧ v < 64) ∧
    (∃ (p : Path) (o l d : Nat) (s : State) (w : Who), s.FmGranted p w ∧ d < 2 ^ (8 * l) ∧ opFails w [] ⟨.blockWrite, 0x10A0,
      7, l, o, 0, d⟩ s.toDev = none) ∧
    (∃ (p : Path) (a : Nat) (s : State) (w : Who), s.FmGranted p w ∧ opFails w [] (writeOp Fw.FW_ACTIVATE a) s.toDev = none) ∧
    (∃ (p : Path) (o l : Nat) (s : State) (w : Who), s.FmGranted p w ∧ opFails w [] ⟨.blockRead, 0x1080, 4, l, o, 0, 0⟩ s.toDev
      = none) ∧
    (∃ (p : Path) (port action : Nat) (s : State) (w : Who), s.FmGranted p w ∧ port < 64 ∧ action < 2 ∧ opFails w [] (writeOp
      (PortCtl.PERST port) (1 - action)) s.toDev = none) ∧
    (∃ (p : Path) (port : Nat) (s : State) (w : Who), s.FmGranted p w ∧ port < 64 ∧ opFails w [] (writeOp (PortCtl.LINK_CTRL
      port) 2) s.toDev = none) ∧
    (∃ (p : Path) (v i q ld : Nat) (valid : Bool) (s : State) (w : Who), s.FmGranted p w ∧ v < 64 ∧ i < 1024 ∧ q < 64 ∧ ld < 16
      ∧ opFails w [] (writeOp Bridge.BIND_REQ (bindValue 1 v i q ld valid 0)) s.toDev = none) ∧
    (∃ (p : Path) (v i mode : Nat) (s : State) (w : Who), s.FmGranted p w ∧ v < 64 ∧ i < 1024 ∧ opFails w [] (writeOp
      Bridge.BIND_REQ (bindValue 2 v i 0 0 false mode)) s.toDev = none) ∧
    (∃ (p : Path) (o : DictOp) (s : State) (w : Who) (st : Status), s.FmGranted p w ∧ opFails w [] o s.toDev = some st) ∧
    (∃ (p : Path) (o : DictOp) (s : State) (w : Who) (st : Status), s.FmGranted p w ∧ opFails w [] o s.toDev = some st) ∧
    (∃ (p : Path) (o : DictOp) (s : State) (w : Who) (st : Status), s.FmGranted p w ∧ opFails w [] o s.toDev = some st) ∧
    (∃ (p : Path) (o : DictOp) (s : State) (w : Who) (st : Status), s.FmGranted p w ∧ opFails w [] o s.toDev = some st) ∧
    (∃ (p : Path) (o : DictOp) (s : State) (w : Who) (st : Status), s.FmGranted p w ∧ opFails w [] o s.toDev = some st) ∧
    (∃ (p : Path) (o : DictOp) (s : State) (w : Who) (st : Status), s.FmGranted p w ∧ opFails w [] o s.toDev = some st) ∧
    (∃ (p : Path) (s : State) (w : Who), s.FmGranted p w) ∧
    (∃ (p : Path) (time : Nat) (s : State) (w : Who), s.FmGranted p w ∧ time < 2 ^ 64 ∧ s.m.role = 0) ∧
    (∃ (p : Path) (port : Nat) (s : State) (w : Who), s.FmGranted p w ∧ port < 64 ∧ s.m.linkUp port = true) ∧
    (∃ (p : Path) (i v : Nat) (s : State) (w : Who), s.FmGranted p w ∧ i < 1024 ∧ (firstBelow 64 (fun v => s.m.on
      (Vcs.VCS_ENABLE v) && inVcs s.m v i) = some v)) := by
  refine ⟨?_, ?_, ?_, ?_, ?_, ?_, ?_, ?_, ?_, ?_, ?_, ?_, ?_, ?_, ?_, ?_, ?_, ?_, ?_, ?_⟩
  · exact ⟨.mctpBus false, up [(Mctp.REQUIRE_SECURE, 0)], fmWho, by decide +kernel⟩
  · exact ⟨.mctpBus false, 63, up [(Mctp.REQUIRE_SECURE, 0)], fmWho, by decide +kernel⟩
  · exact ⟨.mctpBus false, 63, up [(Mctp.REQUIRE_SECURE, 0), (Vcs.VCS_ENABLE 63, 1)], fmWho, by decide +kernel⟩
  · exact ⟨.mctpBus false, 0, 4, 77, up [(Mctp.REQUIRE_SECURE, 0)], fmWho, by decide +kernel⟩
  · exact ⟨.mctpBus false, 1, up [(Mctp.REQUIRE_SECURE, 0), (Fw.FW_VERIFY, 2)], fmWho, by decide +kernel⟩
  · exact ⟨.mctpBus false, 0, 4, up [(Mctp.REQUIRE_SECURE, 0)], fmWho, by decide +kernel⟩
  · exact ⟨.mctpBus false, 63, 0, up [(Mctp.REQUIRE_SECURE, 0), (Port.ENABLE 63, 1)], fmWho, by decide +kernel⟩
  · exact ⟨.mctpBus false, 63, up [(Mctp.REQUIRE_SECURE, 0), (Port.ENABLE 63, 1), (PortStat.LTSSM 63, 4)], fmWho, by decide +kernel⟩
  · exact ⟨.mctpBus false, 63, 1023, 63, 0, false, up [(Mctp.REQUIRE_SECURE, 0), (Vcs.VCS_ENABLE 63, 1), (Vcs.VPPB_FIRST 63, 1023), (Vcs.VPPB_COUNT 63, 1), (Vcs.USP 63, 0), (Port.ENABLE 63, 1), (PortStat.LTSSM 63, 4)], fmWho, by decide +kernel⟩
  · exact ⟨.mctpBus false, 63, 1023, 1, up [(Mctp.REQUIRE_SECURE, 0), (Vcs.VCS_ENABLE 63, 1), (Vcs.VPPB_FIRST 63, 1023), (Vcs.VPPB_COUNT 63, 1), (Vppb.VPPB 1023, 2 + 256 * 63)], fmWho, by decide +kernel⟩
  · exact ⟨.mctpBus false, ⟨.blockWrite, 0x10A0, 7, 2, 0, 0, 77⟩, up [(Mctp.REQUIRE_SECURE, 0)], fmWho, .length, by decide +kernel⟩
  · exact ⟨.mctpBus false, writeOp Fw.FW_ACTIVATE 99, up [(Mctp.REQUIRE_SECURE, 0)], fmWho, .range, by decide +kernel⟩
  · exact ⟨.mctpBus false, ⟨.blockRead, 0x1080, 4, 3, 0, 0, 0⟩, up [(Mctp.REQUIRE_SECURE, 0)], fmWho, .length, by decide +kernel⟩
  · exact ⟨.mctpBus false, writeOp (PortCtl.LINK_CTRL 63) 2, up [(Mctp.REQUIRE_SECURE, 0)], fmWho, .state, by decide +kernel⟩
  · exact ⟨.mctpBus false, writeOp Bridge.BIND_REQ (bindValue 1 63 1023 63 0 false 0), on [(Mctp.REQUIRE_SECURE, 0)] fun m => { m with mgmt := { m.mgmt with fault := true } }, fmWho, .internal, by decide +kernel⟩
  · exact ⟨.mctpBus false, writeOp Bridge.BIND_REQ (bindValue 2 63 1023 0 0 false 1), on [(Mctp.REQUIRE_SECURE, 0)] fun m => { m with mgmt := { m.mgmt with fault := true } }, fmWho, .internal, by decide +kernel⟩
  · exact ⟨.mctpBus false, on [(Mctp.REQUIRE_SECURE, 0)] fun m => { m with col := { m.col with records := [⟨1535, 0, 0, 0, 0⟩, ⟨3, 0, 0, 0, 0⟩] } }, fmWho, by decide +kernel⟩
  · exact ⟨.mctpBus false, 5, up [(Mctp.REQUIRE_SECURE, 0)], fmWho, by decide +kernel⟩
  · exact ⟨.mctpBus false, 63, up [(Mctp.REQUIRE_SECURE, 0), (PortStat.LTSSM 63, 4)], fmWho, by decide +kernel⟩
  · exact ⟨.mctpBus false, 1023, 63, up [(Mctp.REQUIRE_SECURE, 0), (Vcs.VCS_ENABLE 63, 1), (Vcs.VPPB_FIRST 63, 1023), (Vcs.VPPB_COUNT 63, 1)], fmWho, by decide +kernel⟩

/-- The hypotheses of spdm_answers can be met. -/
theorem test_spdm_answers_met :
    ∃ (via : Carrier) (s : State), s.managed ∧ wfCarrier via = true ∧ carrierHeard via s.m = true :=
  ⟨.preoc udp1, up [(Eth.ENABLE 1, 1)], by decide +kernel⟩

/-- The hypotheses of each clause of sessions can be met. -/
theorem test_sessions_met :
    (∃ (u : Udp) (k slot exchange : Nat) (s : State), s.managed ∧ wfUdp u = true ∧ udpHeard u s.m = true ∧ slot < 8 ∧ exchange
      < 2 ^ 768 ∧ hasCert s.toDev slot = true ∧ (firstBelow 8 (fun k => s.m.rd (Sess.STATE k) == 0) = some k)) ∧
    (∃ (u : Udp) (slot exchange : Nat) (s : State), s.managed ∧ wfUdp u = true ∧ udpHeard u s.m = true ∧ slot < 8 ∧ exchange <
      2 ^ 768 ∧ hasCert s.toDev slot = true ∧ (firstBelow 8 (fun k => s.m.rd (Sess.STATE k) == 0) = none)) ∧
    (∃ (via : Carrier) (slot exchange : Nat) (s : State), s.managed ∧ wfCarrier via = true ∧ carrierHeard via s.m = true ∧ slot
      < 8 ∧ exchange < 2 ^ 768 ∧ hasCert s.toDev slot = false) ∧
    (∃ (on : Medium) (slot exchange : Nat) (s : State), s.managed ∧ wfMedium on = true ∧ mctpHeard on s.m = true ∧ slot < 8 ∧
      exchange < 2 ^ 768 ∧ hasCert s.toDev slot = true) ∧
    (∃ (u : Udp) (k root : Nat) (s : State), s.managed ∧ wfUdp u = true ∧ udpHeard u s.m = true ∧ k < 8 ∧ root < 2 ^ 384 ∧
      s.m.rd (Sess.STATE k) = 1 ∧ root = s.m.rd Spdm.FM_ROOT_HASH ∧ root ≠ 0 ∧ root ≠ Config.factoryRoot) ∧
    (∃ (u : Udp) (k root : Nat) (s : State), s.managed ∧ wfUdp u = true ∧ udpHeard u s.m = true ∧ k < 8 ∧ root < 2 ^ 384 ∧
      s.m.rd (Sess.STATE k) = 1) ∧
    (∃ (on : Medium) (k root : Nat) (s : State), s.managed ∧ wfMedium on = true ∧ mctpHeard on s.m = true ∧ k < 8 ∧ root < 2 ^
      384 ∧ s.m.mgmt.mctpHs = true) ∧
    (∃ (u : Udp) (k : Nat) (s : State), s.managed ∧ wfUdp u = true ∧ udpHeard u s.m = true ∧ k < 8 ∧ sessionOpen k s.m = true) ∧
    (∃ (on : Medium) (sid : Nat) (s : State), s.managed ∧ wfMedium on = true ∧ mctpHeard on s.m = true ∧ sid < 256 ∧
      s.m.mgmt.secured = true) ∧
    (∃ (u : Udp) (k : Nat) (s : State), s.managed ∧ wfUdp u = true ∧ udpHeard u s.m = true ∧ k < 8 ∧ sessionOpen k s.m = true) ∧
    (∃ (u : Udp) (sid : Nat) (s : State), s.managed ∧ wfUdp u = true ∧ udpHeard u s.m = true ∧ sid < 256 ∧ (sid = 0 ∨ 9 ≤ sid ∨
      sessionOpen (sid - 1) s.m = false)) ∧
    (∃ (u : Udp) (k : Nat) (s : State), s.managed ∧ wfUdp u = true ∧ udpHeard u s.m = true ∧ k < 8 ∧ sessionOpen k s.m = true) ∧
    (∃ (k : Nat) (s : State), s.managed ∧ k < 8 ∧ s.m.rd (Sess.STATE k) ≠ 0 ∧ (s.m.sess k).heard + msStitches (3 * s.m.rd
      Preoc.KEEPALIVE_MS) ≤ s.m.now.stitch) ∧
    (∃ (k : Nat) (s : State), s.managed ∧ k < 8) := by
  refine ⟨?_, ?_, ?_, ?_, ?_, ?_, ?_, ?_, ?_, ?_, ?_, ?_, ?_, ?_⟩
  · exact ⟨udp1, 7, 0, 2 ^ 768 - 1, up ((Eth.ENABLE 1, 1) :: ((List.range 7).map fun k => (Sess.STATE k, 2))), by decide +kernel⟩
  · exact ⟨udp1, 0, 7, up ((Eth.ENABLE 1, 1) :: ((List.range 8).map fun k => (Sess.STATE k, 2))), by decide +kernel⟩
  · exact ⟨.preoc udp1, 1, 0, up [(Eth.ENABLE 1, 1)], by decide +kernel⟩
  · exact ⟨.vdm 63, 0, 0, up [(Mctp.FMH_PORT, 63)], by decide +kernel⟩
  · exact ⟨udp1, 7, if Config.factoryRoot = 5 then 6 else 5, up [(Eth.ENABLE 1, 1), (Sess.STATE 7, 1), (Spdm.FM_ROOT_HASH, if Config.factoryRoot = 5 then 6 else 5)], by by_cases h : Config.factoryRoot = 5 <;> simp only [h, if_true, if_false] <;> exact ⟨by decide +kernel, by decide +kernel, by decide +kernel, by decide +kernel, by decide +kernel, by decide +kernel, by decide +kernel, by decide +kernel, by first | decide | exact fun x => h x.symm⟩⟩
  · exact ⟨udp1, 7, 5, up [(Eth.ENABLE 1, 1), (Sess.STATE 7, 1), (Sess.PRIV 7, 1)], by decide +kernel⟩
  · exact ⟨.bus, 7, 5, on [] fun m => { m with mgmt := { m.mgmt with mctpHs := true } }, by decide +kernel⟩
  · exact ⟨udp1, 7, up [(Eth.ENABLE 1, 1), (Sess.STATE 7, 2)], by decide +kernel⟩
  · exact ⟨.bus, 255, on [] fun m => { m with mgmt := { m.mgmt with secured := true } }, by decide +kernel⟩
  · exact ⟨udp1, 7, up [(Eth.ENABLE 1, 1), (Sess.STATE 7, 2)], by decide +kernel⟩
  · exact ⟨udp1, 9, up [(Eth.ENABLE 1, 1)], by decide +kernel⟩
  · exact ⟨udp1, 7, up [(Eth.ENABLE 1, 1), (Sess.STATE 7, 2), (Sess.PRIV 7, 1)], by decide +kernel⟩
  · exact ⟨7, on [(Preoc.KEEPALIVE_MS, 1), (Sess.STATE 7, 2), (Sess.PRIV 7, 1)] (late (msStitches 3)), by decide +kernel⟩
  · exact ⟨7, up [(Sess.STATE 7, 2), (Sess.PRIV 7, 1)], by decide +kernel⟩

/-- The hypotheses of each clause of notifications_and_networks can be met. -/
theorem test_notifications_and_networks_met :
    (∃ (u : Udp) (k seq : Nat) (s : State) (n : Sent) (rest : List Sent), s.managed ∧ wfUdp u = true ∧ udpHeard u s.m = true ∧
      k < 8 ∧ s.m.rd (Sess.STATE k) = 2 ∧ (s.m.sess k).unacked = n :: rest ∧ n.seq = seq ∧ (s.m.sess k).queue = []) ∧
    (∃ (k : Nat) (s : State) (u : Sent) (rest : List Sent), s.live ∧ k < 8 ∧ (s.m.sess k).unacked = u :: rest ∧ u.sent +
      msStitches (s.m.rd Preoc.NOTIFY_RETRY_MS) ≤ s.m.now.stitch ∧ u.tries < s.m.rd Preoc.NOTIFY_TRIES) ∧
    (∃ (k : Nat) (s : State) (u : Sent) (rest : List Sent), s.live ∧ k < 8 ∧ (s.m.sess k).unacked = u :: rest ∧ u.sent +
      msStitches (s.m.rd Preoc.NOTIFY_RETRY_MS) ≤ s.m.now.stitch ∧ s.m.rd Preoc.NOTIFY_TRIES ≤ u.tries ∧ (s.m.sess k).queue =
      [] ∧ s.m.rd (Sess.NOTIFY_LOST k) + 1 < 2 ^ widthOf (Sess.NOTIFY_LOST k)) ∧
    (∃ (on : Medium) (eid : Nat) (s : State), s.managed ∧ wfMedium on = true ∧ mctpHeard on s.m = true ∧ 8 ≤ eid ∧ eid < 255) ∧
    (∃ (on : Medium) (eid : Nat) (s : State), s.managed ∧ wfMedium on = true ∧ mctpHeard on s.m = true ∧ (eid < 8 ∨ eid = 255)) ∧
    (∃ (on : Medium) (s : State), s.managed ∧ wfMedium on = true ∧ mctpHeard on s.m = true) ∧
    (∃ (p : Nat) (s : State), s.managed ∧ p < 64 ∧ s.m.rd Mctp.FMH_PORT ≠ p) ∧
    (∃ (i : Nat) (s : State), s.live ∧ i < 2 ∧ s.m.domOn 1 = true ∧ s.m.on (Eth.ENABLE i) = true) ∧
    (∃ (i a k g : Nat) (s : State), s.live ∧ i < 2 ∧ a < 2 ^ 32 ∧ k < 2 ^ 32 ∧ g < 2 ^ 32 ∧ s.m.domOn 1 = true ∧ s.m.on
      (Eth.ENABLE i) = true ∧ s.m.rd (Eth.IPV4_ADDR i) = 0 ∧ s.m.on (Eth.LINK_UP i) = true) := by
  refine ⟨?_, ?_, ?_, ?_, ?_, ?_, ?_, ?_, ?_⟩
  · exact ⟨udp1, 7, 3, on [(Eth.ENABLE 1, 1), (Sess.STATE 7, 2)] fun m => { m with mgmt := { m.mgmt with sessions := [(7, { SessSt.reset with unacked := [⟨3, 9, 2, 0⟩, ⟨4, 9, 1, 0⟩] })] } }, ⟨3, 9, 2, 0⟩, [⟨4, 9, 1, 0⟩], by decide +kernel⟩
  · exact ⟨7, on [(Sess.STATE 7, 2), (Preoc.NOTIFY_TRIES, 3), (Preoc.NOTIFY_RETRY_MS, 1)] fun m => late 125000 { m with mgmt := { m.mgmt with sessions := [(7, { SessSt.reset with unacked := [⟨3, 9, 2, 0⟩, ⟨4, 9, 1, 0⟩] })] } }, ⟨3, 9, 2, 0⟩, [⟨4, 9, 1, 0⟩], by decide +kernel⟩
  · exact ⟨7, on [(Sess.STATE 7, 2), (Preoc.NOTIFY_TRIES, 2), (Preoc.NOTIFY_RETRY_MS, 1)] fun m => late 125000 { m with mgmt := { m.mgmt with sessions := [(7, { SessSt.reset with unacked := [⟨3, 9, 2, 0⟩, ⟨4, 9, 1, 0⟩] })] } }, ⟨3, 9, 2, 0⟩, [⟨4, 9, 1, 0⟩], by decide +kernel⟩
  · exact ⟨.bus, 254, up [], by decide +kernel⟩
  · exact ⟨.bus, 255, up [], by decide +kernel⟩
  · exact ⟨.bus, up [], by decide +kernel⟩
  · exact ⟨63, up [(Mctp.FMH_PORT, 5)], by decide +kernel⟩
  · exact ⟨1, up [(Eth.ENABLE 1, 1)], by decide +kernel⟩
  · exact ⟨1, 2^32-1, 255, 7, up [(Eth.ENABLE 1, 1), (Eth.LINK_UP 1, 1)], by decide +kernel⟩

/-- The hypotheses of each clause of event_collection can be met. -/
theorem test_event_collection_met :
    (∃ (o : Occurrence) (s : State), s.live ∧ wfOccurrence o = true ∧ sourceClass o.source ≠ 255 ∧ s.m.driven o.source = true) ∧
    (∃ (o : Occurrence) (s : State), s.live ∧ wfOccurrence o = true ∧ s.m.driven o.source = false) ∧
    (∃ (j : Nat) (s : State), s.live ∧ j < 1536 ∧ sourceClass j ≠ 255 ∧ s.m.driven j = true ∧ s.m.bit (Src.SRC_STATUS j) 1 =
      false ∧ s.m.rd Col.WIRE_FAULTS + 1 < 2 ^ widthOf Col.WIRE_FAULTS) ∧
    (∃ (j : Nat) (s : State), s.live ∧ j < 1536 ∧ sourceClass j ≠ 255 ∧ s.m.driven j = true ∧ s.m.bit (Src.SRC_STATUS j) 3 =
      false ∧ stuckFor s.m j = true) ∧
    (∃ (s : State), s.live ∧ windowOver s.m = true) ∧
    (∃ (e : Nat) (w : CapWait) (s : State), s.live ∧ e < 64 ∧ Tab.get none s.m.col.waits e = some w ∧ s.m.noc = NocSt.reset) ∧
    (∃ (e : Nat) (w : CapWait) (s : State), s.live ∧ e < 64 ∧ Tab.get none s.m.col.waits e = some w ∧ w.stitch + 1024 ≤
      s.m.now.stitch) ∧
    (∃ (j : Nat) (js : List Nat) (s : State), s.managed ∧ deliveryOrder s.m = j :: js ∧ hasToken s.m j = true) ∧
    (∃ (j : Nat) (s : State), s.managed ∧ j < 1536) ∧
    (∃ (bits : Nat) (s : State), s.managed ∧ Nat.land (s.m.rd Col.CAP_VALID) bits ≠ 0) ∧
    (∃ (s : State), s.live ∧ s.m.rd Mctp.BUS = 1 ∧ s.m.col.malert = true) := by
  refine ⟨?_, ?_, ?_, ?_, ?_, ?_, ?_, ?_, ?_, ?_, ?_⟩
  · exact ⟨⟨1023, 3, noCtx⟩, up [], by decide +kernel⟩
  · exact ⟨⟨1008, 3, noCtx⟩, up [(Pd.PD_STATE 53, 0)], by decide +kernel⟩
  · exact ⟨1023, up [], by decide +kernel⟩
  · exact ⟨1023, on [(Src.STUCK_MS 1023, 1)] fun m => late 125000 { m with col := { m.col with srcs := [(1023, { SrcSt.reset with held := true, roseAt := some 0 })] } }, by decide +kernel⟩
  · exact ⟨on [(Col.THRESH_MS, 7)] fun m => late (msStitches 200000) { m with col := { m.col with srcs := [(3, { SrcSt.reset with window := 3, thresh := some 5 })] } }, by decide +kernel⟩
  · exact ⟨63, ⟨1535, 3, 9, 10, noCtx⟩, on [(Col.CAP_VALID, 2 ^ 63)] fun m => { m with col := { m.col with waits := [(63, some ⟨1535, 3, 9, 10, noCtx⟩)] } }, by decide +kernel⟩
  · exact ⟨63, ⟨1535, 3, 9, 10, noCtx⟩, on [(Col.CAP_VALID, 2 ^ 63)] fun m => late 1034 { m with col := { m.col with waits := [(63, some ⟨1535, 3, 9, 10, noCtx⟩)] } }, by decide +kernel⟩
  · exact ⟨1023, [], on [(Col.PENDING, 2 ^ 1023)] id, by decide +kernel⟩
  · exact ⟨1535, up [(Src.SRC_STATUS 1535, 1)], by decide +kernel⟩
  · exact ⟨2 ^ 63 + 1, on [(Col.CAP_VALID, 2 ^ 63 + 2)] fun m => { m with col := { m.col with waits := [(63, some ⟨1535, 3, 9, 10, noCtx⟩)], capFull := true } }, by decide +kernel⟩
  · exact ⟨on [(Mctp.BUS, 1)] fun m => { m with col := { m.col with malert := true } }, by decide +kernel⟩

/-- The hypotheses of each clause of injection_and_counters can be met. -/
theorem test_injection_and_counters_met :
    (∃ (s : State), s.managed ∧ s.otp.lcState = 1) ∧
    (∃ (s : State), s.managed ∧ s.otp.lcState = 1) ∧
    (∃ (s : State), s.managed ∧ s.otp.lcState = 1) ∧
    (∃ (s : State), s.managed ∧ s.otp.lcState = 1) ∧
    (∃ (c : Instr) (s : State), s.managed ∧ s.otp.lcState ≠ 1 ∧ (c = .injectRaise ∨ c = .injectWireFault ∨ c = .injectStuck ∨ c
      = .injectRelease)) ∧
    (∃ (i e f : Nat) (s : State), s.managed ∧ i < 1024 ∧ ctrSelectCheck i e f (s.m.rd (Ctr.CTR_OWNER i)) = none) ∧
    (∃ (i e f : Nat) (st : Status) (s : State), s.managed ∧ i < 1024 ∧ ctrSelectCheck i e f (s.m.rd (Ctr.CTR_OWNER i)) = some
      st) ∧
    (∃ (i : Nat) (s : State), s.managed ∧ i < 1024) ∧
    (∃ (v : Nat) (s : State), s.managed ∧ v < 2 ^ 64) := by
  refine ⟨?_, ?_, ?_, ?_, ?_, ?_, ?_, ?_, ?_⟩
  · exact ⟨fused (fun o => { o with ctrl := 2 ^ 8 - 1, lcState := 1 }) (up [(Col.INJ_SOURCE, 1023)]), by decide +kernel⟩
  · exact ⟨fused (fun o => { o with ctrl := 2 ^ 8 - 1, lcState := 1 }) (up [(Col.INJ_SOURCE, 1023)]), by decide +kernel⟩
  · exact ⟨fused (fun o => { o with ctrl := 2 ^ 8 - 1, lcState := 1 }) (up [(Col.INJ_SOURCE, 1023)]), by decide +kernel⟩
  · exact ⟨fused (fun o => { o with ctrl := 2 ^ 8 - 1, lcState := 1 }) (up [(Col.INJ_SOURCE, 1023)]), by decide +kernel⟩
  · exact ⟨.injectRaise, up [], by decide +kernel⟩
  · exact ⟨1023, 3, 0, on [(Ctr.CTR_STATUS 1023, 1)] fun m => { m with counters := ⟨[(1023, 9)], 0⟩ }, by decide +kernel⟩
  · exact ⟨1023, 70000, 0, .range, up [], by decide +kernel⟩
  · exact ⟨1023, on [(Ctr.CTR_STATUS 1023, 1)] fun m => { m with counters := ⟨[(5, 8), (1023, 9)], 0⟩ }, by decide +kernel⟩
  · exact ⟨2^64-1, up [], by decide +kernel⟩

/-- The hypotheses of each clause of link_comes_up can be met. -/
theorem test_link_comes_up_met :
    (∃ (p : Nat) (s : State), s.managed ∧ p < 64 ∧ s.m.domOn (portDomain p) = true ∧ s.m.on (Port.ENABLE p) = false ∧
      portEnableCheck p s.m = none) ∧
    (∃ (p mode : Nat) (x : Trained) (s : State), s.live ∧ p < 64 ∧ wfTrained x = true ∧ trains s.m p = true ∧ commonMode
      (Nat.land (offeredModes s.m p) x.modes) = some mode) ∧
    (∃ (p : Nat) (x : Trained) (s : State), s.live ∧ p < 64 ∧ wfTrained x = true ∧ trains s.m p = true ∧ s.m.rd (PortStat.LTSSM
      p) ≠ 5 ∧ commonMode (Nat.land (offeredModes s.m p) x.modes) = none) ∧
    (∃ (p : Nat) (s : State), s.managed ∧ p < 64 ∧ s.m.domOn (portDomain p) = true ∧ s.m.on (Port.ENABLE p) = true ∧ (s.m.rd
      (PortStat.LTSSM p) = 4 ∨ s.m.rd (PortStat.LTSSM p) = 6)) ∧
    (∃ (p : Nat) (s : State), s.managed ∧ p < 64 ∧ s.m.domOn (portDomain p) = true ∧ s.m.on (Port.ENABLE p) = true ∧ s.m.rd
      (PortStat.LTSSM p) = 0 ∧ portPowered s.m p = true) ∧
    (∃ (p n : Nat) (s : State), s.live ∧ p < 64 ∧ s.m.rd (PortStat.LTSSM p) = 4 ∧ 1 ≤ s.m.rd (Port.L0P_MIN p) ∧ (s.m.rd
      (PortStat.FLIT_NOW p) = 1 ∨ s.m.rd (PortStat.FLIT_NOW p) = 2) ∧ (2 * n = s.m.rd (PortStat.WIDTH_NOW p) ∨ n = 2 * s.m.rd
      (PortStat.WIDTH_NOW p)) ∧ 2 ^ (s.m.rd (Port.L0P_MIN p) - 1) ≤ n ∧ n ≤ (s.m.port p).full) := by
  refine ⟨?_, ?_, ?_, ?_, ?_, ?_⟩
  · exact ⟨63, up [(Port.WIDTH 63, 1)], by decide +kernel⟩
  · exact ⟨63, 2, ⟨15, 6, 65535, 3, 5, []⟩, on [(Port.ENABLE 63, 1), (PortCtl.SLOT 63, 255), (PortCtl.PERST 60, 0), (Blk.PLL_STATE 31, 2), (PortStat.LTSSM 63, 1)] id, by decide +kernel⟩
  · exact ⟨63, ⟨0, 6, 65535, 3, 5, []⟩, on [(Port.ENABLE 63, 1), (PortCtl.SLOT 63, 255), (PortCtl.PERST 60, 0), (Blk.PLL_STATE 31, 2), (PortStat.LTSSM 63, 1)] id, by decide +kernel⟩
  · exact ⟨63, up [(Port.ENABLE 63, 1), (PortStat.LTSSM 63, 6)], by decide +kernel⟩
  · exact ⟨63, on [(Port.ENABLE 63, 1), (Port.WIDTH 63, 1)] id, by decide +kernel⟩
  · exact ⟨63, 2, on [(Port.ENABLE 63, 1), (PortStat.LTSSM 63, 4), (PortStat.FLIT_NOW 63, 1), (PortStat.WIDTH_NOW 63, 4), (Port.L0P_MIN 63, 2)] fun m => m.updPort 63 fun x => { x with full := 4 }, by decide +kernel⟩

/-- The hypotheses of each clause of link_goes_down can be met. -/
theorem test_link_goes_down_met :
    (∃ (p : Nat) (s : State), s.managed ∧ p < 64 ∧ s.m.domOn (portDomain p) = true ∧ s.m.on (Port.ENABLE p) = true) ∧
    (∃ (p : Nat) (s : State), s.managed ∧ p < 64 ∧ s.m.domOn (portDomain p) = true ∧ s.m.on (Port.ENABLE p) = true ∧ s.m.linkUp
      p = true) ∧
    (∃ (p : Nat) (s : State), s.managed ∧ p < 64 ∧ s.m.domOn (portDomain p) = true ∧ s.m.on (Port.ENABLE p) = true ∧ s.m.rd
      (PortStat.LTSSM p) ≠ 0) ∧
    (∃ (p : Nat) (s : State), s.live ∧ p < 64 ∧ s.m.rd (Port.ROLE p) = 1 ∧ s.m.linkUp p = true) ∧
    (∃ (p : Nat) (s : State), s.live ∧ p < 64 ∧ s.m.linkUp p = true ∧ s.m.on (Port.ENABLE p) = true) ∧
    (∃ (g : Nat) (s : State), s.managed ∧ g < 16 ∧ s.m.domOn (portDomain (4 * g)) = true ∧ (∀ i, i < 4 → s.m.linkUp (4 * g + i)
      = false ∧ s.m.rd (PortStat.LTSSM (4 * g + i)) ≠ 7)) ∧
    (∃ (p : Nat) (s : State), s.live ∧ p < 64 ∧ s.m.begun (waitPerst p) + msStitches 100 ≤ s.m.now.stitch) ∧
    (∃ (p : Nat) (present : Bool) (s : State), s.live ∧ p < 64 ∧ 32 ≤ s.m.rd (PortCtl.SLOT p) ∧ s.m.on (PortStat.PRESENT p) ≠
      present ∧ coverer s.m p = none) := by
  refine ⟨?_, ?_, ?_, ?_, ?_, ?_, ?_, ?_⟩
  · exact ⟨63, up [(Port.ENABLE 63, 1), (PortStat.LTSSM 63, 4)], by decide +kernel⟩
  · exact ⟨63, up [(Port.ENABLE 63, 1), (PortStat.LTSSM 63, 4), (PortStat.WIDTH_NOW 63, 4)], by decide +kernel⟩
  · exact ⟨63, up [(Port.ENABLE 63, 1), (PortStat.LTSSM 63, 4)], by decide +kernel⟩
  · exact ⟨63, up [(Port.ENABLE 63, 1), (Port.ROLE 63, 1), (PortStat.LTSSM 63, 4)], by decide +kernel⟩
  · exact ⟨63, up [(Port.ENABLE 63, 1), (PortStat.LTSSM 63, 4)], by decide +kernel⟩
  · exact ⟨15, up [], by decide +kernel⟩
  · exact ⟨63, on [] fun m => waiting (waitPerst 63) (1 + msStitches 100) { m with edge := { m.edge with perst := [(63, true)] } }, by decide +kernel⟩
  · exact ⟨63, true, up [(PortCtl.SLOT 63, 255)], by decide +kernel⟩

/-- The hypotheses of each clause of switches_flits_and_keys can be met. -/
theorem test_switches_flits_and_keys_met :
    (∃ (p : Nat) (s : State), s.managed ∧ p < 64 ∧ s.m.domOn (portDomain p) = true ∧ (s.m.port p).holding = 0) ∧
    (∃ (v : Nat) (s : State), s.managed ∧ v < 64 ∧ vcsEnableCheck v s.m = none) ∧
    (∃ (v : Nat) (s : State), s.managed ∧ v < 64) ∧
    (∃ (p ld cid a sl i u : Nat) (s : State), s.live ∧ p < 64 ∧ ld < 16 ∧ cid < 16 ∧ a < 2 ^ 52 ∧ entryUp s.m p = true ∧
      ideBlocked s.m p 1 = false ∧ s.m.rd (PortStat.PARTNER p) ≠ 5 ∧ mapSlice s.m p .none none = some sl ∧ sliceState s.m sl =
      1 ∧ s.m.rd (Pol.POL_MODE sl) = 0 ∧ vppbOf s.m p none = some i ∧ vState (s.m.rd (Vppb.VPPB i)) = 2 ∧ s.m.on
      (Vcs.VCS_ENABLE (vVcs (s.m.rd (Vppb.VPPB i)))) = true ∧ s.m.rd (Vcs.USP (vVcs (s.m.rd (Vppb.VPPB i)))) = u ∧ unbinding
      s.m (vVcs (s.m.rd (Vppb.VPPB i))) p none = false ∧ s.m.domOn (portDomain u) = true ∧ (u < 64 → ideBlocked s.m u 1 =
      false)) ∧
    (∃ (f : Flit) (s : State), wfFlit f = true ∧ s.live ∧ s.m.linkUp f.port = true ∧ s.m.domOn (portDomain f.port) = true ∧
      f.corrected = 0 ∧ f.fecOk = true ∧ f.crcOk = true ∧ s.m.on (if f.proto = 0 then PortIde.IO_IDE f.port else PortIde.CM_IDE
      f.port) = false ∧ Tab.get none s.m.core.discard f.port = none) ∧
    (∃ (f : Flit) (s : State), wfFlit f = true ∧ s.live ∧ s.m.linkUp f.port = true ∧ s.m.domOn (portDomain f.port) = true ∧
      f.corrected = 0 ∧ f.crcOk = false ∧ f.retrain = false) ∧
    (∃ (f : Flit) (s : State), wfFlit f = true ∧ s.live ∧ s.m.linkUp f.port = true ∧ s.m.domOn (portDomain f.port) = true ∧
      f.corrected = 0 ∧ f.crcOk = false ∧ f.retrain = true) := by
  refine ⟨?_, ?_, ?_, ?_, ?_, ?_, ?_⟩
  · exact ⟨63, up [(PortIde.KEY_SEL 63, 3), (PortIde.KEY 63, 5), (PortIde.IV 63, 7)], by decide +kernel⟩
  · exact ⟨63, up [(Vcs.USP 63, 63), (Port.ROLE 63, 1), (Port.ENABLE 63, 1), (Vcs.VPPB_FIRST 63, 1020), (Vcs.VPPB_COUNT 63, 4)], by decide +kernel⟩
  · exact ⟨63, up [(Vcs.VCS_ENABLE 63, 1), (Vcs.VCS_STATE 63, 2), (Vcs.USP 63, 63)], by decide +kernel⟩
  · exact ⟨63, 15, 5, 2^52-1, 4095, 1023, 1, up [(PortStat.LTSSM 63, 4), (PortMap.DEFAULT_SLICE 63, 4095), (Slc.SLC_STATE 4095, 1), (Vppb.VPPB 1023, vppbDesc (up []).m 2 63 63 none), (Vcs.VCS_ENABLE 63, 1), (Vcs.USP 63, 1)], by decide +kernel⟩
  · exact ⟨⟨63, 1, 0, true, true, true, false, [], false, []⟩, up [(PortStat.LTSSM 63, 4)], by decide +kernel⟩
  · exact ⟨⟨63, 1, 0, true, false, true, false, [], false, []⟩, up [(PortStat.LTSSM 63, 4)], by decide +kernel⟩
  · exact ⟨⟨63, 1, 0, true, false, true, false, [], true, []⟩, up [(PortStat.LTSSM 63, 4)], by decide +kernel⟩

/-- The hypotheses of each clause of binding can be met. -/
theorem test_binding_met :
    (∃ (v i p ld : Nat) (valid : Bool) (s : State), s.managed ∧ v < 64 ∧ i < 1024 ∧ p < 64 ∧ ld < 16 ∧ s.m.rd
      Bridge.BIND_STATUS ≠ 1 ∧ bindCheck v i p (if valid then some ld else none) s.m = none) ∧
    (∃ (v i p ld : Nat) (valid : Bool) (st : Status) (s : State), s.managed ∧ v < 64 ∧ i < 1024 ∧ p < 64 ∧ ld < 16 ∧ s.m.rd
      Bridge.BIND_STATUS ≠ 1 ∧ bindCheck v i p (if valid then some ld else none) s.m = some st) ∧
    (∃ (v i mode : Nat) (s : State), s.managed ∧ v < 64 ∧ i < 1024 ∧ mode ≤ 2 ∧ s.m.rd Bridge.BIND_STATUS ≠ 1 ∧ s.m.edge.job =
      none ∧ unbindCheck v i s.m = none) ∧
    (∃ (i : Nat) (s : State), s.live ∧ i < 1024 ∧ vState (s.m.rd (Vppb.VPPB i)) = 2) ∧
    (∃ (i : Nat) (s : State), s.live ∧ i < 1024) ∧
    (∃ (j : BindJob) (s : State), s.live ∧ s.m.edge.job = some j ∧ j.bind = false ∧ j.mode = 1 ∧ j.drain = false ∧ s.m.begun
      waitRemoval + usStitches (s.m.rd (Port.CPL_TIMEOUT_US j.port)) ≤ s.m.now.stitch) ∧
    (∃ (j : BindJob) (s : State), s.live ∧ s.m.edge.job = some j ∧ j.bind = false ∧ j.drain = true ∧ unbindBusy s.m j = false) := by
  refine ⟨?_, ?_, ?_, ?_, ?_, ?_, ?_⟩
  · exact ⟨63, 1023, 63, 15, true, up [(Vcs.VCS_ENABLE 63, 1), (Vcs.USP 63, 1), (Vcs.VPPB_FIRST 63, 1020), (Vcs.VPPB_COUNT 63, 4), (Port.ENABLE 63, 1), (PortStat.LTSSM 63, 4), (PortStat.PARTNER 63, 5), (PortStat.LD_COUNT 63, 16)], by decide +kernel⟩
  · exact ⟨63, 1023, 63, 15, false, .state, up [(Vcs.VCS_ENABLE 63, 1), (Vcs.USP 63, 1), (Vcs.VPPB_FIRST 63, 1020), (Vcs.VPPB_COUNT 63, 4), (Port.ENABLE 63, 1), (PortStat.LTSSM 63, 4), (PortStat.PARTNER 63, 5), (PortStat.LD_COUNT 63, 16)], by decide +kernel⟩
  · exact ⟨63, 1023, 2, up [(Vcs.VCS_ENABLE 63, 1), (Vcs.USP 63, 1), (Vcs.VPPB_FIRST 63, 1020), (Vcs.VPPB_COUNT 63, 4), (Port.ENABLE 63, 1), (PortStat.LTSSM 63, 4), (PortStat.PARTNER 63, 5), (PortStat.LD_COUNT 63, 16), (Vppb.VPPB 1023, vppbDesc (up []).m 2 63 63 (some 15))], by decide +kernel⟩
  · exact ⟨1023, up [(Vppb.VPPB 1023, vppbDesc (up []).m 2 63 63 (some 15))], by decide +kernel⟩
  · exact ⟨1023, on [(Vppb.VPPB 1023, vppbDesc (up []).m 2 63 63 (some 15))] fun m => { m with edge := { m.edge with job := some ⟨false, 63, 1023, 63, some 15, 1, false⟩, vppbs := [(1023, { VppbSt.reset with present := true })] } }, by decide +kernel⟩
  · exact ⟨⟨false, 63, 1023, 63, some 15, 1, false⟩, on [(Port.CPL_TIMEOUT_US 63, 1), (Vppb.VPPB 1023, vppbDesc (up []).m 2 63 63 (some 15)), (Bridge.BIND_STATUS, 1)] fun m => waiting waitRemoval 126 { m with edge := { m.edge with job := some ⟨false, 63, 1023, 63, some 15, 1, false⟩, vppbs := [(1023, { VppbSt.reset with present := true })] } }, by decide +kernel⟩
  · exact ⟨⟨false, 63, 1023, 63, some 15, 0, true⟩, on [(Vppb.VPPB 1023, vppbDesc (up []).m 2 63 63 (some 15)), (Bridge.BIND_STATUS, 1)] fun m => { m with edge := { m.edge with job := some ⟨false, 63, 1023, 63, some 15, 0, true⟩ } }, by decide +kernel⟩

/-- The hypotheses of each clause of pool_requests can be met. -/
theorem test_pool_requests_met :
    (∃ (r : IoReq) (s : State) (sl w p : Nat) (ld : Option Nat), s.IoPasses r sl ∧ r.kind = 0 ∧ s.PoolDirect r sl w p ld) ∧
    (∃ (r : IoReq) (s : State) (sl w p : Nat) (ld : Option Nat), s.IoPasses r sl ∧ r.kind = 0 ∧ s.PoolDirect r sl w p ld ∧
      isUsp s.m r.port = true ∧ (∀ e ∈ s.m.edge.sems, e.2.holder ≠ some r.port)) ∧
    (∃ (r : IoReq) (s : State) (sl w p : Nat) (ld : Option Nat), s.IoPasses r sl ∧ r.kind = 2 ∧ s.PoolDirect r sl w p ld ∧
      s.m.rd (Win.W_ATOMIC_SITE w) ≠ 0) ∧
    (∃ (r : MemReq) (s : State) (sl w p : Nat) (ld : Option Nat), s.MemPasses r sl ∧ r.op = .memRd ∧ r.mval = .i ∧ findWindow
      s.m r.addr = some w ∧ winTracked s.m w = false ∧ memberOff s.m w r.addr = false ∧ checkAccess s.m (pieceSite s.m w
      r.addr) sl needRead (r.addr / 64 * 64) 64 = none ∧ resolve s.m (winTarget s.m w (memberOf s.m w r.addr)) = .port p ld ∧
      takesMem s.m p = true ∧ (p < 64 → ideBlocked s.m p 1 = false)) ∧
    (∃ (r : MemReq) (s : State) (sl w : Nat), s.MemPasses r sl ∧ r.op = .memRd ∧ r.mval = .i ∧ findWindow s.m r.addr = some w ∧
      winTracked s.m w = true ∧ actsHome s.m w = true ∧ memberOff s.m w r.addr = false ∧ checkAccess s.m 0 sl needRead (r.addr
      / 64 * 64) 64 = none ∧ sliceRuns s.m (placeOfAddr s.m r.addr).c = true ∧ ((portAgent s.m r.port).any fun a => agentDead
      s.m a) = false ∧ nocReach s.m (sliceEnd (placeOfAddr s.m r.addr).c) = true ∧ s.m.domOn (routerDomain (routerOf
      (endpointOf r.port))) = true) := by
  refine ⟨?_, ?_, ?_, ?_, ?_⟩
  · exact ⟨⟨0, 65535, none, none, 0, false, 0, 0, 64, 8, 5, false, none, 0, 9, 0, 8, 5, 7⟩, pool [] id, 4095, 1023, 63, none, by decide +kernel⟩
  · exact ⟨⟨0, 65535, none, none, 0, false, 0, 0, 64, 8, 5, false, none, 0, 9, 0, 8, 5, 7⟩, pool [] id, 4095, 1023, 63, none, by decide +kernel⟩
  · exact ⟨⟨0, 65535, none, none, 2, false, 0, 0, 64, 8, 5, false, none, 0, 9, 0, 8, 5, 7⟩, pool [(Win.W_ATOMIC_SITE 1023, 1)] id, 4095, 1023, 63, none, by decide +kernel⟩
  · exact ⟨⟨0, none, 65535, .memRd, .i, 64, 9, 0, 0, false⟩, pool [] id, 4095, 1023, 63, none, by decide +kernel⟩
  · exact ⟨⟨0, none, 65535, .memRd, .i, 64, 9, 0, 0, false⟩, pool [(Win.W_TYPE 1023, 1), (Port.CA_ID 0, 5), (Ce.CE_STATE 0, 2), (Ce.CE_STATE 1, 2), (Ce.CE_STATE 2, 2), (Ce.CE_STATE 3, 2)] id, 4095, 1023, by decide +kernel⟩

/-- The hypotheses of each clause of responses_and_locks can be met. -/
theorem test_responses_and_locks_met :
    (∃ (p k n : Nat) (s : State), p < 67 ∧ s.live ∧ s.m.sem k = ⟨some p, [], n⟩ ∧ s.m.edge.served = []) ∧
    (∃ (p k : Nat) (s : State), p < 67 ∧ s.live ∧ (s.m.sem k).holder ≠ some p) ∧
    (∃ (p k n : Nat) (s : State), p < 64 ∧ s.live ∧ s.m.sem k = ⟨some p, [], n⟩ ∧ s.m.edge.served = [] ∧ n + usStitches (s.m.rd
      (PortCtl.LOCK_LIMIT_US p)) ≤ s.m.now.stitch ∧ s.m.rd (PortErr.LOCK_TIMEOUT p) + 1 < 2 ^ widthOf (PortErr.LOCK_TIMEOUT p)) ∧
    (∃ (p k : Nat) (s : State), p < 64 ∧ s.live ∧ (s.m.sem k).holder = some p ∧ s.m.now.stitch < (s.m.sem k).since + usStitches
      (s.m.rd (PortCtl.LOCK_LIMIT_US p))) ∧
    (∃ (p tag : Nat) (r : Response) (s : State) (x : Txn), p < 67 ∧ r.status = 0 ∧ s.live ∧ entryUp s.m p = true ∧ findEgress
      s.m p tag = some x ∧ x.io = true ∧ x.port < 255 ∧ (x.port < 64 → ideBlocked s.m x.port 0 = false)) ∧
    (∃ (p tag status : Nat) (s : State) (x : Txn), p < 67 ∧ s.live ∧ entryUp s.m p = true ∧ (status = 1 ∨ status = 2) ∧
      findEgress s.m p tag = some x ∧ x.io = true ∧ x.port < 255 ∧ (x.port < 64 → ideBlocked s.m x.port 0 = false)) ∧
    (∃ (p tag : Nat) (s : State), p < 64 ∧ s.live ∧ findEgress s.m p tag = none) ∧
    (∃ (p tag : Nat) (s : State) (x : Txn), p < 67 ∧ s.live ∧ findEgress s.m p tag = some x ∧ x.io = true ∧ x.port < 256 ∧
      cplDue s.m p x.since = true) ∧
    (∃ (p tag : Nat) (s : State) (x : Txn), p < 67 ∧ s.live ∧ findEgress s.m p tag = some x ∧ cplDue s.m p x.since = false) ∧
    (∃ (p tag : Nat) (s : State) (h : HeldRsp) (x : Txn), p < 67 ∧ s.live ∧ s.m.noc = NocSt.reset ∧ (p < 64 → ideBlocked s.m p
      0 = false) ∧ (s.m.coh.heldRsp.find? fun h => h.port == p && h.tag == tag) = some h ∧ findTxn s.m p tag = some x ∧ x.io =
      true) := by
  refine ⟨?_, ?_, ?_, ?_, ?_, ?_, ?_, ?_, ?_, ?_⟩
  · exact ⟨66, 2016, 7, on [] fun m => late 9 { m with edge := { m.edge with sems := [(2016, ⟨some 66, [], 7⟩)] } }, by decide +kernel⟩
  · exact ⟨66, 2016, on [] fun m => { m with edge := { m.edge with sems := [(2016, ⟨some 65, [], 7⟩)] } }, by decide +kernel⟩
  · exact ⟨63, 2016, 7, on [(PortCtl.LOCK_LIMIT_US 63, 1)] fun m => late 132 { m with edge := { m.edge with sems := [(2016, ⟨some 63, [], 7⟩)] } }, by decide +kernel⟩
  · exact ⟨63, 2016, on [(PortCtl.LOCK_LIMIT_US 63, 1)] fun m => late 131 { m with edge := { m.edge with sems := [(2016, ⟨some 63, [], 7⟩)] } }, by decide +kernel⟩
  · exact ⟨63, 9, ⟨0, 77, true⟩, pool [] fun m => { m with edge := { m.edge with txns := [⟨0, 9, true, true, 63, none, 0, 4095, 0, 64, 8, 0, 0, 1, none, 0⟩] } }, ⟨0, 9, true, true, 63, none, 0, 4095, 0, 64, 8, 0, 0, 1, none, 0⟩, by decide +kernel⟩
  · exact ⟨63, 9, 2, pool [] fun m => { m with edge := { m.edge with txns := [⟨0, 9, true, true, 63, none, 0, 4095, 0, 64, 8, 0, 0, 1, none, 0⟩] } }, ⟨0, 9, true, true, 63, none, 0, 4095, 0, 64, 8, 0, 0, 1, none, 0⟩, by decide +kernel⟩
  · exact ⟨63, 8, pool [] fun m => { m with edge := { m.edge with txns := [⟨0, 9, true, true, 63, none, 0, 4095, 0, 64, 8, 0, 0, 1, none, 0⟩] } }, by decide +kernel⟩
  · exact ⟨63, 9, pool [(Port.CPL_TIMEOUT_US 63, 1)] fun m => late 125 { m with edge := { m.edge with txns := [⟨0, 9, true, true, 63, none, 0, 4095, 0, 64, 8, 0, 0, 1, none, 0⟩] } }, ⟨0, 9, true, true, 63, none, 0, 4095, 0, 64, 8, 0, 0, 1, none, 0⟩, by decide +kernel⟩
  · exact ⟨63, 9, pool [(Port.CPL_TIMEOUT_US 63, 1)] fun m => late 124 { m with edge := { m.edge with txns := [⟨0, 9, true, true, 63, none, 0, 4095, 0, 64, 8, 0, 0, 1, none, 0⟩] } }, ⟨0, 9, true, true, 63, none, 0, 4095, 0, 64, 8, 0, 0, 1, none, 0⟩, by decide +kernel⟩
  · exact ⟨0, 9, pool [] fun m => { m with edge := { m.edge with txns := [⟨0, 9, true, true, 63, none, 0, 4095, 0, 64, 8, 0, 0, 1, none, 0⟩] }, coh := { m.coh with heldRsp := [⟨0, 9, 77, true⟩] } }, ⟨0, 9, 77, true⟩, ⟨0, 9, true, true, 63, none, 0, 4095, 0, 64, 8, 0, 0, 1, none, 0⟩, by decide +kernel⟩

/-- The hypotheses of each clause of windows can be met. -/
theorem test_windows_met :
    (∃ (w : Nat) (s : State), w < 1024 ∧ s.managed ∧ windowEnableCheck w s.m = none) ∧
    (∃ (w : Nat) (s : State), w < 1024 ∧ s.managed ∧ s.m.rd (Win.W_STATE w) = 1) ∧
    (∃ (w : Nat) (s : State), w < 1024 ∧ s.live ∧ s.m.rd (Win.W_STATE w) = 2 ∧ winTracked s.m w = false) ∧
    (∃ (w : Nat) (s : State), w < 1024 ∧ s.live ∧ s.m.rd (Win.W_STATE w) = 2 ∧ winTracked s.m w = true ∧ s.m.coh.dir = [] ∧
      s.m.coh.tlt = []) := by
  refine ⟨?_, ?_, ?_, ?_⟩
  · exact ⟨1023, up [(Port.ENABLE 63, 1), (Win.W_SIZE 1023, 1), (Win.W_TARGETS 1023, 1 + 4 * 63)], by decide +kernel⟩
  · exact ⟨1023, pool [(Win.W_ENABLE 1023, 1)] id, by decide +kernel⟩
  · exact ⟨1023, pool [(Win.W_STATE 1023, 2)] id, by decide +kernel⟩
  · exact ⟨1023, pool [(Win.W_STATE 1023, 2), (Win.W_TYPE 1023, 1)] id, by decide +kernel⟩

/-- The hypotheses of each clause of rules_and_swaps can be met. -/
theorem test_rules_and_swaps_met :
    (∃ (x : Site) (s : State), wfSite x = true ∧ s.live ∧ s.m.rd (setStateKey (siteNo x)) = 1 ∧ (s.m.site (siteNo x)).copying =
      false ∧ bankOverlap s.m (siteNo x) (1 - s.m.rd (sewnKey (siteNo x))) = none) ∧
    (∃ (x : Site) (s : State) (r q : Nat), wfSite x = true ∧ s.live ∧ s.m.rd (setStateKey (siteNo x)) = 1 ∧ (s.m.site (siteNo
      x)).copying = false ∧ bankOverlap s.m (siteNo x) (1 - s.m.rd (sewnKey (siteNo x))) = some (r, q)) ∧
    (∃ (x : Site) (s : State), wfSite x = true ∧ s.managed ∧ ruleCopyCheck (siteNo x) s.m = none ∧ (∀ p, x = .gate p →
      s.m.domOn (portDomain p) = true)) ∧
    (∃ (x : Site) (s : State) (r : Nat), wfSite x = true ∧ s.live ∧ (s.m.site (siteNo x)).copying = true ∧ s.m.rd (sewnKey
      (siteNo x)) < 2 ∧ (Tab.wf (fun _ => 0) s.m.ram = true) ∧ r < bankRules (siteNo x)) ∧
    (∃ (x : Site) (s : State), wfSite x = true ∧ s.managed ∧ swapCheck (siteNo x) s.m = none ∧ (∀ p, x = .gate p → s.m.domOn
      (portDomain p) = true)) ∧
    (∃ (x : Site) (s : State), wfSite x = true ∧ s.live ∧ s.m.rd (setStateKey (siteNo x)) = 3) := by
  refine ⟨?_, ?_, ?_, ?_, ?_, ?_⟩
  · exact ⟨.gate 63, up [(Gate.SET_STATE 63, 1)], by decide +kernel⟩
  · exact ⟨.central, on [(Ct.SET_STATE, 1)] fun m => withRule 0 1 0 4095 0 9 7 (withRule 0 1 8191 4095 9 10 3 m), 0, 8191, by decide +kernel⟩
  · exact ⟨.gate 63, up [], by decide +kernel, by decide +kernel, by decide +kernel, fun p h => by cases h; decide +kernel⟩
  · exact ⟨.central, pool [] fun m => m.updSite 0 fun x => { x with copying := true }, 8191, by decide +kernel⟩
  · exact ⟨.gate 63, on [] fun m => { m with protect := { m.protect with stamps := [⟨64, 0, 5, 6, 0⟩] } }, by decide +kernel, by decide +kernel, by decide +kernel, fun p h => by cases h; decide +kernel⟩
  · exact ⟨.central, on [(Ct.SET_STATE, 3)] fun m => { m with now := { m.now with stitch := 7 } }, by decide +kernel⟩

/-- The hypotheses of each clause of slice_life can be met. -/
theorem test_slice_life_met :
    (∃ (n : Nat) (s : State), n < 4096 ∧ s.managed ∧ sliceCtrlCheck n 1 s.m = none) ∧
    (∃ (n : Nat) (s : State), n < 4096 ∧ s.managed ∧ sliceCtrlCheck n 2 s.m = none) ∧
    (∃ (n : Nat) (s : State), n < 4096 ∧ s.managed ∧ sliceCtrlCheck n 3 s.m = none) ∧
    (∃ (n : Nat) (s : State), n < 4096 ∧ s.managed ∧ sliceCtrlCheck n 4 s.m = none ∧ sliceState s.m n = 3) ∧
    (∃ (n : Nat) (s : State), n < 4096 ∧ s.managed ∧ sliceCtrlCheck n 4 s.m = none ∧ sliceState s.m n = 1) ∧
    (∃ (n : Nat) (s : State), n < 4096 ∧ s.live ∧ sliceState s.m n = 2 ∧ (s.m.slice n).began < s.m.now.stitch ∧ (s.m.slice
      n).moves < s.m.now.stitch ∧ (s.m.slice n).ending ≠ 3 ∧ s.m.coh.dir = [] ∧ s.m.rd (Slc.SLC_BS_HELD n) = 0 ∧ oldGenGone s.m
      n = true) := by
  refine ⟨?_, ?_, ?_, ?_, ?_, ?_⟩
  · exact ⟨4095, up [], by decide +kernel⟩
  · exact ⟨4095, pool [] fun m => { m with edge := { m.edge with txns := [⟨0, 9, true, true, 63, none, 0, 4095, 0, 64, 8, 0, 0, 1, none, 0⟩] } }, by decide +kernel⟩
  · exact ⟨4095, up [(Slc.SLC_STATE 4095, 1), (Slc.SLC_PORT 4095, 0), (PortMap.DEFAULT_SLICE 0, 4095), (Port.ENABLE 0, 1), (Port.ROLE 0, 1), (Port.CA_ID 0, 63), (Slc.SLC_CAUSE 4095, 3)], by decide +kernel⟩
  · exact ⟨4095, up [(Slc.SLC_STATE 4095, 3), (Slc.SLC_PORT 4095, 3), (Slc.SLC_CAUSE 4095, 3)], by decide +kernel⟩
  · exact ⟨4095, up [(Slc.SLC_STATE 4095, 1), (Slc.SLC_PORT 4095, 3), (Slc.SLC_CAUSE 4095, 3)], by decide +kernel⟩
  · exact ⟨4095, on [(Slc.SLC_STATE 4095, 2)] fun m => { m with now := { m.now with stitch := 7 } }, by decide +kernel⟩

/-- The hypotheses of each clause of slice_records_and_gate_lists can be met. -/
theorem test_slice_records_and_gate_lists_met :
    (∃ (n v : Nat) (s : State), n < 4096 ∧ v < 2 ^ 32 ∧ s.managed ∧ classesCheck n v s.m = none) ∧
    (∃ (n kind cls : Nat) (s : State), n < 4096 ∧ s.live ∧ ((s.m.slice n).hold.find? fun h => h.1 == kind) = some (kind, cls) ∧
      (∀ x ∈ s.m.core.pkts, x.slice = n → x.kind = kind → x.cls = cls → x.path = 0)) ∧
    (∃ (n v : Nat) (s : State), n < 4096 ∧ v < 2 ^ 128 ∧ s.managed ∧ slcNeedleCheck n v s.m = none ∧ (∀ c, c < 128 → bitAt
      (s.m.rd (Slc.SLC_NEEDLE n)) c = true → bitAt v c = true)) ∧
    (∃ (n v : Nat) (s : State), n < 4096 ∧ v < 2 ^ 32 ∧ s.managed) ∧
    (∃ (n v : Nat) (s : State), n < 4096 ∧ v < 2 ^ 1024 ∧ s.managed ∧ vectorsCheck v = none) ∧
    (∃ (p : Nat) (s : State), p < 64 ∧ s.managed ∧ s.m.domOn (portDomain p) = true ∧ tgCommitCheck p s.m = none) ∧
    (∃ (p at_ : Nat) (s : State), p < 64 ∧ s.live ∧ (s.m.gate p).due = some at_ ∧ at_ ≤ s.m.now.stitch + 1 ∧ s.m.now.lost =
      false) := by
  refine ⟨?_, ?_, ?_, ?_, ?_, ?_, ?_⟩
  · exact ⟨4095, 0xC0020100, up [(Fab.RESP_CLASSES, 4)], by decide +kernel⟩
  · exact ⟨4095, 3, 5, on [] fun m => m.updSlice 4095 fun x => { x with hold := [(3, 5), (2, 1)] }, by decide +kernel⟩
  · exact ⟨4095, 2^127, up [], by decide +kernel⟩
  · exact ⟨4095, 2^31+1, up [(Slc.SLC_CAUSE 4095, 3)], by decide +kernel⟩
  · exact ⟨4095, 2^(128*7+2), up [], by decide +kernel⟩
  · exact ⟨63, up [(Tg.TG_START_TIME 63, 99)], by decide +kernel⟩
  · exact ⟨63, 1, on [(Tg.TG_STATE 63, 2), (Tg.TG_LIST 63, 5), (Tg.TG_LEN 63, 1)] fun m => { m with traffic := { m.traffic with gates := [(63, { GateSt.reset with due := some 1 })] } }, by decide +kernel⟩

/-- The hypotheses of each clause of needle_channels can be met. -/
theorem test_needle_channels_met :
    (∃ (c : Nat) (s : State), c < 128 ∧ s.managed ∧ s.m.domOn 62 = true ∧ chStartCheck c s.m = none) ∧
    (∃ (c : Nat) (s : State), c < 128 ∧ s.managed ∧ s.m.domOn 62 = true ∧ chStopCheck c s.m = none) ∧
    (∃ (c : Nat) (s : State), c < 128 ∧ s.live ∧ s.m.rd (Chan.CH_STATE c) = 3 ∧ (s.m.chan c).moving = none ∧ (s.m.chan
      c).before = []) ∧
    (∃ (c : Nat) (s : State), c < 128 ∧ s.managed ∧ s.m.domOn 62 = true) ∧
    (∃ (c : Nat) (s : State) (sl : Nat), c < 128 ∧ s.live ∧ mayFetch s.m c = true ∧ chanSlice s.m c = some sl) ∧
    (∃ (c : Nat) (s : State), c < 128 ∧ s.live ∧ mayFetch s.m c = true) ∧
    (∃ (c : Nat) (s : State) (d : NDesc), c < 128 ∧ s.live ∧ s.m.domOn 62 = true ∧ s.m.rd (Chan.CH_STATE c) = 2 ∧ (s.m.chan
      c).moving = none ∧ (s.m.chan c).before = [] ∧ (s.m.chan c).next = some d ∧ d.verdict = none ∧ dOp d.raw = 0 ∧ badDesc
      d.raw = false ∧ ringOutside s.m c d = false) ∧
    (∃ (c : Nat) (s : State) (d : NDesc), c < 128 ∧ s.live ∧ s.m.domOn 62 = true ∧ s.m.rd (Chan.CH_STATE c) = 2 ∧ (s.m.chan
      c).moving = none ∧ (s.m.chan c).before = [] ∧ (s.m.chan c).next = some d ∧ d.verdict = none ∧ badDesc d.raw = true) ∧
    (∃ (c : Nat) (s : State) (d : NDesc), c < 128 ∧ s.live ∧ (s.m.chan c).moving = some d ∧ (s.m.chan c).before = [] ∧
      (s.m.chan c).run.fail = none ∧ (s.m.chan c).run.wpos = descBytes d.raw ∧ (s.m.chan c).next = none ∧ d.slice < 4096 ∧
      s.m.rd (Chan.DESC_DONE c) + 1 < 2 ^ widthOf (Chan.DESC_DONE c)) ∧
    (∃ (c : Nat) (s : State) (d : NDesc), c < 128 ∧ s.live ∧ (s.m.chan c).moving = some d ∧ (s.m.chan c).before = [] ∧
      (s.m.chan c).next = none) := by
  refine ⟨?_, ?_, ?_, ?_, ?_, ?_, ?_, ?_, ?_, ?_⟩
  · exact ⟨127, up [(Slc.SLC_NEEDLE 4095, 2 ^ 127), (Slc.SLC_STATE 4095, 1), (Chan.RING_LOC 127, 1), (Chan.CH_STATE 127, 4)], by decide +kernel⟩
  · exact ⟨127, up [(Slc.SLC_NEEDLE 4095, 2 ^ 127), (Slc.SLC_STATE 4095, 1), (Chan.CH_STATE 127, 4)], by decide +kernel⟩
  · exact ⟨127, up [(Slc.SLC_NEEDLE 4095, 2 ^ 127), (Slc.SLC_STATE 4095, 1), (Chan.CH_STATE 127, 3)], by decide +kernel⟩
  · exact ⟨127, up [(Slc.SLC_NEEDLE 4095, 2 ^ 127), (Slc.SLC_STATE 4095, 1), (Chan.RING_LOG2 127, 6)], by decide +kernel⟩
  · exact ⟨127, up [(Slc.SLC_NEEDLE 4095, 2 ^ 127), (Slc.SLC_STATE 4095, 1), (Chan.CH_STATE 127, 2), (Chan.RING_LOG2 127, 6), (Chan.RING_HEAD 127, 63), (Chan.RING_LOC 127, 1)], 4095, by decide +kernel⟩
  · exact ⟨127, up [(Slc.SLC_NEEDLE 4095, 2 ^ 127), (Slc.SLC_STATE 4095, 1), (Chan.CH_STATE 127, 2), (Chan.RING_LOG2 127, 6), (Chan.RING_HEAD 127, 63)], by decide +kernel⟩
  · exact ⟨127, on [(Slc.SLC_NEEDLE 4095, 2 ^ 127), (Slc.SLC_STATE 4095, 1), (Chan.RING_LOG2 127, 6), (Chan.RING_HEAD 127, 63), (Chan.CH_STATE 127, 2)] fun m => { m with chans := [(127, ⟨none, NRun.reset, some ⟨63, 0, 4095, 0, none, 0, 0, 0⟩, NRun.reset, []⟩)] }, ⟨63, 0, 4095, 0, none, 0, 0, 0⟩, by decide +kernel⟩
  · exact ⟨127, on [(Slc.SLC_NEEDLE 4095, 2 ^ 127), (Slc.SLC_STATE 4095, 1), (Chan.RING_LOG2 127, 6), (Chan.RING_HEAD 127, 63), (Chan.CH_STATE 127, 2)] fun m => { m with chans := [(127, ⟨none, NRun.reset, some ⟨63, 15, 4095, 0, none, 0, 0, 0⟩, NRun.reset, []⟩)] }, ⟨63, 15, 4095, 0, none, 0, 0, 0⟩, by decide +kernel⟩
  · exact ⟨127, on [(Slc.SLC_NEEDLE 4095, 2 ^ 127), (Slc.SLC_STATE 4095, 1), (Chan.RING_LOG2 127, 6), (Chan.RING_HEAD 127, 63), (Chan.CH_STATE 127, 2)] fun m => { m with chans := [(127, ⟨some ⟨63, 0, 4095, 0, some none, 0, 0, 0⟩, { NRun.reset with wpos := descBytes 0 }, none, NRun.reset, []⟩)] }, ⟨63, 0, 4095, 0, some none, 0, 0, 0⟩, by decide +kernel⟩
  · exact ⟨127, on [(Slc.SLC_NEEDLE 4095, 2 ^ 127), (Slc.SLC_STATE 4095, 1), (Chan.RING_LOG2 127, 6), (Chan.RING_HEAD 127, 63), (Chan.CH_STATE 127, 2)] fun m => { m with chans := [(127, ⟨some ⟨63, 1, 4095, 0, some none, 0, 0, 0⟩, NRun.reset, none, NRun.reset, []⟩)] }, ⟨63, 1, 4095, 0, some none, 0, 0, 0⟩, by decide +kernel⟩

/-- The hypotheses of each clause of reference_and_doze can be met. -/
theorem test_reference_and_doze_met :
    (∃ (b : Nat) (ppm : Int) (s : State), s.live ∧ b < 36 ∧ s.m.domOn (blockDomain b) = true ∧ (s.m.blk b).fault = false ∧
      -5600 ≤ ppm ∧ ppm ≤ 600) ∧
    (∃ (b : Nat) (ppm : Int) (s : State), s.live ∧ b < 36 ∧ s.m.domOn (blockDomain b) = true ∧ (s.m.blk b).fault = true ∧ -5600
      ≤ ppm ∧ ppm ≤ 600 ∧ (s.m.blk b).good < 9) ∧
    (∃ (b : Nat) (s : State), s.live ∧ b < 36 ∧ s.m.domOn (blockDomain b) = true ∧ (s.m.blk b).fault = true) ∧
    (∃ (b : Nat) (s : State), s.live ∧ b < 36 ∧ s.m.domOn (blockDomain b) = true ∧ (s.m.blk b).fault = false ∧ blockPorts s.m b
      = [] ∧ seamOfBlock s.m b = none) ∧
    (∃ (b : Nat) (s : State), s.live ∧ b < 36 ∧ s.m.domOn (blockDomain b) = true ∧ s.m.rd (Blk.PLL_STATE b) = 2 ∧ blockPorts
      s.m b = [] ∧ seamOfBlock s.m b = none) ∧
    (∃ (b : Nat) (s : State), s.live ∧ b < 36 ∧ s.m.domOn (blockDomain b) = true ∧ s.m.rd (Blk.PLL_STATE b) = 1) ∧
    (∃ (n level : Nat) (s : State), s.live ∧ n < 288 ∧ level < 3 ∧ s.m.domOn (laneDomain n) = true ∧ (s.m.lane n).wake = false
      ∧ (s.m.lane n).exitAt ≠ some s.m.now.stitch ∧ s.m.rd (Lane.LANE_STATE n) ≠ 1 ∧ rawLane s.m n = true ∧ s.m.on (Lane.DOZE
      n) = true) ∧
    (∃ (n level : Nat) (pm : Bool) (s : State), s.live ∧ n < 256 ∧ level < 3 ∧ s.m.domOn (laneDomain n) = true ∧ (s.m.lane
      n).wake = false ∧ (s.m.lane n).exitAt ≠ some s.m.now.stitch ∧ s.m.rd (Lane.LANE_STATE n) ≠ 1 ∧ rawLane s.m n = false ∧
      s.m.on (Port.ENABLE (lanePort s.m n)) = true ∧ s.m.rd (PortStat.LTSSM (lanePort s.m n)) = 4 ∧ (pm = true ∨ level < s.m.rd
      (Port.ASPM (lanePort s.m n)))) ∧
    (∃ (n : Nat) (s : State), s.live ∧ n < 288 ∧ s.m.domOn (laneDomain n) = true ∧ s.m.rd (Lane.LANE_STATE n) = 1 ∧ (rawLane
      s.m n = false ∨ s.m.on (Lane.DOZE n) = false) ∧ (∀ w, (s.m.lane n).entered = some w → w.stitch ≠ s.m.now.stitch)) ∧
    (∃ (n us : Nat) (s : State), s.live ∧ n < 288 ∧ us < 65536 ∧ s.m.domOn (laneDomain n) = true ∧ rawLane s.m n = true ∧
      s.m.rd (Lane.LANE_STATE n) = 2 ∧ s.m.rd (Blk.PLL_STATE (laneBlock n)) = 2 ∧ s.m.rd (Blk.DOZE_EXITS (laneBlock n)) + 1 < 2
      ^ widthOf (Blk.DOZE_EXITS (laneBlock n))) := by
  refine ⟨?_, ?_, ?_, ?_, ?_, ?_, ?_, ?_, ?_, ?_⟩
  · exact ⟨35, -5600, up [], by decide +kernel⟩
  · exact ⟨35, 600, on [(Blk.PLL_STATE 35, 3)] fun m => { m with lanes := { m.lanes with blocks := [(35, ⟨true, 8, none⟩)] } }, by decide +kernel⟩
  · exact ⟨35, on [(Blk.PLL_STATE 35, 3)] fun m => { m with lanes := { m.lanes with blocks := [(35, ⟨true, 8, none⟩)] } }, by decide +kernel⟩
  · exact ⟨31, up [(Blk.PLL_STATE 31, 2)], by decide +kernel⟩
  · exact ⟨31, up [(Blk.PLL_STATE 31, 2)], by decide +kernel⟩
  · exact ⟨31, up [(Blk.PLL_STATE 31, 1), (Port.ENABLE 63, 1), (PortStat.LTSSM 63, 2)], by decide +kernel⟩
  · exact ⟨287, 2, up [(Lane.LANE_MODE 287, 1), (Lane.DOZE 287, 1), (Blk.PLL_STATE 35, 2)], by decide +kernel⟩
  · exact ⟨255, 2, false, up [(Port.ENABLE 63, 1), (PortStat.LTSSM 63, 4), (Port.ASPM 63, 3), (Blk.PLL_STATE 31, 2), (Lane.LANE_STATE 255, 4)], by decide +kernel⟩
  · exact ⟨287, up [(Lane.LANE_STATE 287, 1)], by decide +kernel⟩
  · exact ⟨287, 65535, up [(Lane.LANE_MODE 287, 1), (Lane.LANE_STATE 287, 2), (Blk.PLL_STATE 35, 2)], by decide +kernel⟩

/-- The hypotheses of each clause of lane_test_mode can be met. -/
theorem test_lane_test_mode_met :
    (∃ (n : Nat) (s : State), s.managed ∧ n < 288 ∧ s.m.domOn (laneDomain n) = true ∧ rawLane s.m n = false ∧ laneModeCheck n
      true s.m = none) ∧
    (∃ (n : Nat) (s : State), s.managed ∧ n < 288 ∧ s.m.domOn (laneDomain n) = true ∧ rawLane s.m n = true) ∧
    (∃ (n : Nat) (s : State), s.live ∧ n < 288 ∧ rawLane s.m n = true ∧ s.m.rd (Lane.CHK_LOCK n) = 1) ∧
    (∃ (n : Nat) (s : State), s.live ∧ n < 288 ∧ rawLane s.m n = true ∧ s.m.rd (Lane.CHK_LOCK n) = 2 ∧ s.m.rd (Lane.CHK_LOST n)
      + 1 < 2 ^ widthOf (Lane.CHK_LOST n)) ∧
    (∃ (n : Nat) (s : State), s.live ∧ n < 288 ∧ rawLane s.m n = true ∧ s.m.rd (Lane.PRBS_BITS n) = prbsMax ∧ (s.m.lane
      n).stopped = false) ∧
    (∃ (n : Nat) (s : State), s.managed ∧ n < 288 ∧ s.m.domOn (laneDomain n) = true) ∧
    (∃ (n : Nat) (s : State), s.managed ∧ n < 288 ∧ s.m.domOn (laneDomain n) = true ∧ slipCheck n s.m = none) ∧
    (∃ (n : Nat) (s : State), s.live ∧ n < 288 ∧ (s.m.lane n).slipping = true) ∧
    (∃ (n w : Nat) (s : State), s.live ∧ n < 288 ∧ rawLane s.m n = true ∧ s.m.rd (Lane.ALIGN_STATE n) = 0 ∧ w ≠ s.m.rd
      (Lane.ALIGN_PATTERN n)) ∧
    (∃ (n w : Nat) (words : List Nat) (s : State), s.live ∧ n < 288 ∧ rawLane s.m n = true ∧ s.m.rd (Lane.ALIGN_STATE n) = 0 ∧
      (∀ x ∈ w :: words, x = s.m.rd (Lane.ALIGN_PATTERN n))) := by
  refine ⟨?_, ?_, ?_, ?_, ?_, ?_, ?_, ?_, ?_, ?_⟩
  · exact ⟨287, up [], by decide +kernel⟩
  · exact ⟨255, up [(Lane.LANE_MODE 255, 1), (Lane.LOOP 255, 1), (Lane.PRBS_GEN 255, 1)], by decide +kernel⟩
  · exact ⟨287, up [(Lane.LANE_MODE 287, 1), (Lane.CHK_LOCK 287, 1)], by decide +kernel⟩
  · exact ⟨287, up [(Lane.LANE_MODE 287, 1), (Lane.CHK_LOCK 287, 2)], by decide +kernel⟩
  · exact ⟨287, up [(Lane.LANE_MODE 287, 1), (Lane.PRBS_BITS 287, prbsMax)], by decide +kernel⟩
  · exact ⟨287, on [(Lane.LANE_MODE 287, 1), (Lane.PRBS_BITS 287, 9), (Lane.PRBS_ERR 287, 3)] fun m => { m with now := { m.now with stitch := 7 } }, by decide +kernel⟩
  · exact ⟨287, up [(Lane.LANE_MODE 287, 1)], by decide +kernel⟩
  · exact ⟨287, on [(Lane.LANE_MODE 287, 1), (Lane.TEST_RATE 287, 5), (Lane.SLIP_POS 287, 31)] fun m => { m with lanes := { m.lanes with lanes := [(287, { LaneSt.reset with slipping := true })] } }, by decide +kernel⟩
  · exact ⟨287, 9, on [(Lane.LANE_MODE 287, 1)] fun m => { m with lanes := { m.lanes with lanes := [(287, { LaneSt.reset with matches_ := 7 })] } }, by decide +kernel⟩
  · exact ⟨287, 9, [9], on [(Lane.LANE_MODE 287, 1), (Lane.ALIGN_PATTERN 287, 9)] fun m => { m with lanes := { m.lanes with lanes := [(287, { LaneSt.reset with matches_ := 14 })] } }, by decide +kernel, by decide +kernel, by decide +kernel, by decide +kernel, by decide +kernel⟩

/-- The hypotheses of each clause of seam_frames can be met. -/
theorem test_seam_frames_met :
    (∃ (n bits : Nat) (outs : List Nat) (f : Frame) (s : State), s.live ∧ n < 2 ∧ wfFrame bits = true ∧ wfOuts outs = true ∧
      seamsOn s.m = true ∧ linkOf s.m n = 3 ∧ readFrame bits = (some f, []) ∧ f.nak = false ∧ f.lcmd = 0 ∧ (s.m.seam
      n).switching = none ∧ (s.m.seam n).cmd = none ∧ (f.ack + 4096 - seamOldest s.m n) % 4096 = 4095 ∧ (∀ v, v < 8 → (vcGet
      f.credit v + 65536 - vcGet (s.m.seam n).returned v) % 65536 = 0) ∧ s.m.rd (SeamCnt.FRAMES_RX n) + 1 < 2 ^ widthOf
      (SeamCnt.FRAMES_RX n)) ∧
    (∃ (n bits : Nat) (s : State), s.live ∧ n < 2 ∧ wfFrame bits = true ∧ seamsOn s.m = true ∧ linkOf s.m n = 3 ∧ readFrame
      bits = (none, []) ∧ (s.m.seam n).switching = none ∧ (s.m.seam n).badRun < 15 ∧ s.m.rd (SeamCnt.BAD_FRAMES n) + 1 < 2 ^
      widthOf (SeamCnt.BAD_FRAMES n)) ∧
    (∃ (n bits : Nat) (f : Frame) (s : State), s.live ∧ n < 2 ∧ wfFrame bits = true ∧ seamsOn s.m = true ∧ linkOf s.m n = 3 ∧
      readFrame bits = (some f, []) ∧ f.ty = 0 ∧ (s.m.seam n).switching = none) ∧
    (∃ (n bits : Nat) (f : Frame) (s : State), s.live ∧ n < 2 ∧ wfFrame bits = true ∧ seamsOn s.m = true ∧ (linkOf s.m n = 1 ∨
      linkOf s.m n = 4) ∧ readFrame bits = (some f, []) ∧ f.ty = 3 ∧ initMismatch s.m n f.init = false ∧ (s.m.seam n).resume =
      false ∧ (s.m.seam n).final = true ∧ s.m.rd (SeamCnt.FRAMES_RX n) + 1 < 2 ^ widthOf (SeamCnt.FRAMES_RX n)) ∧
    (∃ (n bits : Nat) (s : State), s.live ∧ n < 2 ∧ wfFrame bits = true ∧ seamsOn s.m = true ∧ (linkOf s.m n = 1 ∨ linkOf s.m n
      = 4) ∧ (readFrame bits).2 = [] ∧ (∀ f, (readFrame bits).1 = some f → f.ty ≠ 3)) ∧
    (∃ (n : Nat) (s : State), s.live ∧ n < 2 ∧ seamsOn s.m = true ∧ (linkOf s.m n = 1 ∨ linkOf s.m n = 4) ∧ ((s.m.seam n).peer
      = none ∨ (s.m.seam n).final = true) ∧ s.m.rd (SeamCnt.FRAMES_TX n) + 1 < 2 ^ widthOf (SeamCnt.FRAMES_TX n)) ∧
    (∃ (n : Nat) (s : State), s.live ∧ n < 2 ∧ seamsOn s.m = true ∧ linkOf s.m n = 3 ∧ (s.m.seam n).cursor = none ∧ (arbitrate
      s.m (7 + n) ((openVcs s.m n).map fun v => (v, s.m.now.stitch)) = none) ∧ controlWanted s.m n = false) ∧
    (∃ (n : Nat) (s : State), s.live ∧ n < 2 ∧ seamsOn s.m = true ∧ linkOf s.m n = 3 ∧ ackWanted s.m n = true ∧ (s.m.seam
      n).cursor = none ∧ openVcs s.m n = [] ∧ (s.m.seam n).switching = none ∧ (s.m.seam n).nakDue = false ∧ s.m.rd
      (SeamCnt.FRAMES_TX n) + 1 < 2 ^ widthOf (SeamCnt.FRAMES_TX n)) ∧
    (∃ (n : Nat) (s : State), s.live ∧ n < 2 ∧ linkOf s.m n = 3 ∧ outstanding s.m n ≠ 0 ∧ (s.m.seam n).replays < 4 ∧ (s.m.seam
      n).timerAt + s.m.rd (SeamCfg.REPLAY_NS n) ≤ s.m.now.ftime ∧ s.m.rd (SeamCnt.REPLAY_TIMER n) + 1 < 2 ^ widthOf
      (SeamCnt.REPLAY_TIMER n)) ∧
    (∃ (n : Nat) (s : State), s.live ∧ n < 2 ∧ s.m.now.ftime < (s.m.seam n).timerAt + s.m.rd (SeamCfg.REPLAY_NS n)) := by
  refine ⟨?_, ?_, ?_, ?_, ?_, ?_, ?_, ?_, ?_, ?_⟩
  · exact ⟨1, frameBits (frameHeader 2 0 0 4095 false 0 ⟨0, 0, 0⟩) 0, [], frameFields (toBytes 242 (frameHeader 2 0 0 4095 false 0 ⟨0, 0, 0⟩)), seamed [] id, by decide +kernel⟩
  · exact ⟨1, 0, seamed [] fun x => { x with badRun := 14 }, by decide +kernel⟩
  · exact ⟨1, frameBits (frameHeader 0 0 0 4095 false 0 ⟨0, 0, 0⟩) 0, frameFields (toBytes 242 (frameHeader 0 0 0 4095 false 0 ⟨0, 0, 0⟩)), seamed [] fun x => { x with badRun := 14 }, by decide +kernel⟩
  · exact ⟨1, frameBits (frameHeader 3 0 0 4095 false 0 ⟨0, 0, 0⟩) init1, frameFields (toBytes 242 (frameHeader 3 0 0 4095 false 0 ⟨0, 0, 0⟩ + 2 ^ 64 * init1)), seamed [(SeamStat.LINK_STATE 1, 1)] fun x => { x with final := true, inits := 62 }, by decide +kernel⟩
  · exact ⟨1, 0, seamed [(SeamStat.LINK_STATE 1, 4)] fun x => { x with inits := 62 }, by decide +kernel, by decide +kernel, by decide +kernel, by decide +kernel, by decide +kernel, by decide +kernel, (by have e : (readFrame 0).1 = none := (by decide +kernel); simp [e])⟩
  · exact ⟨1, up [(Seam.SEAM_MODE, 2), (SeamStat.LINK_STATE 1, 4), (SeamCfg.SEAM_ENABLE 1, 1)], by decide +kernel⟩
  · exact ⟨1, up [(Seam.SEAM_MODE, 2), (SeamStat.LINK_STATE 1, 3), (SeamCfg.SEAM_ENABLE 1, 1)], by decide +kernel⟩
  · exact ⟨1, on [(Seam.SEAM_MODE, 2), (SeamStat.LINK_STATE 1, 3), (SeamCfg.SEAM_ENABLE 1, 1)] fun m => { m with now := { m.now with stitch := 64 } }, by decide +kernel⟩
  · exact ⟨1, on [(Seam.SEAM_MODE, 2), (SeamStat.LINK_STATE 1, 3), (SeamCfg.SEAM_ENABLE 1, 1), (SeamStat.NEXT_SEQ 1, 0), (SeamStat.OLDEST 1, 4095), (SeamCfg.REPLAY_NS 1, 4000)] fun m => late 500 (m.updSeam 1 fun x => { x with replay := [⟨4095, 0, 0, [], 0⟩], replays := 3 }), by decide +kernel⟩
  · exact ⟨1, on [(Seam.SEAM_MODE, 2), (SeamStat.LINK_STATE 1, 3), (SeamCfg.SEAM_ENABLE 1, 1), (SeamStat.NEXT_SEQ 1, 0), (SeamStat.OLDEST 1, 4095)] fun m => m.updSeam 1 fun x => { x with replay := [⟨4095, 0, 0, [], 0⟩], replays := 3 }, by decide +kernel⟩

/-- The hypotheses of each clause of lane_and_link_commands can be met. -/
theorem test_lane_and_link_commands_met :
    (∃ (n mask : Nat) (s : State), s.live ∧ n < 2 ∧ mask < 16 ∧ linkOf s.m n = 3 ∧ (s.m.seam n).switching = none ∧ (s.m.seam
      n).cmd = none) ∧
    (∃ (n mask tag : Nat) (s : State), s.live ∧ n < 2 ∧ mask < 16 ∧ linkOf s.m n = 3 ∧ (s.m.seam n).cmd = some ⟨1, mask, tag⟩ ∧
      s.m.waited (waitLcmd n) 256 = true) ∧
    (∃ (n mask left : Nat) (s : State), s.live ∧ n < 2 ∧ mask < 16 ∧ linkOf s.m n = 3 ∧ (s.m.seam n).switching = none ∧ left ≠
      0) ∧
    (∃ (n mask k : Nat) (s : State), s.live ∧ n < 2 ∧ mask < 16 ∧ linkOf s.m n = 3 ∧ k = Nat.land (mask - Nat.land mask (s.m.rd
      (SeamStat.MASK_NOW n))) (2 ^ seamBlocks s.m n - 1)) ∧
    (∃ (n : Nat) (s : State), s.managed ∧ n < 2 ∧ s.m.domOn 63 = true ∧ linkOf s.m n = 3) ∧
    (∃ (n : Nat) (s : State), s.managed ∧ n < 2 ∧ s.m.domOn 63 = true ∧ linkOf s.m n = 3 ∧ commandPending s.m n = false ∧
      mayPropose s.m n (s.m.rd (SeamCfg.LANE_SET n)) = true) ∧
    (∃ (n : Nat) (s : State), s.managed ∧ n < 2 ∧ s.m.domOn 63 = true ∧ linkOf s.m n = 3 ∧ commandPending s.m n = false) ∧
    (∃ (n : Nat) (c : Instr) (s : State), s.managed ∧ n < 2 ∧ s.m.domOn 63 = true ∧ linkOf s.m n ≠ 3 ∧ (c = .linkCmdPropose n ∨
      c = .linkCmdWake n ∨ c = .linkCmdDoze n)) := by
  refine ⟨?_, ?_, ?_, ?_, ?_, ?_, ?_, ?_⟩
  · exact ⟨1, 1, up [(Seam.SEAM_MODE, 2), (SeamStat.LINK_STATE 1, 3), (SeamCfg.SEAM_ENABLE 1, 1), (SeamStat.MASK_NOW 1, 3)], by decide +kernel⟩
  · exact ⟨1, 1, 15, on [(Seam.SEAM_MODE, 2), (SeamStat.LINK_STATE 1, 3), (SeamCfg.SEAM_ENABLE 1, 1), (SeamStat.MASK_NOW 1, 3), (SeamStat.LCMD_STATE 1, 1)] fun m => waiting (waitLcmd 1) 257 (m.updSeam 1 fun x => { x with cmd := some ⟨1, 1, 15⟩ }), by decide +kernel⟩
  · exact ⟨1, 15, 7, seamed [] id, by decide +kernel⟩
  · exact ⟨1, 3, 2, up [(Seam.SEAM_MODE, 2), (SeamStat.LINK_STATE 1, 3), (SeamCfg.SEAM_ENABLE 1, 1), (SeamStat.MASK_NOW 1, 1)], by decide +kernel⟩
  · exact ⟨1, up [(Seam.SEAM_MODE, 2), (SeamStat.LINK_STATE 1, 3), (SeamCfg.SEAM_ENABLE 1, 1)], by decide +kernel⟩
  · exact ⟨1, up ([(Seam.SEAM_MODE, 2), (SeamStat.LINK_STATE 1, 3), (SeamCfg.SEAM_ENABLE 1, 1), (SeamStat.MASK_NOW 1, 3), (SeamCfg.LANE_SET 1, 1)] ++ blocksUp), by decide +kernel⟩
  · exact ⟨1, up [(Seam.SEAM_MODE, 2), (SeamStat.LINK_STATE 1, 3), (SeamCfg.SEAM_ENABLE 1, 1), (SeamStat.MASK_NOW 1, 3), (SeamCfg.LANE_SET 1, 1)], by decide +kernel⟩
  · exact ⟨1, .linkCmdDoze 1, up [], by decide +kernel⟩

/-- The hypotheses of each clause of seam_training can be met. -/
theorem test_seam_training_met :
    (∃ (n : Nat) (s : State), s.live ∧ n < 2 ∧ seamsOn s.m = true ∧ s.m.on (SeamCfg.AUTO_DEGRADE n) = false ∧ s.m.waited
      (waitLaneErr n) (msStitches 1) = true) ∧
    (∃ (n lane : Nat) (s : State), s.live ∧ n < 2 ∧ lane < 32 ∧ linkOf s.m n ≠ 3 ∧ linkOf s.m n ≠ 4 ∧ s.m.domOn (blockDomain
      (seamBlock n (lane / 8))) = true) ∧
    (∃ (n lane : Nat) (s : State), s.live ∧ n < 2 ∧ lane < 32 ∧ linkOf s.m n = 3 ∧ s.m.bit (SeamStat.MASK_NOW n) (lane / 8) =
      true) ∧
    (∃ (n : Nat) (s : State), s.managed ∧ n < 2 ∧ s.m.domOn 63 = true ∧ s.m.on (SeamCfg.SEAM_ENABLE n) = false ∧
      seamEnableCheck n s.m = none ∧ s.m.rd Col.FATAL_STATE = 0) ∧
    (∃ (n : Nat) (s : State), s.managed ∧ n < 2 ∧ s.m.domOn 63 = true ∧ s.m.on (SeamCfg.SEAM_ENABLE n) = true) ∧
    (∃ (n : Nat) (s : State), s.managed ∧ n < 2 ∧ s.m.domOn 63 = true ∧ linkOf s.m n = 2) ∧
    (∃ (n mask : Nat) (f : InitRecord) (s : State), s.live ∧ n < 2 ∧ seamsOn s.m = true ∧ (linkOf s.m n = 1 ∨ linkOf s.m n = 4)
      ∧ s.m.rd Col.FATAL_STATE = 0 ∧ (s.m.seam n).peer = some f ∧ 64 ≤ (s.m.seam n).inits ∧ mask = widestMask s.m n (Nat.land
      (Nat.land (usableMask s.m n) (trainMask s.m n)) f.mask) ∧ mask ≠ 0 ∧ (∀ b ∈ bitsSet 4 mask, blockReady s.m n b = true)) ∧
    (∃ (n : Nat) (s : State), s.live ∧ n < 2 ∧ (linkOf s.m n = 1 ∨ linkOf s.m n = 2) ∧ (s.m.seam n).fails < 2 ∧ s.m.waited
      (waitTraining n) (msStitches 10) = true) ∧
    (∃ (n : Nat) (s : State), s.live ∧ n < 2 ∧ (linkOf s.m n = 1 ∨ linkOf s.m n = 2) ∧ 2 ≤ (s.m.seam n).fails ∧ s.m.waited
      (waitTraining n) (msStitches 10) = true) ∧
    (∃ (n : Nat) (s : State), s.live ∧ n < 2 ∧ linkOf s.m n = 5 ∧ s.m.on (SeamCfg.SEAM_ENABLE n) = true ∧ seamsOn s.m = true ∧
      s.m.rd Col.FATAL_STATE = 0 ∧ s.m.waited (waitDown n) (msStitches 100) = true) ∧
    (∃ (n : Nat) (s : State), s.live ∧ n < 2 ∧ linkOf s.m n = 3 ∧ s.m.rd (SeamCnt.RETRAINS n) + 1 < 2 ^ widthOf
      (SeamCnt.RETRAINS n)) ∧
    (∃ (n : Nat) (s : State), s.live ∧ n < 2 ∧ linkOf s.m n = 4 ∧ s.m.waited (waitRetrain n) (usStitches 50) = true) := by
  refine ⟨?_, ?_, ?_, ?_, ?_, ?_, ?_, ?_, ?_, ?_, ?_, ?_⟩
  · exact ⟨1, on [(Seam.SEAM_MODE, 2), (SeamStat.LINK_STATE 1, 3), (SeamCfg.SEAM_ENABLE 1, 1), (SeamStat.MASK_NOW 1, 3), (SeamCfg.AUTO_DEGRADE 1, 0)] fun m => waiting (waitLaneErr 1) (1 + msStitches 1) (m.updSeam 1 fun x => { x with corr := (List.range 32) }), by decide +kernel⟩
  · exact ⟨1, 31, up [(Seam.SEAM_MODE, 2), (SeamStat.LINK_STATE 1, 1), (SeamCfg.SEAM_ENABLE 1, 1), (SeamStat.MASK_NOW 1, 3)], by decide +kernel⟩
  · exact ⟨1, 15, up [(Seam.SEAM_MODE, 2), (SeamStat.LINK_STATE 1, 3), (SeamCfg.SEAM_ENABLE 1, 1), (SeamStat.MASK_NOW 1, 3)], by decide +kernel⟩
  · exact ⟨0, up [(Seam.SEAM_MODE, 1)], by decide +kernel⟩
  · exact ⟨1, up [(Seam.SEAM_MODE, 2), (SeamStat.LINK_STATE 1, 5), (SeamCfg.SEAM_ENABLE 1, 1), (SeamStat.MASK_NOW 1, 3)], by decide +kernel⟩
  · exact ⟨1, up [(Seam.SEAM_MODE, 2), (SeamStat.LINK_STATE 1, 2), (SeamCfg.SEAM_ENABLE 1, 1), (SeamStat.MASK_NOW 1, 3)], by decide +kernel⟩
  · exact ⟨1, 3, ⟨1, 1, 0, 3, 8, true, 0, 0, 2 ^ 128 - 1⟩, on ([(Seam.SEAM_MODE, 2), (SeamStat.LINK_STATE 1, 1), (SeamCfg.SEAM_ENABLE 1, 1), (SeamStat.MASK_NOW 1, 3)] ++ blocksUp) fun m => m.updSeam 1 fun x => { x with inits := 64, peer := some ⟨1, 1, 0, 3, 8, true, 0, 0, 2 ^ 128 - 1⟩ }, by decide +kernel, by decide +kernel, by decide +kernel, by decide +kernel, by decide +kernel, by decide +kernel, by decide +kernel, by decide +kernel, by decide +kernel, by decide +kernel⟩
  · exact ⟨1, seamedW 1 (waitTraining 1) (msStitches 10) fun x => { x with fails := 1 }, by decide +kernel⟩
  · exact ⟨1, seamedW 1 (waitTraining 1) (msStitches 10) fun x => { x with fails := 3 }, by decide +kernel⟩
  · exact ⟨1, seamedW 5 (waitDown 1) (msStitches 100) id, by decide +kernel⟩
  · exact ⟨1, up [(Seam.SEAM_MODE, 2), (SeamStat.LINK_STATE 1, 3), (SeamCfg.SEAM_ENABLE 1, 1), (SeamStat.MASK_NOW 1, 3)], by decide +kernel⟩
  · exact ⟨1, seamedW 4 (waitRetrain 1) (usStitches 50) id, by decide +kernel⟩

/-- The hypotheses of each clause of packets can be met. -/
theorem test_packets_met :
    (∃ (k : Present) (s : State), s.live ∧ wfPresent k = true ∧ Tab.get none s.m.core.discard k.input ≠ some k.id ∧ s.m.pkt
      k.id = none ∧ outputOff s.m k.output = false ∧ k.input < 64 ∧ s.m.domOn (portDomain k.input) = true ∧ (∀ i, i < 8 →
      s.m.on (Mir.MIR_ENABLE i) = false)) ∧
    (∃ (k : Present) (x : Pkt) (s : State), s.live ∧ wfPresent k = true ∧ Tab.get none s.m.core.discard k.input ≠ some k.id ∧
      s.m.pkt k.id = some x ∧ k.input ≠ 65 ∧ k.input ≠ 66) ∧
    (∃ (k : Present) (s : State), s.live ∧ wfPresent k = true ∧ (k.input = 65 ∨ k.input = 66) ∧ (s.m.seam (k.input -
      65)).arrived = []) ∧
    (∃ (id : Nat) (x : Pkt) (s : State), s.live ∧ s.m.pkt id = some x ∧ x.held < x.len ∧ x.ending = none ∧ x.input < 64 ∧
      s.m.rd Fab.STALL_LIMIT ≤ x.stall ∧ x.path = 1) ∧
    (∃ (id : Nat) (x : Pkt) (s : State), s.live ∧ s.m.pkt id = some x ∧ x.held < x.len ∧ x.ending = none ∧ x.input < 64 ∧
      s.m.rd Fab.STALL_LIMIT ≤ x.stall ∧ x.path = 2) := by
  refine ⟨?_, ?_, ?_, ?_, ?_⟩
  · exact ⟨⟨9, 63, 66, 63, 4095, 8, 3, true, 4, 7, 7, 0⟩, up [], by decide +kernel⟩
  · exact ⟨⟨9, 63, 66, 63, 4095, 8, 3, true, 4, 7, 7, 0⟩, (⟨9, 63, 66, 5, 4095, 8, true, 1, 0, 7, 3, 2, 100, 0, 0, [], [], none, 0, 0, 0, 0, 0, false, none⟩ : Pkt), on [] fun m => { m with core := { m.core with pkts := [(⟨9, 63, 66, 5, 4095, 8, true, 1, 0, 7, 3, 2, 100, 0, 0, [], [], none, 0, 0, 0, 0, 0, false, none⟩ : Pkt)] } }, by decide +kernel⟩
  · exact ⟨⟨9, 66, 66, 63, 4095, 8, 3, true, 4, 7, 7, 0⟩, up [], by decide +kernel⟩
  · exact ⟨9, (⟨9, 63, 66, 5, 4095, 8, true, 1, 0, 7, 3, 1, 100, 0, 0, [], [], none, 0, 0, 4096, 0, 0, false, none⟩ : Pkt), on [] fun m => { m with core := { m.core with pkts := [(⟨9, 63, 66, 5, 4095, 8, true, 1, 0, 7, 3, 1, 100, 0, 0, [], [], none, 0, 0, 4096, 0, 0, false, none⟩ : Pkt)] } }, by decide +kernel⟩
  · exact ⟨9, (⟨9, 63, 66, 5, 4095, 8, true, 1, 0, 7, 3, 2, 100, 0, 0, [], [], none, 0, 0, 4096, 0, 0, false, none⟩ : Pkt), on [] fun m => { m with core := { m.core with pkts := [(⟨9, 63, 66, 5, 4095, 8, true, 1, 0, 7, 3, 2, 100, 0, 0, [], [], none, 0, 0, 4096, 0, 0, false, none⟩ : Pkt)] } }, by decide +kernel⟩

/-- The hypotheses of each clause of shares_and_figures can be met. -/
theorem test_shares_and_figures_met :
    (∃ (steps : Nat) (s : State), s.managed ∧ steps < 2 ^ 64 ∧ s.m.domOn 54 = true ∧ hlcStepsCheck steps s.m = none ∧
      (List.range 8).any (fun d => byteAt steps d > byteAt (s.m.rd Fab.HLC_STEPS) d) = true) ∧
    (∃ (steps : Nat) (s : State), s.managed ∧ steps < 2 ^ 64 ∧ s.m.domOn 54 = true ∧ hlcStepsCheck steps s.m = none ∧ steps ≠
      s.m.rd Fab.HLC_STEPS ∧ s.m.coh.hlcTag = [] ∧ (List.range 8).any (fun d => byteAt steps d > byteAt (s.m.rd Fab.HLC_STEPS)
      d) = false) ∧
    (∃ (s : State), s.live ∧ s.m.now.stitch ≠ s.m.core.carveAt ∧ s.m.rd Fab.CARVE_STATUS = 2 ∧ releasedWays s.m = []) ∧
    (∃ (d : Nat) (s : State), s.live ∧ d < 8 ∧ s.m.domOn (64 + d) = true ∧ s.m.rd (Die.DIE_STATE d) ≠ 2 ∧ s.m.coh.hlcTag = []) ∧
    (∃ (s : State), s.managed ∧ s.m.domOn 54 = true) ∧
    (∃ (id : Nat) (x : NocMsg) (s : State), s.live ∧ (s.m.noc.msgs.find? (fun y => (y.id == id && alarmDue s.m y) && y.place !=
      .source) = some x) ∧ s.m.rd Noc.STUCK + 1 < 2 ^ widthOf Noc.STUCK) ∧
    (∃ (id : Nat) (s : State), s.live ∧ (∀ y ∈ s.m.noc.msgs, y.id = id → alarmDue s.m y = false) ∧ (∀ y ∈ s.m.noc.arrived,
      y.msg.id = id → alarmDue s.m y.msg = false)) ∧
    (∃ (s : State), s.managed) ∧
    (∃ (e : Nat) (s : State), s.managed ∧ e < 32) ∧
    (∃ (s : State), s.live ∧ sampleDue s.m (s.m.now.stitch - 1) = true) ∧
    (∃ (s : State), s.live ∧ sampleDue s.m (s.m.now.stitch - 1) = false) := by
  refine ⟨?_, ?_, ?_, ?_, ?_, ?_, ?_, ?_, ?_, ?_, ?_⟩
  · exact ⟨4 * 2 ^ 56, on [] fun m => { m with now := { m.now with stitch := 7 } }, by decide +kernel⟩
  · exact ⟨0, up [(Fab.HLC_STEPS, 4 * 2 ^ 56)], by decide +kernel⟩
  · exact ⟨on [(Fab.CARVE_STATUS, 2)] fun m => { m with now := { m.now with stitch := 7 } }, by decide +kernel⟩
  · exact ⟨7, on [] fun m => { m with core := { m.core with pkts := [⟨9, 63, 66, 5, 4095, 8, true, 1, 0, 7, 3, 2, 100, 0, 0, [], [15], none, 0, 0, 0, 0, 0, false, none⟩] } }, by decide +kernel⟩
  · exact ⟨up [(Fab.FREE_SLOTS, 9)], by decide +kernel⟩
  · exact ⟨7, stuck7, on [(Noc.AGE_ALARM, 4095)] fun m => late 4095 { m with noc := { m.noc with msgs := [stuck7] } }, by decide +kernel⟩
  · exact ⟨9, up [], by decide +kernel⟩
  · exact ⟨on [(NocStat.MSGS 31, 5), (NocStat.LAT_SUM 0, 7)] fun m => { m with now := { m.now with stitch := 7 } }, by decide +kernel⟩
  · exact ⟨31, up [(NocStat.LAT_MAX 31, 5)], by decide +kernel⟩
  · exact ⟨on [(Sched.SAMPLE_STITCHES, 3)] fun m => { m with now := { m.now with stitch := 7 }, core := { m.core with figures := [(63, ⟨1, 2, 3, 4⟩)] } }, by decide +kernel⟩
  · exact ⟨on [] fun m => { m with now := { m.now with stitch := 7 }, core := { m.core with figures := [(63, ⟨1, 2, 3, 4⟩)] } }, by decide +kernel⟩

/-- The hypotheses of each clause of twin_pairing_and_mirror can be met. -/
theorem test_twin_pairing_and_mirror_met :
    (∃ (s : State), s.managed ∧ twinEnableCheck s.m = none) ∧
    (∃ (s : State), s.managed ∧ twinDisableCheck s.m = none ∧ s.m.rd Coh.DIR_MODE ≠ 1) ∧
    (∃ (h : PairMsg) (s : State), s.live ∧ s.m.on Twin.TWIN_ENABLE = true ∧ pairLinked s.m = true ∧ twinState s.m = 1 ∧
      helloRefused s.m h = true) ∧
    (∃ (h : PairMsg) (s : State), s.live ∧ s.m.on Twin.TWIN_ENABLE = true ∧ pairLinked s.m = true ∧ twinState s.m = 1 ∧
      helloRefused s.m h = false ∧ s.m.coh.hlcTag = []) ∧
    (∃ (h : PairMsg) (s : State), s.live ∧ s.m.twin.hello = some h ∧ twinState s.m = 1 ∧ s.m.twin.flushed = false ∧ s.m.rd
      Hlc.HLC_DIRTY = 0) ∧
    (∃ (h : PairMsg) (s : State), s.live ∧ s.m.twin.hello = some h ∧ twinState s.m = 1 ∧ h.state = 5 ∧ s.m.twin.flushed = true
      ∧ s.m.twin.timed = true) ∧
    (∃ (r : MirrorRec) (s : State), s.live ∧ wfMirrors [r] = true ∧ s.m.rd Coh.DIR_MODE = 1 ∧ r.ty = 6 ∧ r.entry ≠ 0 ∧ (∀ n,
      (s.m.seam n).rx = [])) ∧
    (∃ (c : Nat) (s : State), s.live ∧ c < 4 ∧ s.m.twin.peerAll = true) ∧
    (∃ (s : State), s.managed ∧ handbackCheck s.m = none ∧ s.m.twin.handing = false) ∧
    (∃ (s : State), s.live ∧ s.m.twin.handing = true ∧ s.m.twin.handed = 16 ∧ s.m.coh.mq = []) := by
  refine ⟨?_, ?_, ?_, ?_, ?_, ?_, ?_, ?_, ?_, ?_⟩
  · exact ⟨up [], by decide +kernel⟩
  · exact ⟨on [(Seam.SEAM_MODE, 1), (SeamCfg.SEAM_ENABLE 0, 1), (SeamStat.LINK_STATE 0, 3), (Twin.TWIN_ENABLE, 1), (Twin.TWIN_STATE, 1)] (id), by decide +kernel⟩
  · exact ⟨⟨1, 9, 0, 0, 0, 0, 0⟩, on [(Seam.SEAM_MODE, 1), (SeamCfg.SEAM_ENABLE 0, 1), (SeamStat.LINK_STATE 0, 3), (Twin.TWIN_ENABLE, 1), (Twin.TWIN_STATE, 1)] (id), by decide +kernel, by decide +kernel, by decide +kernel, by decide +kernel, by simp [helloRefused]⟩
  · exact ⟨⟨1, 5, 0, 0, 0, 2 ^ 63, pairDigest (on [(Seam.SEAM_MODE, 1), (SeamCfg.SEAM_ENABLE 0, 1), (SeamStat.LINK_STATE 0, 3), (Twin.TWIN_ENABLE, 1), (Twin.TWIN_STATE, 1)] (id)).m⟩, on [(Seam.SEAM_MODE, 1), (SeamCfg.SEAM_ENABLE 0, 1), (SeamStat.LINK_STATE 0, 3), (Twin.TWIN_ENABLE, 1), (Twin.TWIN_STATE, 1)] (id), by decide +kernel, by decide +kernel, by decide +kernel, by decide +kernel, by simp only [helloRefused, bne_self_eq_false, Bool.false_or]; decide +kernel, by decide +kernel⟩
  · exact ⟨⟨1, 1, 0, 0, 0, 0, 0⟩, on [(Seam.SEAM_MODE, 1), (SeamCfg.SEAM_ENABLE 0, 1), (SeamStat.LINK_STATE 0, 3), (Twin.TWIN_ENABLE, 1), (Twin.TWIN_STATE, 1)] (fun m => { m with twin := { m.twin with hello := some ⟨1, 1, 0, 0, 0, 0, 0⟩ } }), by decide +kernel⟩
  · exact ⟨⟨1, 5, 0, 0, 0, 0, 0⟩, on [(Seam.SEAM_MODE, 1), (SeamCfg.SEAM_ENABLE 0, 1), (SeamStat.LINK_STATE 0, 3), (Twin.TWIN_ENABLE, 1), (Twin.TWIN_STATE, 1)] (fun m => { m with twin := { m.twin with hello := some ⟨1, 5, 0, 0, 0, 0, 0⟩, flushed := true, timed := true } }), by decide +kernel⟩
  · exact ⟨⟨6, 0, 0, 1, 0, 2 ^ 23 - 1, 5, 0, 3, 2 ^ 127⟩, on [(Seam.SEAM_MODE, 1), (SeamCfg.SEAM_ENABLE 0, 1), (SeamStat.LINK_STATE 0, 3), (Twin.TWIN_ENABLE, 1), (Twin.TWIN_STATE, 2), (Coh.DIR_MODE, 1)] (id), by decide +kernel, by decide +kernel, by decide +kernel, by decide +kernel, by decide +kernel, fun _ => rfl⟩
  · exact ⟨3, on [(Seam.SEAM_MODE, 1), (SeamCfg.SEAM_ENABLE 0, 1), (SeamStat.LINK_STATE 0, 3), (Twin.TWIN_ENABLE, 1), (Twin.TWIN_STATE, 2)] (fun m => { m with twin := { m.twin with peerAll := true, handed := 7 } }), by decide +kernel⟩
  · exact ⟨on [(Seam.SEAM_MODE, 1), (SeamCfg.SEAM_ENABLE 0, 1), (SeamStat.LINK_STATE 0, 3), (Twin.TWIN_ENABLE, 1), (Twin.TWIN_STATE, 2), (Twin.HOME_ALL, 1)] (id), by decide +kernel⟩
  · exact ⟨on [(Seam.SEAM_MODE, 1), (SeamCfg.SEAM_ENABLE 0, 1), (SeamStat.LINK_STATE 0, 3), (Twin.TWIN_ENABLE, 1), (Twin.TWIN_STATE, 2), (Twin.HOME_ALL, 1)] (fun m => { m with twin := { m.twin with handing := true, handed := 16 } }), by decide +kernel⟩

/-- The hypotheses of each clause of twin_heartbeat_and_time can be met. -/
theorem test_twin_heartbeat_and_time_met :
    (∃ (s : State), s.live ∧ pairLinked s.m = true ∧ s.m.on Twin.TWIN_ENABLE = true ∧ twinState s.m = 7) ∧
    (∃ (s : State), s.live ∧ pairLinked s.m = true ∧ (twinState s.m = 1 ∨ twinState s.m = 2 ∨ twinState s.m = 7)) ∧
    (∃ (s : State), s.live ∧ s.m.now.stitch < s.m.twin.hbSent + 125 * s.m.rd Hb.HB_PERIOD_US) ∧
    (∃ (t1 t2 t3 : Nat) (off : Int) (s : State), s.live ∧ pairLinked s.m = true ∧ s.m.role = 1 ∧ (twinState s.m = 2 ∨ twinState
      s.m = 7) ∧ off = (((t2 : Int) - t1) + ((t3 : Int) - s.m.now.ftime)) / 2) ∧
    (∃ (ns r : Nat) (off : Int) (s : State), s.live ∧ ns < 8 ∧ ppsAccepted s.m = true ∧ twinState s.m = 2 ∧ r = (s.m.now.ftime
      + ns) % secondNs ∧ off = (if 2 * r < secondNs then (r : Int) else (r : Int) - secondNs)) ∧
    (∃ (ns : Nat) (s : State), s.live ∧ ns < 8 ∧ ppsAccepted s.m = false) ∧
    (∃ (s : State), s.live ∧ s.m.now.ftime % secondNs < 1000000) := by
  refine ⟨?_, ?_, ?_, ?_, ?_, ?_, ?_⟩
  · exact ⟨on [(Seam.SEAM_MODE, 1), (SeamCfg.SEAM_ENABLE 0, 1), (SeamStat.LINK_STATE 0, 3), (Twin.TWIN_ENABLE, 1), (Twin.TWIN_STATE, 7)] (id), by decide +kernel⟩
  · exact ⟨on [(Seam.SEAM_MODE, 1), (SeamCfg.SEAM_ENABLE 0, 1), (SeamStat.LINK_STATE 0, 3), (Twin.TWIN_ENABLE, 1), (Twin.TWIN_STATE, 7), (Hb.HB_PERIOD_US, 8), (Time.TIME_PERIOD_MS, 1)] fun m => late 130000 { m with twin := { m.twin with hello := none } }, by decide +kernel⟩
  · exact ⟨on [(Seam.SEAM_MODE, 1), (SeamCfg.SEAM_ENABLE 0, 1), (SeamStat.LINK_STATE 0, 3), (Twin.TWIN_ENABLE, 1), (Twin.TWIN_STATE, 7), (Hb.HB_PERIOD_US, 8)] fun m => late 999 { m with twin := { m.twin with hello := none } }, by decide +kernel⟩
  · exact ⟨0, 30, 30, 20, on [(Seam.SEAM_MODE, 1), (SeamCfg.SEAM_ENABLE 0, 1), (SeamStat.LINK_STATE 0, 3), (Twin.TWIN_ENABLE, 1), (Twin.TWIN_STATE, 7), (Ident.ROLE, 1)] (fun m => { m with now := { m.now with ftime := 20 } }), by decide +kernel⟩
  · exact ⟨7, 8007, 8007, on [(Seam.SEAM_MODE, 1), (SeamCfg.SEAM_ENABLE 0, 1), (SeamStat.LINK_STATE 0, 3), (Twin.TWIN_ENABLE, 1), (Twin.TWIN_STATE, 2)] fun m => late 1000 { m with twin := { m.twin with hello := none } }, by decide +kernel⟩
  · exact ⟨7, on [(Seam.SEAM_MODE, 1), (SeamCfg.SEAM_ENABLE 0, 1), (SeamStat.LINK_STATE 0, 3), (Twin.TWIN_ENABLE, 1), (Twin.TWIN_STATE, 2)] fun m => late 62500001 { m with twin := { m.twin with ppsAt := some 1 } }, by decide +kernel⟩
  · exact ⟨up [], by decide +kernel⟩

/-- The hypotheses of each clause of twin_loss_and_decision can be met. -/
theorem test_twin_loss_and_decision_met :
    (∃ (s : State), s.live ∧ s.m.on Hb.SEAM_HB_OK = true ∧ twinState s.m = 2 ∧ s.m.twin.hbHeard + 125 * s.m.rd
      Hb.SEAM_HB_MISS_US ≤ s.m.now.stitch ∧ s.m.rd Twin.INCIDENT + 1 < 2 ^ widthOf Twin.INCIDENT ∧ s.m.rd Hb.HB_LOST + 1 < 2 ^
      widthOf Hb.HB_LOST) ∧
    (∃ (s : State), s.live ∧ s.m.rd Hb.SENSE_STATE = 0 ∧ s.m.on Hb.SEAM_HB_OK = true ∧ s.m.rd Hb.SENSE_MISS ≤ s.m.twin.quiet ∧
      s.m.twin.equal < 2 ∧ s.m.twin.masked = false ∧ s.m.rd Hb.HB_LOST + 1 < 2 ^ widthOf Hb.HB_LOST) ∧
    (∃ (s : State), s.managed ∧ s.m.twin.masked = true) ∧
    (∃ (i : Nat) (s : State), s.managed ∧ witnessOk s.m i = true) ∧
    (∃ (i : Nat) (s : State), s.managed ∧ witnessOk s.m i = false) ∧
    (∃ (s : State), s.live ∧ twinState s.m = 3 ∧ s.m.on Twin.AUTO_SURVIVE = true ∧ s.m.role = 0 ∧ s.m.twin.suspectAt + 125000 *
      s.m.rd Twin.WITNESS_WAIT_MS ≤ s.m.now.stitch) := by
  refine ⟨?_, ?_, ?_, ?_, ?_, ?_⟩
  · exact ⟨on [(Seam.SEAM_MODE, 1), (SeamCfg.SEAM_ENABLE 0, 1), (SeamStat.LINK_STATE 0, 3), (Twin.TWIN_ENABLE, 1), (Twin.TWIN_STATE, 2), (Hb.SEAM_HB_OK, 1), (Hb.SENSE_STATE, 1), (Hb.SEAM_HB_MISS_US, 32)] fun m => late 4001 { m with twin := { m.twin with hbHeard := 1 } }, by decide +kernel⟩
  · exact ⟨on [(Seam.SEAM_MODE, 1), (SeamCfg.SEAM_ENABLE 0, 1), (SeamStat.LINK_STATE 0, 3), (Twin.TWIN_ENABLE, 1), (Twin.TWIN_STATE, 2), (Hb.SEAM_HB_OK, 1), (Hb.SENSE_STATE, 0), (Hb.SENSE_MISS, 5)] fun m => late 9 { m with twin := { m.twin with quiet := 5, equal := 1 } }, by decide +kernel⟩
  · exact ⟨on [(Seam.SEAM_MODE, 1), (SeamCfg.SEAM_ENABLE 0, 1), (SeamStat.LINK_STATE 0, 3), (Twin.TWIN_ENABLE, 1), (Twin.TWIN_STATE, 0), (Hb.SEAM_HB_OK, 0), (Hb.SENSE_STATE, 3)] fun m => late 9 { m with twin := { m.twin with masked := true, fast := [5, 4] } }, by decide +kernel⟩
  · exact ⟨5, on [(Seam.SEAM_MODE, 1), (SeamCfg.SEAM_ENABLE 0, 1), (SeamStat.LINK_STATE 0, 3), (Twin.TWIN_ENABLE, 1), (Twin.TWIN_STATE, 3), (Twin.INCIDENT, 5)] (id), by decide +kernel⟩
  · exact ⟨4, on [(Seam.SEAM_MODE, 1), (SeamCfg.SEAM_ENABLE 0, 1), (SeamStat.LINK_STATE 0, 3), (Twin.TWIN_ENABLE, 1), (Twin.TWIN_STATE, 3), (Twin.INCIDENT, 5)] (id), by decide +kernel⟩
  · exact ⟨on [(Seam.SEAM_MODE, 1), (SeamCfg.SEAM_ENABLE 0, 1), (SeamStat.LINK_STATE 0, 3), (Twin.TWIN_ENABLE, 1), (Twin.TWIN_STATE, 3), (Twin.INCIDENT, 5), (Twin.AUTO_SURVIVE, 1), (Twin.WITNESS_WAIT_MS, 2)] fun m => late 250001 { m with twin := { m.twin with suspectAt := 1 } }, by decide +kernel⟩

/-- The hypotheses of each clause of slot_writes_and_inputs can be met. -/
theorem test_slot_writes_and_inputs_met :
    (∃ (n : Nat) (s : State), s.managed ∧ n < 32 ∧ s.m.domOn 76 = true) ∧
    (∃ (n : Nat) (s : State), s.live ∧ n < 32 ∧ slotsOn s.m = true ∧ slotIn s.m n 1 = false ∧ slotIn s.m n 9 = false ∧
      filterDue n 1 s.m = true) ∧
    (∃ (n : Nat) (s : State), s.live ∧ n < 32 ∧ slotsOn s.m = true ∧ slotIn s.m n 2 = false ∧ slotIn s.m n 10 = false ∧
      filterDue n 2 s.m = true) ∧
    (∃ (n i : Nat) (s : State), s.live ∧ n < 32 ∧ slotsOn s.m = true ∧ 1 ≤ i ∧ i ≤ 2 ∧ slotIn s.m n (8 + i) = false) ∧
    (∃ (s : State), s.live ∧ slotsOn s.m = true ∧ s.m.slots.blinkAt + 250000 ≤ s.m.now.tick) := by
  refine ⟨?_, ?_, ?_, ?_, ?_⟩
  · exact ⟨31, up [], by decide +kernel⟩
  · exact ⟨31, slot31 [(Slot.DEB_TICKS 31, 4)] fun x => { x with inputs := [SlotInput.reset, { SlotInput.reset with run := 3 }, SlotInput.reset] }, by decide +kernel⟩
  · exact ⟨31, slot31 [(Slot.DEB_TICKS 31, 4)] fun x => { x with inputs := [SlotInput.reset, SlotInput.reset, { SlotInput.reset with run := 3 }] }, by decide +kernel⟩
  · exact ⟨31, 2, on [(Slot.INPUTS 31, 4), (Slot.STUCK_MS 31, 3), (Slot.CHATTER_N 31, 2), (Slot.CHATTER_MS 31, 3)] fun m => { m.updSlot 31 fun x => { x with inputs := [SlotInput.reset, SlotInput.reset, { SlotInput.reset with level := true, active := 2999, changes := [7, 6, 5] }] } with now := { m.now with tick := 9 } }, by decide +kernel⟩
  · exact ⟨on [] fun m => { m with now := { m.now with tick := 250000 } }, by decide +kernel⟩

/-- The hypotheses of each clause of slot_presence_and_ramp can be met. -/
theorem test_slot_presence_and_ramp_met :
    (∃ (n : Nat) (s : State), s.live ∧ n < 32 ∧ slotsOn s.m = true ∧ slotIn s.m n 0 = false ∧ slotIn s.m n 8 = false ∧
      slotState s.m n = 0 ∧ (s.m.slot n).inserted = false ∧ filterDue n 0 s.m = true) ∧
    (∃ (n : Nat) (s : State), s.live ∧ n < 32 ∧ slotsOn s.m = true ∧ slotIn s.m n 0 = true ∧ slotIn s.m n 8 = false ∧ filterDue
      n 0 s.m = true) ∧
    (∃ (n : Nat) (s : State), s.live ∧ n < 32 ∧ slotsOn s.m = true ∧ debounceDue n s.m = true ∧ slotState s.m n = 1) ∧
    (∃ (n : Nat) (s : State), s.live ∧ n < 32 ∧ slotsOn s.m = true ∧ slotIn s.m n 0 = false ∧ (s.m.slot n).inserted = true ∧
      slotState s.m n ≠ 8 ∧ removalDue n s.m = true) ∧
    (∃ (n : Nat) (s : State), s.live ∧ n < 32 ∧ slotsOn s.m = true ∧ asksRamp s.m n = true ∧ s.m.rd SlotAll.RAMPING < s.m.rd
      SlotAll.RAMP_CONC) ∧
    (∃ (n : Nat) (s : State), s.live ∧ n < 32 ∧ slotsOn s.m = true ∧ slotState s.m n = 3 ∧ cleanTick s.m n = true ∧ goodDue n
      s.m = true) ∧
    (∃ (n : Nat) (s : State), s.live ∧ n < 32 ∧ slotsOn s.m = true ∧ retryDue n s.m = true ∧ slotState s.m n = 5) ∧
    (∃ (n : Nat) (s : State), s.live ∧ n < 32 ∧ slotsOn s.m = true ∧ slotIn s.m n 5 = true ∧ goodHeld n s.m = true) ∧
    (∃ (n : Nat) (s : State), s.live ∧ n < 32 ∧ slotsOn s.m = true ∧ slotState s.m n = 7 ∧ uvGone n s.m = true) := by
  refine ⟨?_, ?_, ?_, ?_, ?_, ?_, ?_, ?_, ?_⟩
  · exact ⟨31, slot31 [(Slot.DEB_TICKS 31, 4)] fun x => { x with inputs := [{ SlotInput.reset with run := 3 }, SlotInput.reset, SlotInput.reset] }, by decide +kernel⟩
  · exact ⟨31, slot31 [(Slot.INPUTS 31, 1), (Slot.SLOT_STATE 31, 1), (Slot.DEB_TICKS 31, 4)] fun x => { x with debounce := some 5, inputs := [{ SlotInput.reset with run := 3 }, SlotInput.reset, SlotInput.reset] }, by decide +kernel⟩
  · exact ⟨31, slot31 [(Slot.INPUTS 31, 1), (Slot.SLOT_STATE 31, 1)] fun x => { x with debounce := some 100000 }, by decide +kernel⟩
  · exact ⟨31, slot31 [(Slot.SLOT_STATE 31, 4)] fun x => { x with inserted := true, gate := true, absent := 4999 }, by decide +kernel⟩
  · exact ⟨31, on [(Slot.SLOT_STATE 31, 2), (Slot.PWR_EN 31, 1), (Slot.VIN_MV 31, 12500), (Slot.UV_MV 31, 10000), (Slot.INPUTS 31, 1), (SlotAll.RAMP_CONC, 1)] fun m => m.updSlot 31 fun x => { x with inserted := true }, by decide +kernel⟩
  · exact ⟨31, slot31 [(Slot.SLOT_STATE 31, 3), (Slot.VIN_MV 31, 12500), (Slot.VOUT_MV 31, 12500), (Slot.INPUTS 31, 9)] fun x => { x with inserted := true, clean := 1 }, by decide +kernel⟩
  · exact ⟨31, on [(Slot.SLOT_STATE 31, 5), (Slot.RETRY_LEFT_MS 31, 3)] fun m => m.updSlot 31 fun x => { x with inserted := true, running := true }, by decide +kernel⟩
  · exact ⟨31, slot31 [(Slot.INPUTS 31, 32), (Slot.RETRY_COUNT 31, 3)] fun x => { x with pgFor := 999999 }, by decide +kernel⟩
  · exact ⟨31, slot31 [(Slot.SLOT_STATE 31, 7), (Slot.UV_MV 31, 10000), (Slot.VIN_MV 31, 10500)] fun x => { x with inserted := true, up := 10000 }, by decide +kernel⟩

/-- The hypotheses of each clause of slot_trips_and_protection can be met. -/
theorem test_slot_trips_and_protection_met :
    (∃ (n : Nat) (s : State), s.live ∧ n < 32 ∧ slotsOn s.m = true ∧ rampDue n s.m = true ∧ slotState s.m n = 3 ∧ slotIn s.m n
      3 = false) ∧
    (∃ (n : Nat) (s : State), s.live ∧ n < 32 ∧ slotsOn s.m = true ∧ faultDue n s.m = true ∧ powered s.m n = true) ∧
    (∃ (n : Nat) (s : State), s.live ∧ n < 32 ∧ slotsOn s.m = true ∧ pgLostDue n s.m = true ∧ slotIn s.m n 5 = true) ∧
    (∃ (n : Nat) (s : State), s.live ∧ n < 32 ∧ faultDue n s.m = false) ∧
    (∃ (n uv : Nat) (s : State), s.live ∧ n < 32 ∧ slotsOn s.m = true ∧ s.m.rd (Slot.SC_UV n) < uv) ∧
    (∃ (n : Nat) (s : State), s.live ∧ n < 32 ∧ slotsOn s.m = true ∧ powered s.m n = true ∧ uvDue n s.m = true) ∧
    (∃ (n : Nat) (s : State), s.live ∧ n < 32 ∧ slotsOn s.m = true ∧ slotState s.m n ≠ 8 ∧ fetDue n s.m = true) ∧
    (∃ (n : Nat) (s : State), s.live ∧ n < 32 ∧ slotsOn s.m = true ∧ slotState s.m n = 8 ∧ recheckDue n s.m = true) ∧
    (∃ (n : Nat) (s : State), s.live ∧ n < 32 ∧ slotsOn s.m = true ∧ slotIn s.m n 6 = true ∧ auxDue n s.m = true) := by
  refine ⟨?_, ?_, ?_, ?_, ?_, ?_, ?_, ?_, ?_⟩
  · exact ⟨31, slot31 [(Slot.SLOT_STATE 31, 3), (Slot.RAMP_MS 31, 10)] fun x => { x with gate := true, ramp := 39999 }, by decide +kernel⟩
  · exact ⟨31, slot31 [(Slot.SLOT_STATE 31, 4), (Slot.FAULT_TICKS 31, 7)] fun x => { x with gate := true, fault := 7 }, by decide +kernel⟩
  · exact ⟨31, slot31 [(Slot.SLOT_STATE 31, 4), (Slot.INPUTS 31, 33), (Slot.VIN_MV 31, 12500), (Slot.VOUT_MV 31, 10000)] fun x => { x with gate := true, low := 1 }, by decide +kernel⟩
  · exact ⟨31, slot31 [(Slot.SLOT_STATE 31, 4), (Slot.FAULT_TICKS 31, 7)] fun x => { x with gate := true, fault := 6 }, by decide +kernel⟩
  · exact ⟨31, 70000, on [(Slot.SLOT_STATE 31, 4)] fun m => m.updSlot 31 fun x => { x with gate := true }, by decide +kernel⟩
  · exact ⟨31, slot31 [(Slot.SLOT_STATE 31, 4), (Slot.UV_MV 31, 10000), (Slot.VIN_MV 31, 9999)] fun x => { x with gate := true, up := 5, uv := 99 }, by decide +kernel⟩
  · exact ⟨31, slot31 [(Slot.SLOT_STATE 31, 6), (Slot.INPUTS 31, 1), (Slot.VIN_MV 31, 12500), (Slot.VOUT_MV 31, 12000)] fun x => { x with gate := false, short := 999, offFor := 100000 }, by decide +kernel⟩
  · exact ⟨31, slot31 [(Slot.SLOT_STATE 31, 8), (Slot.INPUTS 31, 1)] fun x => { x with recheck := some 999, rebad := true }, by decide +kernel⟩
  · exact ⟨31, slot31 [(Slot.INPUTS 31, 64)] fun x => { x with aux := 99 }, by decide +kernel⟩

/-- The hypotheses of each clause of requests_on_a_free_line can be met. -/
theorem test_requests_on_a_free_line_met :
    (∃ (q : CohReq) (s : State) (e : Nat) (ld : Option Nat) (d : Nat), s.CohReady q ∧ s.Plain q ∧ s.LineTarget q e ld d ∧
      stableOf s.m (s.placeOf q) (lineOf q) = 1 ∧ s.Comes (.rds q)) ∧
    (∃ (q : CohReq) (s : State) (e : Nat) (ld : Option Nat) (d : Nat), s.CohReady q ∧ s.Plain q ∧ s.LineTarget q e ld d ∧
      stableOf s.m (s.placeOf q) (lineOf q) = 1 ∧ anyOwned s.m (s.placeOf q) = false ∧ (∀ a ∈ sharersOf s.m (s.placeOf q),
      agentOf q.who = some a) ∧ s.Comes (.rda q)) ∧
    (∃ (q : CohReq) (s : State) (e : Nat) (ld : Option Nat) (d : Nat), s.CohReady q ∧ s.Plain q ∧ s.LineTarget q e ld d ∧
      stableOf s.m (s.placeOf q) (lineOf q) ≤ 1 ∧ s.Comes (.rdi q)) ∧
    (∃ (q : CohReq) (s : State) (a : Nat), s.CohReady q ∧ q.who = .agent a ∧ stableOf s.m (s.placeOf q) (lineOf q) = 1 ∧
      anyOwned s.m (s.placeOf q) = false ∧ (∀ b ∈ sharersOf s.m (s.placeOf q), b = a) ∧ s.Comes (.inva q)) ∧
    (∃ (q : CohReq) (s : State) (e : Nat) (ld : Option Nat) (d : Nat), s.CohReady q ∧ s.Plain q ∧ s.LineTarget q e ld d ∧
      stableOf s.m (s.placeOf q) (lineOf q) = 0 ∧ s.Comes (.write q)) ∧
    (∃ (q : CohReq) (s : State) (a e : Nat) (ld : Option Nat) (d : Nat), s.CohReady q ∧ s.Plain q ∧ s.LineTarget q e ld d ∧
      q.who = .agent a ∧ stableOf s.m (s.placeOf q) (lineOf q) = 2 ∧ ownerOf s.m (s.placeOf q) = some a ∧ s.Comes (.write q)) := by
  refine ⟨?_, ?_, ?_, ?_, ?_, ?_⟩
  · exact ⟨req3, cohere [] (entry3 1 0 0) id, 63, none, 960, by decide +kernel, by decide +kernel, by decide +kernel, by decide +kernel, ⟨fun _ h => (nomatch h), fun _ h => (nomatch h), by decide +kernel⟩⟩
  · exact ⟨req3, cohere [] (entry3 1 0 0) id, 63, none, 960, by decide +kernel, by decide +kernel, by decide +kernel, by decide +kernel, by decide +kernel, by decide +kernel, ⟨fun _ h => (nomatch h), fun _ h => (nomatch h), by decide +kernel⟩⟩
  · exact ⟨req3, cohere [] (entry3 1 0 0) id, 63, none, 960, by decide +kernel, by decide +kernel, by decide +kernel, by decide +kernel, ⟨fun _ h => (nomatch h), fun _ h => (nomatch h), by decide +kernel⟩⟩
  · exact ⟨req3, cohere [] (entry3 1 0 (2 ^ 5)) id, 5, by decide +kernel, by decide +kernel, by decide +kernel, by decide +kernel, by decide +kernel, ⟨fun _ h => (nomatch h), fun _ h => (nomatch h), by decide +kernel⟩⟩
  · exact ⟨req3, cohere [] 0 id, 63, none, 960, by decide +kernel, by decide +kernel, by decide +kernel, by decide +kernel, ⟨fun _ h => (nomatch h), fun _ h => (nomatch h), by decide +kernel⟩⟩
  · exact ⟨req3, cohere [] (entry3 2 5 0) id, 5, 63, none, 960, by decide +kernel, by decide +kernel, by decide +kernel, by decide +kernel, by decide +kernel, by decide +kernel, ⟨fun _ h => (nomatch h), fun _ h => (nomatch h), by decide +kernel⟩⟩

/-- The hypotheses of requests_on_an_owned_line can be met. -/
theorem test_requests_on_an_owned_line_met :
    ∃ (q : CohReq) (s : State) (y : Nat), s.CohReady q ∧ s.OwnedBy q y :=
  ⟨req3, cohere [] (entry3 2 63 0) id, 63, by decide +kernel⟩

/-- The hypotheses of each clause of atomics_and_lost_lines can be met. -/
theorem test_atomics_and_lost_lines_met :
    (∃ (q : CohReq) (s : State) (e : Nat) (ld : Option Nat) (d : Nat), s.CohReady q ∧ s.Plain q ∧ stableOf s.m (s.placeOf q)
      (lineOf q) = 0 ∧ eligible s.m (lineAddr s.m (s.placeOf q) (lineOf q)) = false ∧ s.LineTarget q e ld d ∧ s.Comes
      (.atomHome q)) ∧
    (∃ (q : CohReq) (s : State) (e : Nat) (ld : Option Nat) (d : Nat), s.CohReady q ∧ s.Plain q ∧ stableOf s.m (s.placeOf q)
      (lineOf q) = 0 ∧ targetOf s.m q.addr = (some e, ld, d) ∧ (e < 64 → ideBlocked s.m e 0 = false) ∧ s.Comes (.atomMem q)) ∧
    (∃ (q : CohReq) (s : State) (a : Nat), s.CohReady q ∧ q.who = .agent a ∧ stableOf s.m (s.placeOf q) (lineOf q) = 3) := by
  refine ⟨?_, ?_, ?_⟩
  · exact ⟨req3, cohere [] 0 id, 63, none, 960, by decide +kernel, by decide +kernel, by decide +kernel, by decide +kernel, by decide +kernel, ⟨fun _ h => (nomatch h), fun _ h => (nomatch h), by decide +kernel⟩⟩
  · exact ⟨req3, cohere [] 0 id, 63, none, 960, by decide +kernel, by decide +kernel, by decide +kernel, by decide +kernel, by decide +kernel, ⟨fun _ h => (nomatch h), fun _ h => (nomatch h), by decide +kernel⟩⟩
  · exact ⟨req3, cohere [] (entry3 3 0 0) id, 5, by decide +kernel⟩

/-- The hypotheses of each clause of coherent_completions can be met. -/
theorem test_coherent_completions_met :
    (∃ (q : CohReq) (s : State) (sector line tag a : Nat), s.Waits sector line .m q ∧ q.tag = tag ∧ q.who = .agent a ∧
      (s.m.tline (placeOfSector s.m sector) line).need ≤ 1 ∧ (s.m.tline (placeOfSector s.m sector) line).step ≠ 9 ∧ (s.m.tline
      (placeOfSector s.m sector) line).wbs = [] ∧ tag < 2 ^ 47 ∧ s.Comes (.cmpn (placeOfSector s.m sector).c sector line tag
      false 0)) ∧
    (∃ (q : CohReq) (s : State) (sector line a old : Nat) (h : HPend), s.Waits sector line .m q ∧ q.who = .agent a ∧ old < 2 ^
      512 ∧ (s.m.tline (placeOfSector s.m sector) line).need ≤ 1 ∧ (s.m.tline (placeOfSector s.m sector) line).step ≠ 9 ∧
      (s.m.tline (placeOfSector s.m sector) line).wbs = [] ∧ (findPend s.m sector line fun h => h.op = 1 || 3 ≤ h.op) = some h
      ∧ h.op = 1 ∧ h.req = some q ∧ (wayOf s.m (sector * 256 + 64 * line)).isSome = true ∧ s.Comes (.hcmp (placeOfSector s.m
      sector).c sector line old)) ∧
    (∃ (q : CohReq) (s : State) (sector line a data : Nat) (h : HPend), s.live ∧ sector < 2 ^ 46 ∧ line < 4 ∧ data < 2 ^ 512 ∧
      s.m.SliceReady (placeOfSector s.m sector).c ∧ s.m.tline (placeOfSector s.m sector) line = TLine.idleLine ∧ stableOf s.m
      (placeOfSector s.m sector) line ≠ 3 ∧ (findPend s.m sector line fun h => h.op = 0 || (2 ≤ h.op && h.op ≤ 4)) = some h ∧
      h.op = 0 ∧ h.req = some q ∧ q.who = .agent a ∧ s.Comes (.hdata (placeOfSector s.m sector).c sector line data false)) ∧
    (∃ (q : CohReq) (s : State) (a : Nat), s.live ∧ wfCoh q = true ∧ s.m.SliceReady (s.placeOf q).c ∧ q.who = .agent a ∧ q.ecc
      ≠ 2 ∧ s.Comes (.clnEv q)) ∧
    (∃ (q : CohReq) (s : State) (a : Nat), s.live ∧ wfCoh q = true ∧ s.m.SliceReady (s.placeOf q).c ∧ q.who = .agent a ∧
      admittedFrom s.m q = [] ∧ s.Comes (.conflict q)) := by
  refine ⟨?_, ?_, ?_, ?_, ?_⟩
  · exact ⟨req3, cohere [] (entry3 1 0 0) fun h => { h with tlt := [tlt3 { TLine.idleLine with st := .m, req := some req3, need := 1 }] }, 3, 3, 9, 5, by decide +kernel, by decide +kernel, by decide +kernel, by decide +kernel, by decide +kernel, by decide +kernel, by decide +kernel, ⟨fun _ h => (nomatch h), fun _ h => (nomatch h), by decide +kernel⟩⟩
  · exact ⟨req3, cohere [(Die.DIE_STATE 7, 1), (Hlc.HLC_STATE, 1), (Hlc.HLC_ENABLE, 1)] (entry3 1 0 0) fun h => { h with tlt := [tlt3 { TLine.idleLine with st := .m, req := some req3 }], hpend := [⟨3, 3, 3, 1, 0, some req3, false⟩], hlcTag := [(wayKey 7 1 3 15, tagWord 960 true)], hlcData := [(wayKey 7 1 3 15, 2 ^ 511 + 3)] }, 3, 3, 5, 2^512-1, ⟨3, 3, 3, 1, 0, some req3, false⟩, by decide +kernel, by decide +kernel, by decide +kernel, by decide +kernel, by decide +kernel, by decide +kernel, by decide +kernel, by decide +kernel, by decide +kernel, by decide +kernel, ⟨fun _ h => (nomatch h), fun _ h => (nomatch h), by decide +kernel⟩⟩
  · exact ⟨req3, cohere [] (entry3 1 0 0) fun h => { h with hpend := [⟨3, 3, 3, 0, 0, some req3, false⟩] }, 3, 3, 5, 2^512-1, ⟨3, 3, 3, 0, 0, some req3, false⟩, by decide +kernel, by decide +kernel, by decide +kernel, by decide +kernel, by decide +kernel, by decide +kernel, by decide +kernel, by decide +kernel, by decide +kernel, by decide +kernel, by decide +kernel, ⟨fun _ h => (nomatch h), fun _ h => (nomatch h), by decide +kernel⟩⟩
  · exact ⟨req3, cohere [] 0 id, 5, by decide +kernel, by decide +kernel, by decide +kernel, by decide +kernel, by decide +kernel, ⟨fun _ h => (nomatch h), fun _ h => (nomatch h), by decide +kernel⟩⟩
  · exact ⟨req3, cohere [] 0 id, 5, by decide +kernel, by decide +kernel, by decide +kernel, by decide +kernel, by decide +kernel, ⟨fun _ h => (nomatch h), fun _ h => (nomatch h), by decide +kernel⟩⟩

/-- The hypotheses of each clause of snoop_answers can be met. -/
theorem test_snoop_answers_met :
    (∃ (q : CohReq) (r : BiRsp) (s : State) (due sector line e : Nat) (ld : Option Nat) (d : Nat), wfBiRsp r = true ∧ s.Waits
      sector line .bI q ∧ (s.m.tline (placeOfSector s.m sector) line).step = 0 ∧ (s.m.tline (placeOfSector s.m sector)
      line).base < 3 ∧ (s.m.tline (placeOfSector s.m sector) line).transfer = false ∧ (s.m.tline (placeOfSector s.m sector)
      line).snoops = [⟨r.agent, none, 0, none, false⟩] ∧ r.bitag / 1024 % 4 = (placeOfSector s.m sector).c ∧ r.kind = 0 ∧
      r.wbAhead = 0 ∧ s.m.coh.snoops = [⟨r.bitag, true, (placeOfSector s.m sector).c, (placeOfSector s.m sector).slot,
      (placeOfSector s.m sector).tag, r.agent, 0, 2 ^ line, 0, due⟩] ∧ hlcBit s.m (placeOfSector s.m sector) line = false ∧
      targetOf s.m (lineAddr s.m (placeOfSector s.m sector) line) = (some e, ld, d) ∧ takesMem s.m e = true ∧ (e < 64 →
      ideBlocked s.m e 1 = false) ∧ s.Comes (.birsp r)) ∧
    (∃ (q : CohReq) (s : State) (sector line a y : Nat), s.Waits sector line .w q ∧ q.who = .agent a ∧ (s.m.tline
      (placeOfSector s.m sector) line).due ≤ s.m.now.stitch ∧ ((s.m.tline (placeOfSector s.m sector) line).came = .bS ∨
      (s.m.tline (placeOfSector s.m sector) line).came = .bC) ∧ (s.m.tline (placeOfSector s.m sector) line).owner = some y ∧ (∀
      z ∈ (s.m.tline (placeOfSector s.m sector) line).snoops, z.agent = y) ∧ (s.m.tline (placeOfSector s.m sector)
      line).transfer = false ∧ mustWait s.m s.pending (placeOfSector s.m sector).c 4 = false) ∧
    (∃ (bitag : Nat) (s : State) (x : SnoopRec), s.live ∧ (s.m.coh.snoops.find? fun y => y.sent && y.bitag == bitag && y.due ≤
      s.m.now.stitch) = some x ∧ agentDead s.m x.agent = false ∧ agentDying s.m x.agent = false ∧ mustWait s.m s.pending (bitag
      / 1024 % 4) 4 = false) := by
  refine ⟨?_, ?_, ?_⟩
  · exact ⟨req3, ⟨3 * 1024 + 7, 63, 0, 0⟩, cohere [] (entry3 2 63 0) fun h => { h with tlt := [tlt3 { TLine.idleLine with st := .bI, req := some req3, base := 2, snoops := [⟨63, none, 0, none, false⟩], owner := some 63 }], snoops := [⟨3 * 1024 + 7, true, 3, 0, 0, 63, 0, 8, 0, 9⟩] }, 9, 3, 3, 63, none, 960, by decide +kernel, by decide +kernel, by decide +kernel, by decide +kernel, by decide +kernel, by decide +kernel, by decide +kernel, by decide +kernel, by decide +kernel, by decide +kernel, by decide +kernel, by decide +kernel, by decide +kernel, by decide +kernel, ⟨fun _ h => (nomatch h), fun _ h => (nomatch h), by decide +kernel⟩⟩
  · exact ⟨req3, cohere [] (entry3 1 0 0) fun h => { h with tlt := [tlt3 { TLine.idleLine with st := .w, came := .bS, req := some req3, base := 2, snoops := [⟨63, some 0, 1, none, false⟩], owner := some 63 }] }, 3, 3, 5, 63, by decide +kernel⟩
  · exact ⟨3 * 1024 + 7, (fun s => s.at (late 9 s.m)) (cohere [] 0 fun h => { h with snoops := [⟨3 * 1024 + 7, true, 3, 0, 0, 63, 0, 8, 0, 9⟩] }), ⟨3 * 1024 + 7, true, 3, 0, 0, 63, 0, 8, 0, 9⟩, by decide +kernel⟩

/-- The hypotheses of each clause of retries can be met. -/
theorem test_retries_met :
    (∃ (tag : Nat) (rsv : Bool) (s : State) (r : Retry), s.live ∧ s.m.edge.streams = [] ∧
      (s.NoneOnItsWay fun b => match b with | .nak _ t v _ _ _ => t == tag && v == rsv | _ => false) ∧ s.m.coh.retries = [r] ∧
      r.tag = tag) ∧
    (∃ (tag : Nat) (s : State) (r : Retry), s.live ∧ (s.m.coh.retries.find? fun r => r.tag == tag && !r.rsv && !r.sent && r.due
      ≤ s.m.now.stitch) = some r ∧ r.req = none ∧ (∀ x, findTxn s.m r.port r.tag = some x → checkAccess s.m 0 x.slice x.need
      x.addr (max 1 x.len) = none)) ∧
    (∃ (tag : Nat) (s : State), s.live ∧ (s.m.coh.retries.find? fun r => r.tag == tag && !r.rsv && !r.sent && r.due ≤
      s.m.now.stitch) = none) ∧
    (∃ (tag : Nat) (s : State) (r : Retry), s.live ∧ (s.NoneOnItsWay fun b => match b with | .go _ t => t == tag | _ => false)
      ∧ (s.m.coh.retries.find? fun r => r.tag == tag && r.rsv) = some r ∧ r.req = none ∧ (∀ x, findTxn s.m r.port r.tag = some
      x → checkAccess s.m 0 x.slice x.need x.addr (max 1 x.len) = none)) ∧
    (∃ (c slot : Nat) (s : State) (r : Rsv) (rs : List Rsv), c < 4 ∧ slot < 2 ^ 24 ∧ s.live ∧ mustWait s.m s.pending c 4 =
      false ∧ Tab.get [] s.m.coh.rsv (c * 2 ^ 24 + slot) = r :: rs ∧ r.go = true ∧ r.due ≤ s.m.now.stitch) := by
  refine ⟨?_, ?_, ?_, ?_, ?_⟩
  · exact ⟨9, true, cohere [] 0 fun h => { h with retries := [⟨0, 9, 14, false, 0, false, none⟩] }, ⟨0, 9, 14, false, 0, false, none⟩, by decide +kernel, by decide +kernel, ⟨fun _ h => (nomatch h), fun _ h => (nomatch h)⟩, by decide +kernel, by decide +kernel⟩
  · exact ⟨9, cohere [] 0 fun h => { h with retries := [⟨0, 9, 14, false, 0, false, none⟩] }, ⟨0, 9, 14, false, 0, false, none⟩, by decide +kernel, by decide +kernel, by decide +kernel, fun _ h => (nomatch h)⟩
  · exact ⟨9, cohere [] 0 fun h => { h with retries := [⟨0, 9, 14, false, 1, false, none⟩] }, by decide +kernel⟩
  · exact ⟨9, cohere [] 0 fun h => { h with retries := [⟨0, 9, 14, true, 0, false, none⟩] }, ⟨0, 9, 14, true, 0, false, none⟩, by decide +kernel, ⟨fun _ h => (nomatch h), fun _ h => (nomatch h)⟩, by decide +kernel, by decide +kernel, fun _ h => (nomatch h)⟩
  · exact ⟨3, 2^24-1, cohere [] 0 fun h => { h with retries := [⟨0, 9, 8, true, 0, false, none⟩], rsv := [(2 ^ 26 - 1, [⟨9, 0, .agent 5, 4095, 960, true, 0⟩])] }, ⟨9, 0, .agent 5, 4095, 960, true, 0⟩, [], by decide +kernel⟩

/-- The hypotheses of each clause of home_line_cache can be met. -/
theorem test_home_line_cache_met :
    (∃ (h : HlcMsg) (s : State), wfHlc h = true ∧ s.live ∧
      (s.NoneOnItsWay fun b => match b with | .home _ g => g.addr / 64 == h.addr / 64 | _ => false)) ∧
    (∃ (s : State), s.managed ∧ s.m.rd Hlc.HLC_STATE ≠ 0) ∧
    (∃ (s : State), s.managed ∧ hlcFlushCheck s.m = none) ∧
    (∃ (s : State), s.live ∧ s.m.rd Hlc.HLC_STATE = 2 ∧ s.m.rd Hlc.HLC_DIRTY = 0 ∧ (∀ h ∈ s.m.coh.hpend, h.op ≠ 3 ∧ h.op ≠ 4) ∧
      s.m.coh.recallWait = []) ∧
    (∃ (s : State), s.live ∧ s.m.rd Hlc.HLC_STATE = 3 ∧ validWays s.m = [] ∧ (∀ h ∈ s.m.coh.hpend, h.op ≠ 3 ∧ h.op ≠ 4) ∧
      s.m.coh.recallWait = []) ∧
    (∃ (s : State), s.live ∧ s.m.rd Hlc.HLC_STATE = 2 ∧ s.m.rd Hlc.HLC_DIRTY ≠ 0) := by
  refine ⟨?_, ?_, ?_, ?_, ?_, ?_⟩
  · exact ⟨⟨960, 2 ^ 512 - 1, 2 ^ 64 - 1, false, false, false, 8, 3, 0, 0⟩, cohere [(Die.DIE_STATE 7, 1), (Hlc.HLC_STATE, 1), (Hlc.HLC_ENABLE, 1)] 0 fun h => { h with hlcTag := [(wayKey 7 1 3 15, tagWord 960 true)], hlcData := [(wayKey 7 1 3 15, 2 ^ 511 + 3)] }, by decide +kernel, by decide +kernel, ⟨fun _ h => (nomatch h), fun _ h => (nomatch h)⟩⟩
  · exact ⟨cohere [(Die.DIE_STATE 7, 1), (Hlc.HLC_STATE, 1), (Hlc.HLC_ENABLE, 1)] 0 fun h => { h with hlcTag := [(wayKey 7 1 3 15, tagWord 960 true)], hlcData := [(wayKey 7 1 3 15, 2 ^ 511 + 3)] }, by decide +kernel⟩
  · exact ⟨cohere [(Die.DIE_STATE 7, 1), (Hlc.HLC_STATE, 1), (Hlc.HLC_ENABLE, 1)] 0 fun h => { h with hlcTag := [(wayKey 7 1 3 15, tagWord 960 true)], hlcData := [(wayKey 7 1 3 15, 2 ^ 511 + 3)] }, by decide +kernel⟩
  · exact ⟨up [(Hlc.HLC_STATE, 2), (Hlc.HLC_ENABLE, 1)], by decide +kernel⟩
  · exact ⟨up [(Hlc.HLC_STATE, 3)], by decide +kernel⟩
  · exact ⟨up [(Hlc.HLC_STATE, 2), (Hlc.HLC_DIRTY, 1)], by decide +kernel⟩

/-- The hypotheses of each clause of agents_walks_and_diagnosis can be met. -/
theorem test_agents_walks_and_diagnosis_met :
    (∃ (a : Nat) (s : State), a < 64 ∧ s.managed ∧ agentDead s.m a = false ∧ agentDying s.m a = false) ∧
    (∃ (s : State), s.live ∧ s.m.rd Agents.WALK_AGENTS ≠ 0 ∧ mirrorOn s.m = false ∧ (∀ c, c < 4 → Tab.get 0 s.m.coh.walkEnd c ≤
      2 ^ 24 ∧ Tab.get 0 s.m.coh.walkNext c ≤ 2 ^ 24)) ∧
    (∃ (a : Nat) (s : State), a < 64 ∧ s.managed ∧ reviveCheck a s.m = none ∧ s.m.twin.hello = none) ∧
    (∃ (a : Nat) (s : State) (st : Status), a < 64 ∧ s.managed ∧ reviveCheck a s.m = some st) ∧
    (∃ (c : Nat) (s : State), c < 4 ∧ s.live ∧ s.m.rd (Ce.CE_STATE c) = 1) ∧
    (∃ (c : Nat) (s : State), c < 4 ∧ s.live ∧ s.m.domOn (72 + c) = true ∧ bitAt s.m.coh.dirBad c = false) ∧
    (∃ (s : State), s.managed ∧ diagCheck s.m = none) ∧
    (∃ (s : State) (st : Status), s.managed ∧ diagCheck s.m = some st) ∧
    (∃ (s : State), s.managed) ∧
    (∃ (s : State) (w : Nat), s.managed ∧ w < 1024) := by
  refine ⟨?_, ?_, ?_, ?_, ?_, ?_, ?_, ?_, ?_, ?_⟩
  · exact ⟨63, cohere [] (entry3 2 63 0) id, by decide +kernel⟩
  · exact ⟨cohere [(Agents.WALK_AGENTS, 2 ^ 63), (Agents.DEAD_AGENTS, 2 ^ 63)] (entry3 2 63 0) id, by decide +kernel⟩
  · exact ⟨63, cohere [(Agents.DEAD_AGENTS, 2 ^ 63)] 0 id, by decide +kernel⟩
  · exact ⟨63, up [(Agents.DEAD_AGENTS, 2 ^ 63), (Agents.WALK_AGENTS, 2 ^ 63)], .busy, by decide +kernel⟩
  · exact ⟨3, up [(Ce.CE_STATE 3, 1)], by decide +kernel⟩
  · exact ⟨3, up [], by decide +kernel⟩
  · exact ⟨cohere [(Coh.DIAG_SLICE, 3)] (entry3 2 63 0) id, by decide +kernel⟩
  · exact ⟨up [(Coh.DIAG_SLOT, 2 ^ 24)], .range, by decide +kernel⟩
  · exact ⟨up [(LostLog.LL_SLOTS, 5), (LostLog.LL_PROD, 3), (LostLog.LL_CONS, 2)], by decide +kernel⟩
  · exact ⟨on [] fun m => m.putWord Spec.SPEC_DISCARD 1023 7, 1023, by decide +kernel⟩

/-- The hypotheses of burnt_fuses_stay_burnt can be met. -/
theorem test_burnt_fuses_stay_burnt_met :
    ∃ (s t : State), step s = .next t :=
  ⟨up [], up [], rfl⟩

/-- The hypotheses of life_cycle_only_advances can be met. -/
theorem test_life_cycle_only_advances_met :
    ∃ (s t : State), s.otp.lcState ≤ lcCode s.otp.ctrl ∧ step s = .next t :=
  ⟨up [], up [], by decide +kernel, rfl⟩

/-- The hypotheses of mirror_selector_is_fixed_while_enabled can be met. -/
theorem test_mirror_selector_is_fixed_while_enabled_met :
    ∃ (p : Path) (i n l v j : Nat) (e : Entry) (s : State) (w : Who), i < 8 ∧ 2 ≤ n ∧ n ≤ 6 ∧ v < 2 ^ (8 * l) ∧ s.Granted p
      [⟨.write, 0x2820 + i, n, l, 0, 0, v⟩] w ∧ findEntry ((0x2820 + i) * 256 + n) = some (e, j) ∧ privFails w e ((0x2820 + i)
      * 256 + n) true s.toDev = false ∧ lifeFails w ((0x2820 + i) * 256 + n) .write s.toDev = false ∧ l = e.ty.size ∧ fits e v
      = true ∧ s.m.on (Mir.MIR_ENABLE i) = true ∧ s.m.mgmt.fault = false :=
  ⟨.mctpBus false, 7, 2, 1, 5, 7, ((findEntry (0x2827 * 256 + 2)).get (by decide +kernel)).1, up [(Mctp.REQUIRE_SECURE, 0), (Mir.MIR_ENABLE 7, 1)], fmWho,
    by decide +kernel, by decide +kernel, by decide +kernel, by decide +kernel, by decide +kernel, rfl, by decide +kernel, by decide +kernel, by decide +kernel, by decide +kernel, by decide +kernel, by decide +kernel⟩

/-- The hypotheses of late_responses_are_discarded can be met. -/
theorem test_late_responses_are_discarded_met :
    ∃ (p tag : Nat) (s : State), p < 64 ∧ s.live ∧ findEgress s.m p tag = none :=
  ⟨63, 9, pool [] id, by decide +kernel⟩

/-! ### Ill-formed commands are refused by each check -/

def badReq : CohReq := ⟨2 ^ 52, .io 0, 0, 0, 65535, 0, .i, false, 0, 0, false, none, 0, 0, 0, 0, 0⟩

def badUdp : Udp := ⟨⟨2, 0, 0⟩, 0, [], 0, false⟩

theorem test_ill_formed_units : wfSlice 4096 = false ∧ wfInput 64 = false ∧ wfInput 67 = false ∧ wfWho (.agent 64) = false ∧
    wfWho (.io 64) = false ∧ wfWho (.needle 128) = false ∧ wfWho (.mgmt 16) = false ∧ wfSite (.gate 64) = false ∧
    wfPath (.preoc 8) = false ∧ wfPath (.mctpVdm 64 true) = false ∧ wfPath (.cci 64) = false ∧ wfCarrier (.preoc badUdp) = false ∧
    wfMedium (.vdm 64) = false ∧ wfUdp { udp1 with port := 65536 } = false ∧ wfUdp { udp1 with sender := ⟨0, 2 ^ 32, 0⟩ } = false ∧
    wfUdp { udp1 with sender := ⟨0, 0, 65536⟩ } = false := by decide +kernel

theorem test_ill_formed_defects : ([.boltCorr 8 ⟨0, 0, 0⟩, .dirCorr 7 ⟨0, 0, 0⟩, .dirCorr 12 ⟨0, 0, 0⟩, .ruleCorr false 64 0 0, .nocCorr 8, .nocHeader 8 0, .nocBody 8 0, .nocCredit 8, .ruleUncorr false 64 0 0,
    .ruleUncorr true 0 2 0, .ruleUncorr false 0 0 64, .ruleUncorr true 0 0 8192, .ctrParity 1024, .queueCorr 64, .queueUncorr 64,
    .creditErr 64, .funnelCorr 128, .funnelUncorr 128, .prbsErr 288 0] : List Defect).all (fun d => !wfDefect d) = true := by
  decide

theorem test_ill_formed_samples : wfEnv ⟨[], [⟨0, 4096, 1⟩], []⟩ = false ∧ wfEnv ⟨[], [], [(288, 0)]⟩ = false ∧
    wfTick ⟨[], [⟨32, 0, 0, 0, false, false, false, false, false⟩], false, false, false⟩ = false ∧
    wfFlit ⟨0, 3, 0, true, true, true, false, [], false, []⟩ = false ∧
    wfFlit ⟨0, 0, 0, true, true, true, false, [], false, [.cache 16 0 0]⟩ = false ∧
    wfFlit ⟨0, 0, 0, true, true, true, false, [], false, [.birsp 4096 0]⟩ = false ∧
    wfTrained ⟨0, 0, 0, 0, 0, [⟨0, some 11, 0⟩]⟩ = false := by decide

theorem test_ill_formed_operations : wfOp ⟨.read, 2 ^ 16, 0, 0, 0, 0, 0⟩ = false ∧ wfOp ⟨.read, 0, 256, 0, 0, 0, 0⟩ = false ∧
    wfOp ⟨.write, 0, 0, 1, 0, 0, 256⟩ = false ∧ wfOp ⟨.write, 0, 0, 1, 0, 256, 0⟩ = false ∧
    wfDatagram ⟨udp1, 256, false, 0, false, []⟩ = false ∧ wfDatagram ⟨udp1, 0, false, 2 ^ 32, false, []⟩ = false ∧
    wfDatagram ⟨udp1, 0, false, 0, false, [⟨.read, 2 ^ 16, 0, 0, 0, 0, 0⟩]⟩ = false := by decide

theorem test_ill_formed_io_requests :
    let r : IoReq := ⟨0, 65535, none, none, 0, false, 0, 0, 0, 0, 0, false, none, 0, 0, 0, 0, 0, 0⟩
    wfIo r = true ∧ wfIo { r with port := 64 } = false ∧ wfIo { r with addr := 2 ^ 64 } = false ∧
    wfIo { r with len := 4097 } = false ∧ wfIo { r with data := 1 } = false ∧ wfIo { r with kind := 9 } = false ∧ wfIo { r with kind := 8, keyId := 1024 } = false ∧
    wfIo { r with tc := 8 } = false ∧ wfIo { r with vcs := 64 } = false ∧ wfIo { r with ld := some 16 } = false ∧
    wfIo { r with slice := 4096 } = false := by decide +kernel

theorem test_ill_formed_mem_requests :
    let r : MemReq := ⟨0, none, 65535, .memRd, .i, 0, 0, 0, 0, false⟩
    wfMem r = true ∧ wfMem { r with port := 64 } = false ∧ wfMem { r with addr := 2 ^ 52 } = false ∧
    wfMem { r with data := 2 ^ 512 } = false ∧ wfMem { r with be := 2 ^ 64 } = false ∧
    wfMem { r with slice := 4096 } = false ∧ wfResponse ⟨4, 0, false⟩ = false := by decide +kernel

theorem test_ill_formed_frames : wfFrame (2 ^ 2048 - 1) = true ∧ wfFrame (2 ^ 2048) = false ∧ wfOuts [66] = true ∧ wfOuts [67] = false := by
  decide +kernel

theorem test_ill_formed_packets :
    let k : Present := ⟨0, 0, 0, 0, 65535, 66, 0, false, 0, 0, 0, 0⟩
    wfPresent k = true ∧ wfPresent { k with input := 71 } = false ∧ wfPresent { k with len := 0 } = false ∧
    wfPresent { k with len := 67 } = false ∧ wfPresent { k with fill := 16 } = false ∧ wfPresent { k with output := 67 } = false ∧
    wfPresent { k with cls := 64 } = false ∧ wfPresent { k with slice := 4096 } = false ∧
    wfPresent { k with kind := 5 } = false := by decide +kernel

theorem test_ill_formed_coherence :
    let q : CohReq := { badReq with addr := 0 }
    let h : HlcMsg := ⟨0, 0, 0, false, false, false, 0, 0, 0, 0⟩
    wfCoh q = true ∧ wfCoh badReq = false ∧ wfCoh { q with who := .io 64 } = false ∧ wfCoh { q with slice := 4096 } = false ∧
    wfCoh { q with data := 2 ^ 512 } = false ∧ wfCoh { q with be := 2 ^ 64 } = false ∧ wfCoh { q with ecc := 4 } = false ∧
    wfBiRsp ⟨0, 64, 0, 0⟩ = false ∧ wfBiRsp ⟨0, 0, 3, 0⟩ = false ∧ wfHlc h = true ∧ wfHlc { h with addr := 2 ^ 52 } = false ∧
    wfHlc { h with data := 2 ^ 512 } = false ∧ wfHlc { h with be := 2 ^ 64 } = false := by decide +kernel

theorem test_ill_formed_twin_and_events : wfMirrors [⟨0, 0, 0, 0, 0, 0, 0, 0, 4, 0⟩] = false ∧
    wfMirrors [⟨0, 0, 0, 0, 0, 0, 0, 0, 0, 2 ^ 128⟩] = false ∧ wfOccurrence ⟨1536, 0, noCtx⟩ = false ∧
    wfOccurrence ⟨0, 0, { noCtx with slice := 4096 }⟩ = false ∧ wfLc ⟨.jtag, 256, 0⟩ = false ∧
    wfLc ⟨.path (.preoc 8), 0, 0⟩ = false := by decide +kernel

/-- One ill-formed command for each bound that a command is checked for. -/
theorem test_ill_formed_commands_1 :
    ([
    .stitchStrobe ⟨[.boltCorr 8 ⟨0, 0, 0⟩], [], []⟩, .slotTick ⟨[(40, 0)], [], false, false, false⟩,
    .flitReceived ⟨64, 0, 0, true, true, true, false, [], false, []⟩, .read (.preoc 8) 0 0 0, .write (.preoc 8) 0 0 0 0,
    .write .preocNone 0 0 0 1, .compareWrite (.preoc 8) 0 0 0 0 0, .compareWrite .preocNone 0 0 0 1 0,
    .compareWrite .preocNone 0 0 0 0 1, .blockRead (.preoc 8) 0 0 0 0, .blockWrite (.preoc 8) 0 0 0 0 0,
    .blockWrite .preocNone 0 0 0 0 1, .registerWrite 0 0 (2 ^ 32), .pbRequest ⟨badUdp, 0, false, 0, false, []⟩,
    .spdmGetVersion (.mctp (.vdm 64)), .spdmGetCapabilities (.mctp (.vdm 64)),
    .spdmNegotiateAlgorithms (.mctp (.vdm 64)) false, .spdmGetDigests (.mctp (.vdm 64)),
    .spdmGetCertificate (.mctp (.vdm 64)) 0 0 0, .spdmChallenge (.mctp (.vdm 64)) 0 0,
    .spdmGetMeasurements (.mctp (.vdm 64)) 0, .keyExchange (.mctp (.vdm 64)) 0 0, .keyExchange (.mctp .bus) 8 0, .keyExchange (.mctp .bus) 0 (2 ^ 768), .spdmFinish (.mctp (.vdm 64)) 0 ⟨false, 0⟩,
    .spdmFinish (.mctp .bus) 8 ⟨false, 0⟩, .spdmFinish (.mctp .bus) 0 ⟨false, 2 ^ 384⟩, .keyUpdate ⟨.mctp (.vdm 64), 0, false⟩,
    .keyUpdate ⟨.mctp .bus, 256, false⟩, .spdmHeartbeat ⟨.mctp (.vdm 64), 0, false⟩, .spdmHeartbeat ⟨.mctp .bus, 256, false⟩,
    .endSession ⟨.mctp (.vdm 64), 0, false⟩, .endSession ⟨.mctp .bus, 256, false⟩, .keepalive badUdp ⟨0, false⟩,
    .keepalive ⟨⟨0, 0, 0⟩, 0, [], 0, false⟩ ⟨256, false⟩, .sessionTimeout 8, .sessionClose 8, .notifyAck badUdp ⟨0, 0, false⟩,
    .notifyAck ⟨⟨0, 0, 0⟩, 0, [], 0, false⟩ ⟨0, 256, false⟩, .notifyRetryExpiry 8, .setEndpointId 0 (.vdm 64),
    .setEndpointId 256, .getEndpointId (.vdm 64), .getMctpVersionSupport (.vdm 64), .getMessageTypeSupport (.vdm 64),
    .vdmDrop 64, .pbAccess (.preoc 8) false [], .pbAccess .preocNone false [] 65536, .pbAccess .preocNone false [] 0x5100,
    .pbAccess .preocNone false [⟨.read, 2 ^ 16, 0, 0, 0, 0, 0⟩], .identify (.preoc 8), .getEventRecords (.preoc 8),
    .clearEventRecords (.preoc 8) [], .getFwInfo (.preoc 8), .transferFw (.preoc 8) 0 0 0, .transferFw .preocNone 0 0 1,
    .activateFw (.preoc 8) 0, .getTimestamp (.preoc 8), .setTimestamp (.preoc 8) 0, .setTimestamp .preocNone (2 ^ 64),
    .getSupportedLogs (.preoc 8), .getLog (.preoc 8) 0 0, .identifySwitchDevice (.preoc 8), .getPhysicalPortState (.preoc 8) 0,
    .getPhysicalPortState .preocNone 64, .physicalPortControl (.preoc 8) 0 0, .physicalPortControl .preocNone 64 0,
    .sendPpbCxlIoConfigurationRequest (.preoc 8) 0 0, .sendPpbCxlIoConfigurationRequest .preocNone 64 0,
    .getVirtualCxlSwitchInfo (.preoc 8) 0, .getVirtualCxlSwitchInfo .preocNone 64, .bindVppb (.preoc 8) 0 0 0 0 false,
    .bindVppb .preocNone 64 0 0 0 false, .bindVppb .preocNone 0 1024 0 0 false, .bindVppb .preocNone 0 0 64 0 false,
    .bindVppb .preocNone 0 0 0 16 false, .unbindVppb (.preoc 8) 0 0 0, .unbindVppb .preocNone 64 0 0] : List Instr).all (fun c => !c.wf) = true := by decide +kernel

theorem test_ill_formed_commands_2 :
    ([
    .unbindVppb .preocNone 0 1024 0, .generateAerEvent (.preoc 8) 0 0, .generateAerEvent .preocNone 1024 0,
    .tunnelManagementCommand (.preoc 8) 0 0, .tunnelManagementCommand .preocNone 64 0,
    .sendLdCxlIoConfigurationRequest (.preoc 8) 0 0 0, .sendLdCxlIoConfigurationRequest .preocNone 64 0 0,
    .sendLdCxlIoConfigurationRequest .preocNone 0 16 0, .sendLdCxlIoMemoryRequest (.preoc 8) 0 0 0,
    .sendLdCxlIoMemoryRequest .preocNone 64 0 0, .sendLdCxlIoMemoryRequest .preocNone 0 16 0,
    .fwImageWrite (some (.vdm 64)) 0 0 0, .fwImageWrite none 0 0 1, .pldmActivateFirmware false (.vdm 64),
    .mwAccess 16 false 0 0 0, .mwAccess 0 false 0 0 1, .mwDisable 16, .portEnable 64, .portDisable 64, .linkRetrain 64,
    .linkHotReset 64, .linkDisable 64, .linkEnable 64, .linkTrainingDone 64 ⟨0, 0, 0, 0, 0, []⟩,
    .linkTrainingDone 0 ⟨0, 0, 0, 0, 0, [⟨16, none, 0⟩]⟩, .l0pWidthChange 64 0, .keyGo 64, .vcsEnable 64, .vcsDisable 64,
    .cxlCacheRequest 64 0 0 0, .cxlCacheRequest 0 16 0 0, .cxlCacheRequest 0 0 16 0, .cxlCacheRequest 0 0 0 (2 ^ 52),
    .bind 64 0 0 0 false, .bind 0 1024 0 0 false, .bind 0 0 64 0 false, .bind 0 0 0 16 false, .unbind 64 0 0, .unbind 0 1024 0,
    .secondaryBusWrite 1024 0, .vppbLinkDown 1024, .perstHoldExpiry 64, .perstRequest 16 false, .linkLost 64,
    .cxlIoRequest ⟨64, 65535, none, none, 0, false, 0, 0, 0, 0, 0, false, none, 0, 0, 0, 0, 0, 0⟩,
    .lockedRead ⟨64, 65535, none, none, 0, false, 0, 0, 0, 0, 0, false, none, 0, 0, 0, 0, 0, 0⟩, .unlock 67 0,
    .cplTimeout 67 0, .targetResponse 67 0 ⟨0, 0, false⟩, .targetResponse 0 0 ⟨4, 0, false⟩, .farErrorOpen 67 0 0,
    .farErrorClosed 67 0, .cxlMemRequest ⟨67, none, 65535, .memRd, .i, 0, 0, 0, 0, false⟩, .refclkWindow 36 0,
    .refclkEdgeLoss 36, .pllUnlock 36, .pllRelock 36, .dozeEntry 288 0 false, .dozeEntry 0 3 false, .dozeExitRequest 288,
    .dozeExitDone 288 0, .dozeExitDone 0 65536, .laneModeSet 288 false, .chkLock 288, .chkLost 288, .prbsCountersStop 288,
    .prbsClear 288, .prbsSnap 288, .prbsInject 288, .slip 288, .slipDone 288, .alignDetect 288 0 [], .seamFrameSlot 2,
    .payloadFrame 2 ⟨0, []⟩, .payloadFrame 0 ⟨2 ^ 2048, []⟩] : List Instr).all (fun c => !c.wf) = true := by decide +kernel

theorem test_ill_formed_commands_3 :
    ([
    .payloadFrame 0 ⟨0, [67]⟩, .controlFrame 2 0, .controlFrame 0 (2 ^ 2048), .initFrame 2 0, .initFrame 0 (2 ^ 2048),
    .idleFrame 2 0, .idleFrame 0 (2 ^ 2048), .replayTimer 2, .ackTimer 2, .lcmdPropose 2 0 0 false, .lcmdPropose 0 16 0 false,
    .lcmdAccept 2 0 0, .lcmdAccept 0 16 0, .lcmdRefuse 2 0 0, .lcmdRefuse 0 16 0, .lcmdSwitch 2 0 ⟨0, 0⟩, .lcmdSwitch 0 16 ⟨0, 0⟩,
    .lcmdWake 2 0, .lcmdWake 0 16, .lcmdDoze 2 0, .lcmdDoze 0 16, .lcmdTimeout 2, .laneErrWindow 2, .seamEnable 2,
    .seamDisable 2, .manualGo 2, .seamActive 2, .trainingTimeout 2, .seamDownRetry 2, .seamRetrain 2, .laneSignalLoss 2 0,
    .laneSignalLoss 0 32, .retrainTimeout 2, .linkCmdRetrain 2, .linkCmdPropose 2, .linkCmdWake 2, .linkCmdDoze 2,
    .packetPresent ⟨0, 71, 0, 0, 65535, 1, 0, false, 0, 0, 0, 0⟩, .hlcStepsWrite (2 ^ 64), .boltDieIfFail 8, .latMaxClear 32,
    .rds badReq, .rda badReq, .rdi badReq, .inva badReq, .clnEv badReq, .wb badReq, .ncw badReq, .birsp ⟨0, 64, 0, 0⟩,
    .cmpn 4 0 0 0 false 0, .cmpn 0 (2 ^ 46) 0 0 false 0, .cmpn 0 0 4 0 false 0, .cmpn 0 0 0 0 false (2 ^ 512),
    .biconflict badReq, .wbTimeout 4 0 0, .wbTimeout 0 (2 ^ 46) 0, .wbTimeout 0 0 4, .rsvLapse 4 0, .rsvLapse 0 (2 ^ 24),
    .ceInitDone 4, .dirDieIfFail 4, .hrd ⟨2 ^ 52, 0, 0, false, false, false, 0, 0, 0, 0⟩,
    .hwr ⟨2 ^ 52, 0, 0, false, false, false, 0, 0, 0, 0⟩, .hatom ⟨2 ^ 52, 0, 0, false, false, false, 0, 0, 0, 0⟩,
    .hrecall ⟨2 ^ 52, 0, 0, false, false, false, 0, 0, 0, 0⟩, .fill ⟨2 ^ 52, 0, 0, false, false, false, 0, 0, 0, 0⟩,
    .hdata 4 0 0 0 false, .hdata 0 (2 ^ 46) 0 0 false, .hdata 0 0 4 0 false, .hdata 0 0 0 (2 ^ 512) false, .hcmp 4 0 0 0,
    .hcmp 0 (2 ^ 46) 0 0, .hcmp 0 0 4 0, .hcmp 0 0 0 (2 ^ 512),
    .atomicop ⟨64, 65535, none, none, 0, false, 0, 0, 0, 0, 0, false, none, 0, 0, 0, 0, 0, 0⟩] : List Instr).all (fun c => !c.wf) = true := by decide +kernel

theorem test_ill_formed_commands_4 :
    ([
    .atomicAtHome badReq, .atomicAtMemory badReq, .declareDead 64, .revive 64, .windowEnable 1024, .windowDisable 1024,
    .windowDrainDone 1024, .ruleCheckDone (.gate 64), .ruleCopy (.gate 64), .ruleCopyDone (.gate 64), .swap (.gate 64),
    .swapDone (.gate 64), .slcActivate 4096, .slcReset 4096, .slcDeclareDead 4096, .slcFree 4096, .sliceResetEnd 4096,
    .slcClassesWrite 4096 0, .slcClassesWrite 0 (2 ^ 32), .classHoldEnd 4096 0, .slcNeedleWrite 4096 0,
    .slcNeedleWrite 0 (2 ^ 128), .slcCauseWrite 4096 0, .slcCauseWrite 0 (2 ^ 32), .slcVectorsWrite 4096 0,
    .slcVectorsWrite 0 (2 ^ 1024), .tgCommit 64, .tgTakeover 64, .chStart 128, .chStop 128, .chStopDone 128,
    .ringTailDoorbell 128 0, .descFetch 128 0, .fetchFail 128, .descCheckVerdict 128, .descComplete 128 0,
    .descFail 128 false 0, .mirrorSwatch [⟨0, 0, 0, 0, 0, 0, 0, 0, 4, 0⟩], .releaseNotice 67 0, .handover 4, .ppsInEdge 8,
    .pwrEnWrite 32 false, .presenceFilter 32 false, .insertionDebounceEnd 32, .removalDeclared 32, .rampAdmit 32,
    .rampTimeout 32, .faultTimerExpiry 32, .shortCircuit 32 0, .powerGood 32, .pgLost 32, .retryTimerExpiry 32,
    .retryCountReset 32, .uvHold 32, .uvRecovery 32, .fetCheckFail 32, .fetRecheck 32, .fetRecheckDone 32 false,
    .auxRestore 32, .auxFault 32, .button 32, .alert 32, .slotInputChatter 32 0, .slotInputStuck 32 0, .inputRearm 32 0,
    .eventOccurrence ⟨1536, 0, noCtx⟩, .wireFault 1536, .sourceStuck 1536, .captureContext 64, .captureTimeout 64,
    .srcStatusWrite 1536 0, .srcStatusWrite 0 (2 ^ 32), .ctrRead (.preoc 8) 0, .ctrRead .preocNone 1024, .ctrSelect 1024 0 0] : List Instr).all (fun c => !c.wf) = true := by decide +kernel

theorem test_ill_formed_commands_5 :
    ([
    .ctrClear 1024, .serviceSet (2 ^ 64), .pdOn 77, .pdOff 77, .pdReset 77, .quiesceDone 77, .rampDone 77, .domainFail 77,
    .droop 6, .tClear 48, .vClear 40, .lcReq ⟨.jtag, 256, 0⟩, .receiverDetection 64 false, .inBandHotReset 64,
    .mgmtEthLink 2 false, .dhcpv4 2 0 0 0, .dhcpv4 0 (2 ^ 32) 0 0, .dhcpv4 0 0 (2 ^ 32) 0, .dhcpv4 0 0 0 (2 ^ 32),
    .pldmFirmwareUpdate .start (.vdm 64)] : List Instr).all (fun c => !c.wf) = true := by decide +kernel

/-- A command that names a unit which the part does not have stops the step. -/
theorem test_ill_formed_command_stops : exec (.portEnable 64) State.reset = .fault .noSuchUnit := rfl

/-! ### Decoding and reset -/

/-- The rows of the table give no bits: no word spells a command. -/
theorem test_no_word_spells_a_command : decodeTableWord 0 0 = none ∧ (State.withFetchWord State.reset 16 0xFFFF) = State.reset :=
  ⟨rfl, rfl⟩

/-- The invariant of the life cycle holds at reset. -/
theorem test_reset_life_cycle : State.reset.otp.lcState ≤ lcCode State.reset.otp.ctrl := by decide

/-- Reset keeps the canonical form of the entries. -/
theorem test_reset_entries_canonical : Tab.wf dflt State.reset.m.pb = true := by decide +kernel

/-- The states of the tests keep it too. -/
theorem test_running_canonical : Tab.wf dflt running.pb = true := by decide +kernel

end Sys2Proof.Tests
end

namespace Sys2Proof.Machine

/-! ### Responses for closed transactions (R95) -/

/-- What port p does with a late response: FAR_ERROR_CLOSED, counted in LATE_CPL (R95). A seam has no such event. -/
theorem farErrorClosed_of_port {p : Nat} (hp : p < 64) (m : Mach) :
    farErrorClosed p m = raiseEv (16 * p + 11) (portCtx p) (m.bump (PortErr.LATE_CPL p) 1) := if_pos hp

theorem farErrorClosed_out (p : Nat) (m : Mach) : (farErrorClosed p m).out = m.out := by
  by_cases hp : p < 64 <;> simp [farErrorClosed, hp]

theorem farErrorClosed_edge (p : Nat) (m : Mach) : (farErrorClosed p m).edge = m.edge := by
  by_cases hp : p < 64 <;> simp [farErrorClosed, hp]

/-- A response with no forward of a slice to answer is late (R94, R95). -/
theorem sliceAnswered_of_no_forward {m : Mach} {p tag : Nat}
    (hf : (m.coh.fwds.find? fun f => f.egress == p && f.tag == tag) = none) (r : Response) :
    sliceAnswered p tag r m = farErrorClosed p m := by
  simp only [sliceAnswered, hf]

/-- A response at a port that takes traffic is late when neither a transaction nor a forward of a slice waits for it. -/
theorem targetResponse_of_closed {m : Mach} {p tag : Nat} (hup : entryUp m p = true) (ht : findEgress m p tag = none)
    (hf : (m.coh.fwds.find? fun f => f.egress == p && f.tag == tag) = none) (r : Response) :
    targetResponse p tag r m = farErrorClosed p m := by
  simp only [targetResponse, hup, ht, Bool.not_true, Bool.false_eq_true, if_false]
  exact sliceAnswered_of_no_forward hf r

theorem exec_farErrorClosed_of_closed {s : State} {p tag : Nat} (hp : p < 67) (hs : s.live)
    (ht : findEgress s.m p tag = none) :
    exec (.farErrorClosed p tag) s = .next (s.at (farErrorClosed p s.m)) := by
  change s.mach (decide (p < 67)) _ = _
  rw [decide_eq_true hp, State.mach_live hs, ht, Option.isNone_none, if_pos rfl]

theorem exec_targetResponse_of_live {s : State} {p : Nat} {r : Response} (hp : p < 67) (hr : wfResponse r = true)
    (hs : s.live) (tag : Nat) :
    exec (.targetResponse p tag r) s = .next (s.at (targetResponse p tag r s.m)) := by
  change s.mach (decide (p < 67) && wfResponse r) _ = _
  rw [decide_eq_true hp, hr, Bool.and_true, State.mach_live hs]

/-- Settles O59: both rows come to farErrorClosed, which counts and raises at the port and sends nothing. -/
theorem lateResponsesAreDiscarded : Obligations.late_responses_are_discarded := by
  intro p tag s hp hs ht
  have hp' : p < 67 := by omega
  refine ⟨_, rfl, ?_⟩
  rw [← farErrorClosed_of_port hp]
  refine ⟨farErrorClosed_out p s.m, farErrorClosed_edge p s.m, exec_farErrorClosed_of_closed hp' hs ht, ?_⟩
  intro r hr hup hf
  rw [exec_targetResponse_of_live hp' hr hs, targetResponse_of_closed hup ht hf]

/-! ### vPPBs after chip reset (R97) -/

/-- All indices of a group lie below idx. -/
def Group.EndsBy (g : Group) (idx : Nat) : Prop := 0 < g.stride ∧ g.base + g.count * g.stride ≤ idx

theorem Group.EndsBy.mono {g : Group} {idx idx' : Nat} (h : g.EndsBy idx) (hle : idx ≤ idx') : g.EndsBy idx' :=
  ⟨h.1, Nat.le_trans h.2 hle⟩

theorem Group.instanceOf_eq_none_of_endsBy {g : Group} {idx : Nat} (h : g.EndsBy idx) : g.instanceOf idx = none := by
  obtain ⟨hs, hend⟩ := h
  refine if_neg fun ⟨_, _, hc⟩ => ?_
  have := (Nat.div_lt_iff_lt_mul hs).mp hc
  omega

/-- The search for an index passes over the groups that end by it. -/
theorem findIn_append_of_endsBy {gs : List Group} {idx : Nat} (h : ∀ g ∈ gs, g.EndsBy idx) (hs : List Group) (sub : Nat) :
    findIn (gs ++ hs) idx sub = findIn hs idx sub := by
  induction gs with
  | nil => rfl
  | cons g gs ih =>
    obtain ⟨hg, hgs⟩ := List.forall_mem_cons.mp h
    rw [List.cons_append, findIn, Group.instanceOf_eq_none_of_endsBy hg]
    exact ih hgs

/-- The group that has an index and the subindex decides the search. -/
theorem findIn_cons_of_find {g : Group} {idx i sub : Nat} {e : Entry} (hi : g.instanceOf idx = some i)
    (he : g.entries.find? (fun e => e.sub == sub) = some e) (gs : List Group) :
    findIn (g :: gs) idx sub = some (e, i) := by
  simp only [findIn, hi, he]

/-- The groups that the search for a vPPB's index passes over. -/
def groupsBeforeVppb : List Group := groups0 ++ groups1.take 1

theorem groupsBeforeVppb_endsBy : ∀ g ∈ groupsBeforeVppb, g.EndsBy 0x3C80 := by
  unfold Group.EndsBy
  decide

theorem groups_eq_vppb_split : groups =
    groupsBeforeVppb ++ ⟨0x3C80, 128, 1, vppbEntries⟩ :: (groups1.drop 2 ++ groups2 ++ groups3 ++ groups4) := rfl

/-- The descriptors of an index of vPPBs, subindices 1 to 8, are entries of default 0. -/
theorem vppbEntries_find (r : Nat) (hr : r < 8) :
    ∃ e, vppbEntries.find? (fun e => e.sub == r + 1) = some e ∧ ∀ i, e.dflt i = 0 :=
  match r, hr with
  | 0, _ | 1, _ | 2, _ | 3, _ | 4, _ | 5, _ | 6, _ | 7, _ => ⟨_, rfl, fun _ => rfl⟩
  | n + 8, h => absurd h (by omega)

theorem dflt_vppb (i : Nat) (hi : i < 1024) : dflt (Vppb.VPPB i) = 0 := by
  have hidx : Vppb.VPPB i / 256 = 0x3C80 + i / 8 := by unfold Vppb.VPPB; omega
  have hsub : Vppb.VPPB i % 256 = i % 8 + 1 := by unfold Vppb.VPPB; omega
  have hinst : (⟨0x3C80, 128, 1, vppbEntries⟩ : Group).instanceOf (0x3C80 + i / 8) = some (i / 8) := by
    simp only [Group.instanceOf, Nat.add_sub_cancel_left, Nat.mod_one, Nat.div_one]
    exact if_pos ⟨by omega, trivial, by omega⟩
  obtain ⟨e, he, hd⟩ := vppbEntries_find (i % 8) (by omega)
  have hends : ∀ g ∈ groupsBeforeVppb, g.EndsBy (0x3C80 + i / 8) := fun g hg =>
    (groupsBeforeVppb_endsBy g hg).mono (Nat.le_add_right ..)
  have hfind : findEntry (Vppb.VPPB i) = some (e, i / 8) := by
    rw [findEntry, hidx, hsub, groups_eq_vppb_split, findIn_append_of_endsBy hends, findIn_cons_of_find hinst he]
  simp only [dflt, hfind, hd]

/-- After chip reset every entry but the states of PD0, PD76 and the core clock reads its default (R471, R486). -/
theorem rd_reset_of_ne {k : Nat} (h0 : k ≠ Pd.PD_STATE 0) (h76 : k ≠ Pd.PD_STATE 76) (hc : k ≠ Clk.CLK_STATE) :
    Mach.reset.rd k = dflt k := by
  change Tab.get (dflt k) resetEntries k = dflt k
  rw [resetEntries, Tab.get_put_other _ _ _ _ _ _ hc, Tab.get_put_other _ _ _ _ _ _ h76,
    Tab.get_put_other _ _ _ _ _ _ h0, Tab.get_nil]

/-- The entries after an asserted chip reset are those of the reset state (R487). -/
theorem chipReset_rd (d : Dev) (k : Nat) : (chipReset d).m.rd k = Mach.reset.rd k := Mach.rd_of_pb rfl k

theorem chipReset_edge (d : Dev) : (chipReset d).m.edge = Edge.reset := rfl

theorem chipReset_rd_vppb (d : Dev) (i : Nat) (hi : i < 1024) : (chipReset d).m.rd (Vppb.VPPB i) = 0 := by
  rw [chipReset_rd, rd_reset_of_ne, dflt_vppb i hi] <;> simp only [Vppb.VPPB, Pd.PD_STATE, Clk.CLK_STATE] <;> omega

theorem exec_chipReset (s : State) : exec .chipReset s = .next (s.put (chipReset s.toDev)) := State.run_ok chipReset s

/-- Settles O60: a descriptor of 0 is an unbound vPPB, and the blocks at the ports start again with no bind. -/
theorem chipResetUnbindsEveryVppb : Obligations.chip_reset_unbinds_every_vppb := by
  intro s
  refine ⟨_, exec_chipReset s, fun i hi => ?_, ?_⟩
  · rw [State.put_toDev, chipReset_rd_vppb s.toDev i hi]
    rfl
  · rw [State.put_toDev, chipReset_edge]
    exact ⟨rfl, rfl⟩

end Sys2Proof.Machine

namespace Sys2Proof.Machine

/-! ### Entries and their groups (R33, R41) -/

/-- What a search finds is an entry of a group that has the index. -/
theorem exists_group_of_findIn {gs : List Group} {idx sub j : Nat} {e : Entry} (h : findIn gs idx sub = some (e, j)) :
    ∃ g ∈ gs, g.instanceOf idx = some j ∧ e ∈ g.entries ∧ e.sub = sub := by
  induction gs with
  | nil => cases h
  | cons g gs ih =>
    have later (h' : findIn gs idx sub = some (e, j)) :
        ∃ g' ∈ g :: gs, g'.instanceOf idx = some j ∧ e ∈ g'.entries ∧ e.sub = sub := by
      obtain ⟨g', hg', hfound⟩ := ih h'
      exact ⟨g', List.mem_cons_of_mem g hg', hfound⟩
    rw [findIn] at h
    split at h
    next i hi =>
      split at h
      next e' he =>
        cases h
        exact ⟨g, List.mem_cons_self, hi, List.mem_of_find?_eq_some he, by simpa using List.find?_some he⟩
      next => exact later h
    next => exact later h

/-- An index that an entry is found at is allocated (R41). -/
theorem indexExists_of_findEntry {k j : Nat} {e : Entry} (h : findEntry k = some (e, j)) : indexExists (k / 256) = true := by
  obtain ⟨g, hg, hi, _⟩ := exists_group_of_findIn h
  exact List.any_eq_true.mpr ⟨g, hg, by rw [hi]; rfl⟩

/-! ### Instances of an index group -/

theorem within_iff {base count i : Nat} : within base count i = true ↔ base ≤ i ∧ i < base + count := by
  simp only [within, Bool.and_eq_true, decide_eq_true_eq]

theorem within_add {base count i : Nat} (h : i < count) : within base count (base + i) = true :=
  within_iff.mpr ⟨Nat.le_add_right .., Nat.add_lt_add_left h base⟩

theorem within_of_lt {base count i : Nat} (h : i < base) : within base count i = false :=
  Bool.eq_false_iff.mpr fun hin => Nat.not_le.mpr h (within_iff.mp hin).1

theorem within_of_le {base count i : Nat} (h : base + count ≤ i) : within base count i = false :=
  Bool.eq_false_iff.mpr fun hin => Nat.not_lt.mpr h (within_iff.mp hin).2

/-! ### A refused operation on a path (R44, R517) -/

@[simp] theorem wholeStatus_singleton {st : Status} (h : st ≠ .notExecuted) (v : Nat) : wholeStatus [(st, v)] = st := by
  by_cases hok : st = .ok <;> simp [wholeStatus, hok, h]

/-- A single operation that fails a check leaves what its refusal leaves, and the answer with the check's status. -/
theorem pathOp_of_opFails {path : Path} {o : DictOp} {d : Dev} {w : Who} {st : Status}
    (hgo : entrance path [o] d = .go w) (hf : opFails w [] o d = some st) (hst : st ≠ .notExecuted) :
    pathOp path o d = (opRefuse w o st d).on (·.emit (.answer st 0)) := by
  simp [pathOp, pathRequest, hgo, request, runOps, hf, hst]

/-- A WRITE that fails a check is refused with the status of that check (R517). -/
theorem operationRefused_write {p : Path} {index sub len v : Nat} (hv : v < 2 ^ (8 * len)) :
    OperationRefused (.write p index sub len v) p ⟨.write, index, sub, len, 0, 0, v⟩ := by
  intro s w st ⟨hlive, hpath, hgo⟩ hf hst
  change s.dev (wfPath p && decide (v < 2 ^ (8 * len))) _ = _
  rw [hpath, decide_eq_true hv, Bool.and_true, State.dev_live hlive, pathOp_of_opFails hgo hf hst]
  rfl

/-- The checks of R517 before RANGE, passed by a WRITE of an entry that may be read and written: steps 6 to 8 decide. -/
theorem opFails_write {w : Who} {index sub len v j : Nat} {e : Entry} {d : Dev} (hsub : sub < 256)
    (hfault : d.m.mgmt.fault = false) (he : findEntry (index * 256 + sub) = some (e, j))
    (hpriv : privFails w e (index * 256 + sub) true d = false) (hlife : lifeFails w (index * 256 + sub) .write d = false)
    (hacc : e.acc = .rw) (hlen : len = e.ty.size) (hsmall : e.ty.size ≤ 1024) (look : Look) :
    opFails w look ⟨.write, index, sub, len, 0, 0, v⟩ d =
      writeFails w look e (index * 256 + sub) ⟨.write, index, sub, len, 0, 0, v⟩ d := by
  have hindex : indexExists index = true := by
    have h := indexExists_of_findEntry he
    rwa [show (index * 256 + sub) / 256 = index by omega] at h
  have haccess : accessFails e .write = false := by simp [accessFails, hacc]
  have hlength : lengthFails e (index * 256 + sub) ⟨.write, index, sub, len, 0, 0, v⟩ = false := by
    simp [lengthFails, opBlock, hlen, hsmall]
  simp [opFails, opKey, opWrites, hfault, hindex, he, hpriv, hlife, haccess, hlength]

/-- A write in range is refused with STATE where the entry's own rule says STATE: a block without power says the same. -/
theorem writeFails_of_writeCheck_state {w : Who} {look : Look} {e : Entry} {k : Nat} {o : DictOp} {d : Dev}
    (hsmall : e.ty.size ≤ 1024) (hfits : fits e (newValue e k o d) = true)
    (hstate : writeCheck w look k (keptBits e k (newValue e k o d)) d = some .state) :
    writeFails w look e k o d = some .state := by
  simp [writeFails, Nat.not_lt.mpr hsmall, hfits, hstate, withPower, thenCheck]

/-! ### The mirror selectors' own rule (R187) -/

/-- The entries of a mirror selector at subindices 2 to 6 may be read and written, and are small. -/
theorem mirrorEntries_rw_small : ∀ i : Fin 8, ∀ g ∈ groups, (g.instanceOf (0x2820 + i.val)).isSome →
    ∀ e ∈ g.entries, 2 ≤ e.sub → e.sub ≤ 6 → e.acc = .rw ∧ e.ty.size ≤ 1024 := by
  decide

theorem findEntry_mirror_rw_small {i n j : Nat} {e : Entry} (hi : i < 8) (hn : 2 ≤ n) (hn' : n ≤ 6)
    (he : findEntry ((0x2820 + i) * 256 + n) = some (e, j)) : e.acc = .rw ∧ e.ty.size ≤ 1024 := by
  obtain ⟨g, hg, hinst, hmem, hsub⟩ := exists_group_of_findIn he
  rw [show ((0x2820 + i) * 256 + n) / 256 = 0x2820 + i by omega] at hinst
  rw [show ((0x2820 + i) * 256 + n) % 256 = n by omega] at hsub
  exact mirrorEntries_rw_small ⟨i, hi⟩ g hg (by rw [hinst]; rfl) e hmem (hsub ▸ hn) (hsub ▸ hn')

/-- Writes of indices 0x2612 to 0x33FF come under the rules of the fabric, the NoC and coherence. -/
theorem writeCheck_eq_fabricCheck {k : Nat} (hlo : 0x2612 ≤ k / 256) (hhi : k / 256 < 0x3400) (w : Who) (look : Look)
    (v : Nat) (d : Dev) : writeCheck w look k v d = fabricCheck k v d.m := by
  have hmode : k ≠ Seam.SEAM_MODE := by unfold Seam.SEAM_MODE; omega
  have hclk : within 0x2580 36 (k / 256) = false := within_of_le (by omega)
  have hseam : within 0x2610 2 (k / 256) = false := within_of_le hlo
  simp [writeCheck, hmode, hclk, hseam, hhi, show ¬k / 256 < 0x2000 by omega, show ¬k / 256 < 0x2400 by omega,
    show ¬k / 256 < 0x2520 by omega]

/-- The rule of a mirror selector: STATE while it is enabled (R187). -/
theorem fabricCheck_mirror_enabled {m : Mach} {i n : Nat} (hi : i < 8) (hn : 2 ≤ n) (hn' : n ≤ 6)
    (hon : m.on (Mir.MIR_ENABLE i) = true) (v : Nat) : fabricCheck ((0x2820 + i) * 256 + n) v m = some .state := by
  have hidx : ((0x2820 + i) * 256 + n) / 256 = 0x2820 + i := by omega
  have hsub : ((0x2820 + i) * 256 + n) % 256 = n := by omega
  have hsteps : (0x2820 + i) * 256 + n ≠ Fab.HLC_STEPS := by unfold Fab.HLC_STEPS; omega
  have hclasses : (0x2820 + i) * 256 + n ≠ Fab.RESP_CLASSES := by unfold Fab.RESP_CLASSES; omega
  have halpha : (0x2820 + i) * 256 + n ≠ Adm.ALPHA := by unfold Adm.ALPHA; omega
  have hwithin : within 0x2820 8 (0x2820 + i) = true := within_add hi
  simp [fabricCheck, hsteps, hclasses, halpha, hidx, hsub, hwithin, hn, hn', hon, stateIf]

/-- No rule counts or reports a refused write of a mirror selector: it leaves the switch as it is. -/
theorem refuseEffect_mirror {i n : Nat} (hi : i < 8) (hn : n < 256) (v : Nat) (st : Status) (d : Dev) :
    refuseEffect ((0x2820 + i) * 256 + n) v st d = d := by
  have hidx : ((0x2820 + i) * 256 + n) / 256 = 0x2820 + i := by omega
  have hpd : within 0xA000 77 (0x2820 + i) = false := within_of_lt (by omega)
  have hgate : within 0x3810 64 (0x2820 + i) = false := within_of_lt (by omega)
  have hwitness : (0x2820 + i) * 256 + n ≠ Twin.WITNESS := by unfold Twin.WITNESS; omega
  have hswap : (0x2820 + i) * 256 + n ≠ Ct.SWAP := by unfold Ct.SWAP; omega
  have htoken : (0x2820 + i) * 256 + n ≠ Lc.LC_TOKEN := by unfold Lc.LC_TOKEN; omega
  simp [refuseEffect, hidx, hpd, hgate, hwitness, hswap, htoken]

theorem opRefuse_mirror_write {i n j len v : Nat} {e : Entry} {d : Dev} (hi : i < 8) (hn : n < 256)
    (he : findEntry ((0x2820 + i) * 256 + n) = some (e, j)) (hsmall : e.ty.size ≤ 1024) (w : Who) :
    opRefuse w ⟨.write, 0x2820 + i, n, len, 0, 0, v⟩ .state d = d := by
  simp [opRefuse, opKey, opWrites, he, Nat.not_lt.mpr hsmall, refuseEffect_mirror hi hn]

/-- Settles O58: the checks before RANGE pass, the selector's own rule says STATE, and its refusal leaves the switch as it is. -/
theorem mirrorSelectorIsFixedWhileEnabled : Obligations.mirror_selector_is_fixed_while_enabled := by
  intro p i n l v j e s w hi hn hn' hv hgranted he hpriv hlife hlen hfits hon hfault
  obtain ⟨hacc, hsmall⟩ := findEntry_mirror_rw_small hi hn hn' he
  have hn256 : n < 256 := by omega
  have hnew : newValue e ((0x2820 + i) * 256 + n) ⟨.write, 0x2820 + i, n, l, 0, 0, v⟩ s.toDev = v :=
    Nat.mod_eq_of_lt (hlen ▸ hv)
  have hrule (x : Nat) : writeCheck w [] ((0x2820 + i) * 256 + n) x s.toDev = some .state := by
    rw [writeCheck_eq_fabricCheck (by omega) (by omega)]
    exact fabricCheck_mirror_enabled hi hn hn' hon x
  have hfails : opFails w [] ⟨.write, 0x2820 + i, n, l, 0, 0, v⟩ s.toDev = some .state := by
    rw [opFails_write hn256 hfault he hpriv hlife hacc hlen hsmall]
    exact writeFails_of_writeCheck_state hsmall (by rw [hnew]; exact hfits) (hrule _)
  rw [operationRefused_write hv s w .state hgranted hfails (by decide), State.refusedOp,
    opRefuse_mirror_write hi hn256 he hsmall]
  rfl

end Sys2Proof.Machine
